-- ==== Sys2Proof/Word.lean ====
section
/-! DEFINITION. The word types of the YL-6400 model and the sparse map in which every keyed store is kept.
The device is little-endian and its registers, dictionary entries and signals are 32-bit words (R24, R25, R46). -/
namespace Sys2Proof

/-- A 32-bit word: a dictionary entry, a core register, a signal word. -/
abbrev Word := BitVec 32

/-- One byte of a memory. -/
abbrev Byte := BitVec 8

/-- A sparse store: key and value pairs, keys strictly rising, no pair equal to what an unlisted key reads as. -/
abbrev SMap (α : Type) := List (Nat × α)

end Sys2Proof
end

