-- ==== Sys2Proof/Syntax.lean ====
section
/-! DEFINITION. The commands of the YL-6400 as syntax: one constructor for each row of the command table, with the operands the row's
rule gives it, and the operand types. The device is modelled as a block: commands come from outside and change its state. -/
namespace Sys2Proof

/-- How a COP message reaches the device (R402): an Ethernet port, the SPI host, or the local request path of a processor (8 the Warden). -/
inductive CopPath where
  | port (k : Fin 2)
  | spi
  | proc (p : Fin 9)
  deriving DecidableEq, Repr

/-- A writer of the dictionary or the signal store: a processor by a local store (8 the Warden), a COP message, or engine 19. -/
inductive Writer where
  | proc (p : Fin 9)
  | cop (path : CopPath)
  | bellmetal
  deriving DecidableEq, Repr

/-- The header of a COP message that was accepted (R404): where it came from, what a reply needs, whether it was authenticated, the wake flag. -/
structure CopHdr where
  path : CopPath
  src : Nat
  mode : Nat
  dest : Nat
  tag : Nat
  key : Option Nat
  replyReq : Bool
  wake : Bool
  deriving DecidableEq, Repr

/-- One write of one dictionary entry. -/
structure DictReq where
  writer : Writer
  idx : Nat
  sub : Nat
  value : Word
  deriving DecidableEq, Repr

/-- The requester of a read (R13): a processor, the SPI host, or a network sender by its SRC. -/
inductive Requester where
  | proc (p : Fin 9)
  | spi
  | sender (src : Nat)
  deriving DecidableEq, Repr

/-- One value of a COP WRITE: a word, or the bytes of a STR or DOMAIN. -/
inductive CopValue where
  | word (w : Word)
  | bytes (b : List Byte)
  deriving DecidableEq, Repr

/-- One update record of R52: the signal word and the control word. -/
structure UpdateRec where
  word : Word
  control : Word
  deriving DecidableEq, Repr

/-- A local or mirror write to the staging half in the same engine clock as the heads of the ingest queues (R58). -/
structure LocalUpdate where
  writer : Writer
  update : UpdateRec
  deriving DecidableEq, Repr

/-- A request to an application entry (R480): who asked, the block, the values of a WRITE, and the settings it began with (R481). -/
structure AppReq where
  hdr : CopHdr
  idx : Nat
  sub : Nat
  count : Nat
  write : Bool
  values : List Word
  record : Nat
  deriving DecidableEq, Repr

/-- The commands (spec/opcode_table.json), in the table's order. -/
inductive Instr where
  /-- DICT_WRITE (R420). -/
  | dictWrite (ws : List DictReq)
  /-- RS_READ (R13). -/
  | rsRead (who : Requester) (idx sub : Nat)
  /-- COP_READ (R408). -/
  | copRead (h : CopHdr) (idx sub count : Nat)
  /-- COP_WRITE (R408). -/
  | copWrite (h : CopHdr) (idx sub : Nat) (values : List CopValue)
  /-- SIGNAL_FRAME (R410). -/
  | signalFrame (h : CopHdr) (records : List UpdateRec)
  /-- STAGE_UPDATE (R55). -/
  | stageUpdate (fromNet fromSpi : Bool) (rivals : List LocalUpdate)
  /-- STAGING_STORE (R53). -/
  | stagingStore (p : Fin 9) (signal : Fin 262144) (w : Word)
  /-- ATTR_WRITE (R60). -/
  | attrWrite (p : Fin 9) (signal : Fin 262144) (b : Byte)
  /-- SS_CLEAR (R68). -/
  | ssClear (w : Writer) (v : Word)
  /-- COMMIT_INSTANT (R179). -/
  | commitInstant
  /-- COMMIT_DONE (R62). -/
  | commitDone
  /-- IDLE_COMMIT (R67). -/
  | idleCommit
  /-- DEADLINE (R181). -/
  | deadline
  /-- STAGED_WRITE (R181). -/
  | stagedWrite (w : Writer) (idx sub : Nat) (v : Word)
  /-- HELD_WRITE_APPLY (R181). -/
  | heldWriteApply
  /-- RASTER_COMMIT_REQ (R180). -/
  | rasterCommitReq (w : Writer) (v : Word)
  /-- RASTER_CTRL (R183). -/
  | rasterCtrl (w : Writer) (v : Word)
  /-- RASTER_MODE_REQ (R184). -/
  | rasterModeReq (w : Writer) (v : Word)
  /-- RASTER_STOP (R184). -/
  | rasterStop
  /-- MODE_DONE (R184). -/
  | modeDone
  /-- LINE_LATCH (R89). -/
  | lineLatch (y : Nat)
  /-- LINE_FETCH_DONE (R89). -/
  | lineFetchDone (n : Fin 8) (y : Nat)
  /-- PLANE_FETCH_ERROR (R94). -/
  | planeFetchError (n : Fin 8) (y : Nat) (granule : Nat)
  /-- ACTIVE_LINE (R141). -/
  | activeLine (y : Nat) (written : List (Fin 8 × Nat)) (sprLate : Bool) (shadowLate : List Nat) (fifoFullAt : Option Nat)
  /-- PAL_LOAD_ARM (R87). -/
  | palLoadArm (w : Writer) (v : Word)
  /-- PAL_LOAD_DONE (R87). -/
  | palLoadDone
  /-- RULE_LOAD_ARM (R115). -/
  | ruleLoadArm (w : Writer) (v : Word)
  /-- RULE_LOAD_DONE (R116). -/
  | ruleLoadDone
  /-- SPR_LOAD_ARM (R120). -/
  | sprLoadArm (w : Writer) (v : Word)
  /-- SPR_LOAD_DONE (R121). -/
  | sprLoadDone
  /-- SPRITE_POSITIONS_DONE (R124). -/
  | spritePositionsDone
  /-- LS_WRITE (R132). -/
  | lsWrite (late : Nat)
  /-- LS_WAIT (R132). -/
  | lsWait (late : Nat)
  /-- LS_MARK (R132). -/
  | lsMark (late : Nat)
  /-- LS_LOOP (R131). -/
  | lsLoop
  /-- LS_END (R131). -/
  | lsEnd
  /-- FRAME_VERIFIED (R209). -/
  | frameVerified
  /-- WB_DESC_READ (R159). -/
  | wbDescRead
  /-- WB_DONE (R159). -/
  | wbDone
  /-- WB_BUS_ERROR (R160). -/
  | wbBusError (address : Nat)
  /-- HPD_ASSERT (R175). -/
  | hpdAssert (lanes : Nat) (rate : Nat) (edid : List Byte)
  /-- HPD_LOW (R175). -/
  | hpdLow
  /-- IRQ_HPD (R175). -/
  | irqHpd (lockLost : Bool)
  /-- HP_RETRAIN (R175). -/
  | hpRetrain (w : Writer) (v : Word)
  /-- TRAINING_END (R175). -/
  | trainingEnd (ok : Bool) (cause micros : Nat)
  /-- HP_AUX_DATA (R196). -/
  | hpAuxData (w : Writer) (store : Bool) (b : Byte) (answer : Option Byte)
  /-- ISOBAR_WORD (R192). -/
  | isobarWord (frame : BitVec 64) (crc : BitVec 8) (sameFrame : Bool) (edge : Nat)
  /-- ISOBAR_TIMEOUT (R192). -/
  | isobarTimeout
  /-- MOVE_GROUP (R258). -/
  | moveGroup (c : Fin 10)
  /-- IMM_HI (R274). -/
  | immHi (c : Fin 10) (v : Word)
  /-- ALU_ADD (R266). -/
  | aluAdd (c : Fin 10) (u : Fin 2) (t : Word)
  /-- ALU_SUB (R266). -/
  | aluSub (c : Fin 10) (u : Fin 2) (t : Word)
  /-- ALU_RSUB (R266). -/
  | aluRsub (c : Fin 10) (u : Fin 2) (t : Word)
  /-- ALU_AND (R266). -/
  | aluAnd (c : Fin 10) (u : Fin 2) (t : Word)
  /-- ALU_OR (R266). -/
  | aluOr (c : Fin 10) (u : Fin 2) (t : Word)
  /-- ALU_XOR (R266). -/
  | aluXor (c : Fin 10) (u : Fin 2) (t : Word)
  /-- ALU_ANDN (R266). -/
  | aluAndn (c : Fin 10) (u : Fin 2) (t : Word)
  /-- ALU_SHL (R266). -/
  | aluShl (c : Fin 10) (u : Fin 2) (t : Word)
  /-- ALU_SHR (R266). -/
  | aluShr (c : Fin 10) (u : Fin 2) (t : Word)
  /-- ALU_SRA (R266). -/
  | aluSra (c : Fin 10) (u : Fin 2) (t : Word)
  /-- ALU_ROTL (R266). -/
  | aluRotl (c : Fin 10) (u : Fin 2) (t : Word)
  /-- ALU_MIN (R266). -/
  | aluMin (c : Fin 10) (u : Fin 2) (t : Word)
  /-- ALU_MAX (R266). -/
  | aluMax (c : Fin 10) (u : Fin 2) (t : Word)
  /-- ALU_MINU (R266). -/
  | aluMinu (c : Fin 10) (u : Fin 2) (t : Word)
  /-- ALU_MAXU (R266). -/
  | aluMaxu (c : Fin 10) (u : Fin 2) (t : Word)
  /-- ALU_NEG (R266). -/
  | aluNeg (c : Fin 10) (u : Fin 2) (t : Word)
  /-- ALU_NOT (R266). -/
  | aluNot (c : Fin 10) (u : Fin 2) (t : Word)
  /-- ALU_SEXT8 (R266). -/
  | aluSext8 (c : Fin 10) (u : Fin 2) (t : Word)
  /-- ALU_SEXT16 (R266). -/
  | aluSext16 (c : Fin 10) (u : Fin 2) (t : Word)
  /-- CMP_EQ (R267). -/
  | cmpEq (c : Fin 10) (b : Word)
  /-- CMP_NE (R267). -/
  | cmpNe (c : Fin 10) (b : Word)
  /-- CMP_LT (R267). -/
  | cmpLt (c : Fin 10) (b : Word)
  /-- CMP_GE (R267). -/
  | cmpGe (c : Fin 10) (b : Word)
  /-- CMP_LTU (R267). -/
  | cmpLtu (c : Fin 10) (b : Word)
  /-- CMP_GEU (R267). -/
  | cmpGeu (c : Fin 10) (b : Word)
  /-- MUL_LS (R268). -/
  | mulLs (c : Fin 10) (t : Word)
  /-- MUL_LU (R268). -/
  | mulLu (c : Fin 10) (t : Word)
  /-- MUL_HS (R268). -/
  | mulHs (c : Fin 10) (t : Word)
  /-- MUL_HU (R268). -/
  | mulHu (c : Fin 10) (t : Word)
  /-- DIV_S (R269). -/
  | divS (c : Fin 10) (t : Word)
  /-- DIV_U (R269). -/
  | divU (c : Fin 10) (t : Word)
  /-- DIV_DONE (R269). -/
  | divDone (c : Fin 10)
  /-- FADD (R270). -/
  | fadd (c : Fin 10) (t : Word)
  /-- FSUB (R270). -/
  | fsub (c : Fin 10) (t : Word)
  /-- FMUL (R270). -/
  | fmul (c : Fin 10) (t : Word)
  /-- FMIN (R270). -/
  | fmin (c : Fin 10) (t : Word)
  /-- FMAX (R270). -/
  | fmax (c : Fin 10) (t : Word)
  /-- FABS (R270). -/
  | fabs (c : Fin 10) (t : Word)
  /-- FNEG (R270). -/
  | fneg (c : Fin 10) (t : Word)
  /-- FCVT_SW (R270). -/
  | fcvtSw (c : Fin 10) (t : Word)
  /-- FCVT_SWU (R270). -/
  | fcvtSwu (c : Fin 10) (t : Word)
  /-- FCVT_WS (R270). -/
  | fcvtWs (c : Fin 10) (t : Word)
  /-- FCVT_WUS (R270). -/
  | fcvtWus (c : Fin 10) (t : Word)
  /-- FEQ (R270). -/
  | feq (c : Fin 10) (t : Word)
  /-- FLT (R270). -/
  | flt (c : Fin 10) (t : Word)
  /-- FLE (R270). -/
  | fle (c : Fin 10) (t : Word)
  /-- LSU_LDW (R271). -/
  | lsuLdw (c : Fin 10) (a : Word)
  /-- LSU_LDH (R271). -/
  | lsuLdh (c : Fin 10) (a : Word)
  /-- LSU_LDB (R271). -/
  | lsuLdb (c : Fin 10) (a : Word)
  /-- LSU_LDSH (R271). -/
  | lsuLdsh (c : Fin 10) (a : Word)
  /-- LSU_LDSB (R271). -/
  | lsuLdsb (c : Fin 10) (a : Word)
  /-- LSU_STW (R271). -/
  | lsuStw (c : Fin 10) (a : Word)
  /-- LSU_STH (R271). -/
  | lsuSth (c : Fin 10) (a : Word)
  /-- LSU_STB (R271). -/
  | lsuStb (c : Fin 10) (a : Word)
  /-- LOAD_DATA_RETURN (R23). -/
  | loadDataReturn (c : Fin 10) (clocks : Nat)
  /-- STORE_DRAIN (R293). -/
  | storeDrain (c : Fin 10)
  /-- BRU_JMP (R272). -/
  | bruJmp (c : Fin 10) (a : Word)
  /-- BRU_CALL (R272). -/
  | bruCall (c : Fin 10) (a : Word)
  /-- BRU_RET (R272). -/
  | bruRet (c : Fin 10)
  /-- BRU_RETINT (R307). -/
  | bruRetint (c : Fin 10)
  /-- BRU_SYNC (R295). -/
  | bruSync (c : Fin 10)
  /-- GPIO_SET (R275). -/
  | gpioSet (c : Fin 10) (v : Word)
  /-- GPIO_CLR (R275). -/
  | gpioClr (c : Fin 10) (v : Word)
  /-- GPIO_TGL (R275). -/
  | gpioTgl (c : Fin 10) (v : Word)
  /-- CTL_WAIT (R276). -/
  | ctlWait (c : Fin 10)
  /-- CTL_MCDATA (R283). -/
  | ctlMcdata (c : Fin 10) (v : Word)
  /-- CORE_MC_DATA (R284). -/
  | coreMcData (w : Writer) (c : Fin 9) (v : Word)
  /-- MACRO_START (R282). -/
  | macroStart (c : Fin 10) (k : Fin 16) (ext : Byte) (arg : Word)
  /-- INT_ENTRY (R305). -/
  | intEntry (c : Fin 10)
  /-- FAULT_ENTRY (R303). -/
  | faultEntry (c : Fin 10) (code : Fin 6) (detail : Fin 5) (port : Fin 512)
  /-- SS_UPD (R280). -/
  | ssUpd (c : Fin 10) (next : Bool) (v : Word)
  /-- SS_RD (R280). -/
  | ssRd (c : Fin 10) (v : Word)
  /-- SS_RDST (R280). -/
  | ssRdst (c : Fin 10) (v : Word)
  /-- PL_WR (R280). -/
  | plWr (c : Fin 10) (sub : Byte) (v : Word)
  /-- PL_RD (R280). -/
  | plRd (c : Fin 10) (sub : Byte)
  /-- NQ_REQ (R417). -/
  | nqReq (c : Fin 10) (notify : Bool) (v : Word)
  /-- NQ_ST (R417). -/
  | nqSt (c : Fin 10) (tag : Word)
  /-- SOURCE_ASSERT (R313). -/
  | sourceAssert (src : Fin 1024)
  /-- IC_ROUTE (R312). -/
  | icRoute (w : Writer) (src : Fin 1024) (v : Word)
  /-- MASK_WRITE_ACCEPT (R320). -/
  | maskWriteAccept
  /-- IC_PENDING (R313). -/
  | icPending (w : Writer) (word : Fin 32) (v : Word)
  /-- DOORBELL_RING (R310). -/
  | doorbellRing (n : Fin 256)
  /-- IRQ_COMPLETE (R318). -/
  | irqComplete (c : Fin 10) (src : Word)
  /-- IRQ_THR (R317). -/
  | irqThr (c : Fin 10) (v : Word)
  /-- DMA_START (R334). -/
  | dmaStart (n : Fin 16) (addr : BitVec 40) (cop : Bool)
  /-- DMA_BELL (R332). -/
  | dmaBell (n : Fin 16)
  /-- DMA_HALT (R334). -/
  | dmaHalt (n : Fin 16)
  /-- DMA_ST (R280). -/
  | dmaSt (c : Fin 10) (n : Fin 16)
  /-- DESC_READ_DONE (R330). -/
  | descReadDone (n : Fin 16)
  /-- DESC_COMPLETE (R331). -/
  | descComplete (n : Fin 16)
  /-- DMA_ACCESS_ERROR (R335). -/
  | dmaAccessError (n : Fin 16) (write : Bool)
  /-- HALT_DONE (R334). -/
  | haltDone (n : Fin 16)
  /-- BLT_RUN (R338). -/
  | bltRun (addr : BitVec 40) (cop : Bool)
  /-- BLT_ABORT (R338). -/
  | bltAbort
  /-- BLT_ST (R280). -/
  | bltSt (c : Fin 10)
  /-- BLT_CMD_READ (R340). -/
  | bltCmdRead
  /-- BLT_SPAN_READS_DONE (R342). -/
  | bltSpanReadsDone
  /-- BLT_SPAN_WRITES_DONE (R342). -/
  | bltSpanWritesDone
  /-- BLT_ERROR (R344). -/
  | bltError (address : BitVec 40)
  /-- TM_WRAP (R348). -/
  | tmWrap (n : Fin 40)
  /-- TM_MATCH (R351). -/
  | tmMatch (n : Fin 40) (written : Option Word)
  /-- TM_GROUP_START (R355). -/
  | tmGroupStart (w : Writer) (v : Word)
  /-- TM_GROUP_STOP (R355). -/
  | tmGroupStop (w : Writer) (v : Word)
  /-- AT_GROUP_START (R355). -/
  | atGroupStart (w : Writer) (v : Word)
  /-- AT_GROUP_STOP (R355). -/
  | atGroupStop (w : Writer) (v : Word)
  /-- TM_STAGGER (R355). -/
  | tmStagger (w : Writer) (v : Word)
  /-- TM_COUNT (R349). -/
  | tmCount (w : Writer) (n : Fin 40) (v : Word)
  /-- TM_RELOAD (R350). -/
  | tmReload (w : Writer) (n : Fin 40) (v : Word)
  /-- TM_COMPARE (R351). -/
  | tmCompare (w : Writer) (n : Fin 40) (v : Word)
  /-- TM_LOCK_START (R357). -/
  | tmLockStart (n : Fin 40)
  /-- PIN_MUX (R363). -/
  | pinMux (w : Writer) (k : Fin 48) (v : Word)
  /-- PIN_HANDOVER_END (R363). -/
  | pinHandoverEnd (k : Fin 48)
  /-- PIN_CFG (R364). -/
  | pinCfg (w : Writer) (k : Fin 48) (v : Word)
  /-- PIN_DETECT (R365). -/
  | pinDetect (k : Fin 48) (level : Bool)
  /-- PATTERN_MATCH (R367). -/
  | patternMatch (u : Fin 4)
  /-- PAT_GRANT (R367). -/
  | patGrant (w : Writer) (v : Word)
  /-- AQ_PUSH (R373). -/
  | aqPush (stamp : BitVec 64) (arg : Word) (code : Byte)
  /-- SAMPLE_BOUNDARY (R375). -/
  | sampleBoundary
  /-- VOICE_ARM (R377). -/
  | voiceArm (arg : Word)
  /-- VOICE_START (R378). -/
  | voiceStart (arg : Word) (accepted : BitVec 64)
  /-- VOICE_STOP (R374). -/
  | voiceStop (arg : Word)
  /-- TONE_START (R381). -/
  | toneStart (arg : Word)
  /-- TONE_STOP (R374). -/
  | toneStop (arg : Word)
  /-- GAIN (R388). -/
  | gain (arg : Word)
  /-- ROUTE (R389). -/
  | route (arg : Word)
  /-- AUD_MARK (R374). -/
  | audMark (arg : Word)
  /-- VOICE_FETCH_RETURN (R377). -/
  | voiceFetchReturn (v : Fin 48)
  /-- VOICE_FETCH_ERROR (R380). -/
  | voiceFetchError (v : Fin 48)
  /-- GAIN_ZC_TIMEOUT (R388). -/
  | gainZcTimeout (g : Fin 96)
  /-- TDM_FS_LOSS (R383). -/
  | tdmFsLoss (n : Fin 2)
  /-- TDM_CFG (R391). -/
  | tdmCfg (w : Writer) (n : Fin 2) (v : Word)
  /-- AUDIO_RESYNC (R372). -/
  | audioResync
  /-- PAGING (R414). -/
  | paging (h : CopHdr) (stream rate time : Nat) (samples : List Nat)
  /-- ETH_FRAME_RX (R395). -/
  | ethFrameRx (k : Fin 2) (frame : List Byte) (fcsGood own : Bool)
  /-- SPI_HOST_FRAME (R403). -/
  | spiHostFrame (bytes : List Byte)
  /-- COP_REPLY_SEND (R405). -/
  | copReplySend
  /-- SEG_START (R411). -/
  | segStart (h : CopHdr) (idx sub dir total crc : Nat)
  /-- SEG_DATA (R411). -/
  | segData (h : CopHdr) (offset : Nat) (data : List Byte)
  /-- SEG_ACK (R411). -/
  | segAck (h : CopHdr) (next : Nat)
  /-- SEG_RESEND (R411). -/
  | segResend (xfer : Nat)
  /-- SEG_TIMEOUT (R411). -/
  | segTimeout (xfer : Nat)
  /-- SUB_SAMPLE (R412). -/
  | subSample (n : Fin 64)
  /-- PROGRESS_SEND (R413). -/
  | progressSend (value : Nat)
  /-- LOP_DONE (R413). -/
  | lopDone (status : Nat)
  /-- DICT_SAVE (R418). -/
  | dictSave (w : Writer) (v : Word)
  /-- TB_SYNC_RX (R399). -/
  | tbSyncRx (k : Fin 2) (best : Bool) (offset : Int) (hops : Nat)
  /-- TB_LOST (R401). -/
  | tbLost (win : Bool)
  /-- NET_TB_SET (R398). -/
  | netTbSet (w : Writer) (lo hi : Word)
  /-- POLL_SEND (R421). -/
  | pollSend
  /-- POLL_REPLY (R421). -/
  | pollReply (d status value : Nat)
  /-- RAW_RX (R422). -/
  | rawRx (frame : List Byte)
  /-- RAW_TX_DONE (R422). -/
  | rawTxDone
  /-- LINK_CHANGE (R422). -/
  | linkChange (k : Fin 2) (up : Bool) (speed : Nat)
  /-- APP_REQUEST (R480). -/
  | appRequest (q : AppReq)
  /-- APP_DONE (R480). -/
  | appDone (p : Fin 9)
  /-- APP_TIMEOUT (R481). -/
  | appTimeout (p : Fin 9)
  /-- BM_START (R225). -/
  | bmStart
  /-- BM_BOOT_DONE (R225). -/
  | bmBootDone
  /-- BM_RESTART (R225). -/
  | bmRestart
  /-- BM_WATCHDOG (R222). -/
  | bmWatchdog (v : Word)
  /-- WATCHDOG_HALF (R223). -/
  | watchdogHalf
  /-- WATCHDOG (R224). -/
  | watchdog
  /-- BM_SESSION_OPEN (R242). -/
  | bmSessionOpen (typ : Nat)
  /-- BM_SESSION_CLOSE (R242). -/
  | bmSessionClose
  /-- SEAL_SW_CHANGE (R246). -/
  | sealSwChange (closed : Bool)
  /-- BM_FW_COMMIT (R251). -/
  | bmFwCommit
  /-- FW_VERIFY_DONE (R251). -/
  | fwVerifyDone
  /-- BM_BANK (R237). -/
  | bmBank (v : Word)
  /-- BANK_CHECK_DONE (R237). -/
  | bankCheckDone
  /-- BM_ERR_RELEASE (R240). -/
  | bmErrRelease
  /-- ID_SHOW (R241). -/
  | idShow (fromLegal : Bool)
  /-- ID_TIME_EXPIRE (R241). -/
  | idTimeExpire
  /-- BM_WAKE (R222). -/
  | bmWake
  /-- BM_REVERIFY (R240). -/
  | bmReverify
  /-- REVERIFY_DONE (R240). -/
  | reverifyDone
  /-- BM_AUDIT_FREE (R245). -/
  | bmAuditFree (seq : Word)
  /-- COMPACTION_DONE (R245). -/
  | compactionDone
  /-- BM_MIRROR_DATA (R222). -/
  | bmMirrorData (w : Word)
  /-- MIRROR_REFRESH (R255). -/
  | mirrorRefresh (temp : Int)
  /-- LGL_MSG_IN (R250). -/
  | lglMsgIn (h : CopHdr) (message : List Byte)
  /-- IN_DONE (R250). -/
  | inDone
  /-- OUT_SEND (R250). -/
  | outSend (len : Nat)
  /-- LGL_MSG_OUT_ACK (R250). -/
  | lglMsgOutAck (w : Writer) (v : Word)
  /-- CAL_START (R234). -/
  | calStart (n : Fin 4)
  /-- CAL_SWEEP (R234). -/
  | calSweep (n : Fin 4)
  /-- FIR_COEF_WRITE (R235). -/
  | firCoefWrite (n : Fin 4) (v : Word)
  /-- CAL_DONE (R234). -/
  | calDone (n : Fin 4) (ok : Bool)
  /-- LC_SAMPLE (R232). -/
  | lcSample (n : Fin 4) (dec : Int) (overrange refLow supplyLow : Bool)
  /-- EXCITATION_REVERSAL (R231). -/
  | excitationReversal (n : Fin 4)
  /-- BM_CHN_SAMPLE (R232). -/
  | bmChnSample (n : Fin 4)
  /-- SER_FRAME_RX (R247). -/
  | serFrameRx (content : List Byte)
  /-- IDENT (R248). -/
  | ident
  /-- AUDIT_READ (R248). -/
  | auditRead
  /-- AUDIT_RANGE (R248). -/
  | auditRange
  /-- SER_UNKNOWN_TYPE (R248). -/
  | serUnknownType
  /-- SER_RX_POP (R249). -/
  | serRxPop
  /-- SER_TX_DATA (R249). -/
  | serTxData (w : Word)
  /-- SER_TX_SEND (R249). -/
  | serTxSend (v : Word)
  /-- SER_TX_DONE (R249). -/
  | serTxDone
  /-- CLOCK_FALLBACK (R219). -/
  | clockFallback
  /-- PWR_STATE_REQ (R427). -/
  | pwrStateReq (w : Writer) (v : Word)
  /-- STATE_DONE (R427). -/
  | stateDone
  /-- PWR_DOMAIN_REQ (R425). -/
  | pwrDomainReq (w : Writer) (v : Word)
  /-- DOMAIN_SWITCHED (R424). -/
  | domainSwitched (d : Fin 25)
  /-- WAKE_PIN (R431). -/
  | wakePin
  /-- RESUME_DONE (R428). -/
  | resumeDone
  /-- WARM_START (R435). -/
  | warmStart (w : Writer)
  /-- COLD_START (R435). -/
  | coldStart (w : Writer)
  /-- POWER_CYCLE (R439). -/
  | powerCycle (w : Writer)
  /-- PWR_BOOT_OK (R436). -/
  | pwrBootOk (w : Writer) (v : Word)
  /-- BOOT_TIMEOUT (R436). -/
  | bootTimeout
  /-- MC_TRAIN_DONE (R39). -/
  | mcTrainDone (reloadOk ok : Bool) (micros : Nat)
  /-- CLK_FAIL (R430). -/
  | clkFail
  /-- WARDEN_WDT (R439). -/
  | wardenWdt
  /-- REC_CMD (R439). -/
  | recCmd (w : Writer) (v : Word)
  /-- REINIT_DONE (R439). -/
  | reinitDone (e : Fin 37)
  /-- LADDER_WINDOW_EXPIRE (R440). -/
  | ladderWindowExpire (e : Fin 37)
  /-- SUPPLY_LOSS (R489). -/
  | supplyLoss
  /-- SEC_LC_REQ (R445). -/
  | secLcReq (fromDebugger : Bool) (w : Writer) (v : Word)
  /-- LC_FUSES_BLOWN (R445). -/
  | lcFusesBlown
  /-- SEC_FUSE_PROG (R446). -/
  | secFuseProg (w : Writer) (value : List Byte) (readBack : Option (List Byte))
  /-- IDCODE (R451). -/
  | idcode
  /-- SAMPLE_PRELOAD (R451). -/
  | samplePreload (v : BitVec 48)
  /-- EXTEST (R451). -/
  | extest (v : BitVec 48)
  /-- BYPASS (R451). -/
  | bypass
  /-- DAP_READ (R454). -/
  | dapRead (target : Fin 64) (addr : Word)
  /-- DAP_WRITE (R454). -/
  | dapWrite (target : Fin 64) (addr data : Word)
  /-- DAP_HALT (R454). -/
  | dapHalt (target : Fin 64)
  /-- DAP_RESUME (R454). -/
  | dapResume (target : Fin 64) (step : Bool)
  /-- DBG_ATTACH (R452). -/
  | dbgAttach
  /-- DBG_DETACH (R452). -/
  | dbgDetach
  /-- DBG_CHALLENGE (R453). -/
  | dbgChallenge
  /-- DBG_RESPONSE (R453). -/
  | dbgResponse (perm : Word) (key sig : List Byte)
  /-- AUTH_CHECK_DONE (R453). -/
  | authCheckDone
  /-- DBG_WAKE (R457). -/
  | dbgWake (request : Bool)
  /-- TRST_N (R452). -/
  | trstN
  /-- PERF_CAPTURE (R466). -/
  | perfCapture
  /-- DUMP_NOW (R466). -/
  | dumpNow (w : Writer)
  /-- CLEAR_ALL (R472). -/
  | clearAll (w : Writer)
  /-- PERF_RECORD_DONE (R468). -/
  | perfRecordDone
  /-- ST_REQ (R470). -/
  | stReq (w : Writer) (v : Word)
  /-- ST_DONE (R470). -/
  | stDone (fail : Option (Nat × Nat))
  /-- HEALTH_WINDOW_END (R471). -/
  | healthWindowEnd
  /-- TEMP_HIGH (R473). -/
  | tempHigh (temp : Int)
  /-- RESET_RELEASE (R489). -/
  | resetRelease (bootSel : Fin 4)
  /-- REFERENCE_RESTORED (R430). -/
  | referenceRestored
  /-- LF_CRYSTAL_VALID (R429). -/
  | lfCrystalValid
  /-- RESULT_COMPLETE (R264). -/
  | resultComplete (c : Fin 10)
  /-- DMA_DATA_READ_DONE (R331). -/
  | dmaDataReadDone (n : Fin 16)
  /-- TDM_FS_RETURN (R383). -/
  | tdmFsReturn (n : Fin 2) (rate : Nat)
  /-- SYNC_INTERVAL (R399). -/
  | syncInterval
  /-- TB_PPS (R486). -/
  | tbPps
  /-- GATE_CONTROL_ENTRY (R396). -/
  | gateControlEntry (k : Fin 2)
  /-- ADDRESS_AGEING (R395). -/
  | addressAgeing (mac : BitVec 48)
  deriving DecidableEq, Repr

end Sys2Proof
end

