-- ==== Sys2Proof/Decode.lean ====
section
/-! DEFINITION. The decoder of the command table. No row of the table gives bits: a command is not an encoded word, so no word spells one. The
encodings that the device itself decodes (parcels, COP messages, update records, lists) are read in Machine/. -/
namespace Sys2Proof

/-- The command that a word spells by the table's bits: none. -/
def decodeTableWord (_nbits _w : Nat) : Option Instr := none

end Sys2Proof
end

