-- ==== Sys2Proof/Machine/Bits.lean ====
section
/-! DEFINITION. Bit fields, sign extension and byte order, used by every engine of the model. -/
namespace Sys2Proof.Machine

/-- Bits [lo+n-1:lo] of a number. -/
def bits (v lo n : Nat) : Nat := v / 2 ^ lo % 2 ^ n

/-- Bit b of a number as a Bool. -/
def bitAt (v b : Nat) : Bool := v / 2 ^ b % 2 == 1

/-- `v` with bits [lo+n-1:lo] replaced by the low bits of `x`. -/
def putBits (v lo n x : Nat) : Nat :=
  v / 2 ^ (lo + n) * 2 ^ (lo + n) + (x % 2 ^ n) * 2 ^ lo + v % 2 ^ lo

/-- A number read as a two's complement value of `n` bits. -/
def toSigned (n v : Nat) : Int :=
  if v % 2 ^ n < 2 ^ (n - 1) then (v % 2 ^ n : Nat) else ((v % 2 ^ n : Nat) : Int) - (2 ^ n : Nat)

/-- An integer written as `n` bits of two's complement. -/
def ofSigned (n : Nat) (i : Int) : Nat := (i % (2 ^ n : Nat)).toNat

/-- A word as a signed integer. -/
def wordInt (w : Word) : Int := toSigned 32 w.toNat

/-- A number as a word, wrapping. -/
def natWord (n : Nat) : Word := BitVec.ofNat 32 n

/-- An integer as a word, wrapping. -/
def intWord (i : Int) : Word := BitVec.ofNat 32 (ofSigned 32 i)

/-- The bits of `v` selected by `mask`. -/
def maskAnd (v mask : Nat) : Nat := v &&& mask

/-- `v` without the bits of `mask` (32-bit words). -/
def maskClear (v mask : Nat) : Nat := v &&& (0xFFFFFFFF ^^^ (mask % 2 ^ 32))

/-- Rounds down to a multiple of `m`. -/
def alignDown (v m : Nat) : Nat := v / m * m

/-- Clamps an integer into a range. -/
def clampInt (lo hi x : Int) : Int := if x < lo then lo else if hi < x then hi else x

/-- A little-endian number from bytes. -/
def ofBytes : List Byte → Nat
  | [] => 0
  | b :: bs => b.toNat + 256 * ofBytes bs

/-- `n` little-endian bytes of a number. -/
def toBytes : Nat → Nat → List Byte
  | 0, _ => []
  | n + 1, v => BitVec.ofNat 8 v :: toBytes n (v / 256)

/-- A big-endian number from bytes. -/
def ofBytesBE (bs : List Byte) : Nat := bs.foldl (fun a b => a * 256 + b.toNat) 0

/-- `n` big-endian bytes of a number. -/
def toBytesBE (n v : Nat) : List Byte := (toBytes n v).reverse

/-- The list of one bit per position, least significant first. -/
def bitsOf (n v : Nat) : List Bool := (List.range n).map (bitAt v)

/-- The number of bits of `v` below position `n` that are set. -/
def popCount (n v : Nat) : Nat := ((bitsOf n v).filter id).length

/-- The positions below `n` of the bits of `v` that are set, rising. -/
def setBits (n v : Nat) : List Nat := (List.range n).filter (bitAt v)

/-- Splits a list into pieces of `n` (the last may be shorter); `fuel` bounds the number of pieces. -/
def chunksOf {α : Type} (n : Nat) : Nat → List α → List (List α)
  | 0, _ => []
  | fuel + 1, l => if l.isEmpty then [] else l.take n :: chunksOf n fuel (l.drop n)

/-- Runs of equal values: how many accesses a row of addresses makes when each access serves the neighbours that it covers. -/
def accessRuns : List Nat → Nat
  | [] => 0
  | [_] => 1
  | a :: b :: rest => (if a = b then 0 else 1) + accessRuns (b :: rest)

/-- The values that begin a run. -/
def runHeads : List Nat → List Nat
  | [] => []
  | [a] => [a]
  | a :: b :: rest => if a = b then runHeads (b :: rest) else a :: runHeads (b :: rest)

end Sys2Proof.Machine
end

