-- ==== Sys2Proof/Machine/DictTable.lean ====
section
/-! DEFINITION. The object dictionary as the spec's entry tables give it: for every index its subindexes, their type, access code,
writable bits, reset value, persistence class, owner and reserved values (R12, R418, R419, R420, and the rule named at each row). -/
namespace Sys2Proof.Machine

/-- The types of entries (R25, R408). -/
inductive EntryType where
  | u8 | u16 | i16 | bool | u32 | i32 | bits32 | u64 | str | domain
  deriving DecidableEq, Repr

/-- The access codes (R12). -/
inductive Access where
  | rw | ro | wo | w1c | rs
  deriving DecidableEq, Repr

/-- The persistence classes (R418); `retained` is 'held in retention'. -/
inductive Persist where
  | volatile | retained | saved | sealed
  deriving DecidableEq, Repr

/-- The owners (R419): any writer, the Warden, the processor the entry serves, or the holder of key slot 0 (R422). -/
inductive Owner where
  | any | warden | own | keyed
  deriving DecidableEq, Repr

/-- Checks of reserved content that are not a range of one field; `none` for entries without one. -/
inductive Check where
  | none
  | pollRange
  | appRange
  | recCmd
  | route
  | stagger
  | tmCtrl
  | tmCount
  | patGrant
  | pinMux
  | syncInt
  | prioOrder
  | modeReq
  | staggerN
  | blink
  | rgn
  | coef
  | loopStart
  | srcRoute
  | ringRd
  | perfSel
  | bmpSrc
  deriving DecidableEq, Repr

/-- One row: `n` subindexes from `sub`; `ranges` lists fields (low bit, width, least, greatest) whose other values are reserved. -/
structure DictRow where
  sub : Nat
  n : Nat
  typ : EntryType
  acc : Access
  mask : Nat
  reset : Nat
  cls : Persist
  owner : Owner
  ranges : List (Nat × Nat × Nat × Nat)
  check : Check
  deriving DecidableEq, Repr

/-- The rows of an index, under the index that stands for its family (`dictFamily`). -/
def dictRows : Nat → List DictRow
  | 0x1000 => [
      ⟨0x1, 0x1, .u16, .ro, 0xffffffff, 0x6400, .volatile, .any, [], .none⟩ /- VARIANT_CODE, R6 -/,
      ⟨0x2, 0x1, .u16, .ro, 0xffffffff, 0x0, .volatile, .any, [], .none⟩ /- SILICON_STEP, R6 -/,
      ⟨0x3, 0x1, .u8, .ro, 0xffffffff, 0x8, .volatile, .any, [], .none⟩ /- APP_CORE_COUNT, R6 -/,
      ⟨0x4, 0x1, .bits32, .ro, 0xffffffff, 0xffffffff, .volatile, .any, [], .none⟩ /- ENGINE_PRESENT_LO, R6 -/,
      ⟨0x5, 0x1, .bits32, .ro, 0xffffffff, 0x1f, .volatile, .any, [], .none⟩ /- ENGINE_PRESENT_HI, R6 -/,
      ⟨0x6, 0x1, .u32, .ro, 0xffffffff, 0x7e9000, .volatile, .any, [], .none⟩ /- HEADP_MAX_PIXELS, R6 -/,
      ⟨0x7, 0x1, .u8, .ro, 0xffffffff, 0x40, .volatile, .any, [], .none⟩ /- AUDIO_VOICES, R6 -/,
      ⟨0x8, 0x1, .u32, .ro, 0xffffffff, 0x0, .volatile, .any, [], .none⟩ /- EXT_MEM_SIZE, R6 -/,
      ⟨0x9, 0x1, .u8, .ro, 0xffffffff, 0x4, .volatile, .any, [], .none⟩ /- LOADCELL_CHANNELS, R6 -/,
      ⟨0xa, 0x1, .u32, .ro, 0xffffffff, 0x2000, .volatile, .any, [], .none⟩ /- VSRAM_SIZE, R6 -/,
      ⟨0xb, 0x1, .u32, .ro, 0xffffffff, 0x40000, .volatile, .any, [], .none⟩ /- SIGNAL_COUNT, R6 -/,
      ⟨0xc, 0x1, .bits32, .ro, 0xffffffff, 0x7, .volatile, .any, [], .none⟩ /- OUTPUT_PATHS, R6 -/,
      ⟨0xd, 0x3, .u32, .ro, 0xffffffff, 0x0, .volatile, .any, [], .none⟩ /- CAP_RESERVED, R6 -/]
  | 0x1100 => [
      ⟨0x1, 0x1, .u16, .rw, 0xfff, 0x0, .saved, .any, [], .none⟩ /- COP_DEVICE_ID, R422 -/,
      ⟨0x2, 0x1, .u16, .rw, 0xffff, 0xc1a0, .saved, .any, [], .none⟩ /- COP_UDP_PORT, R422 -/,
      ⟨0x3, 0x1, .bits32, .rw, 0x7fff, 0x6000, .saved, .any, [], .none⟩ /- COP_VLAN, R422 -/,
      ⟨0x4, 0x1, .u32, .rw, 0xffffffff, 0x0, .saved, .any, [], .none⟩ /- COP_IP4_ADDR, R422 -/,
      ⟨0x5, 0x1, .u8, .rw, 0xff, 0x0, .saved, .any, [(0, 8, 0, 32)], .none⟩ /- COP_IP4_PREFIX, R422 -/,
      ⟨0x6, 0x1, .u32, .rw, 0xffffffff, 0x0, .saved, .any, [], .none⟩ /- COP_IP4_GW, R422 -/,
      ⟨0x7, 0x1, .domain, .rw, 0xffffffff, 0x0, .saved, .any, [], .none⟩ /- COP_IP6_ADDR, R422 -/,
      ⟨0x8, 0x1, .bits32, .rw, 0x7, 0x0, .saved, .any, [(0, 2, 0, 2)], .none⟩ /- COP_AUTH_POLICY, R422 -/,
      ⟨0x9, 0x1, .u8, .rw, 0xf, 0x0, .saved, .any, [], .none⟩ /- COP_TX_KEY, R422 -/]
  | 0x1101 => [
      ⟨0x0, 0x8, .bits32, .rw, 0xffffffff, 0x0, .saved, .any, [], .none⟩ /- COP_GROUPS, R422 -/]
  | 0x1102 => [
      ⟨0x0, 0x10, .domain, .wo, 0xffffffff, 0x0, .sealed, .keyed, [], .none⟩ /- COP_KEY, R422 -/]
  | 0x1103 => [
      ⟨0x1, 0x1, .u32, .ro, 0xffffffff, 0x0, .volatile, .any, [], .none⟩ /- COP_SEQ_FLOOR, R422 -/,
      ⟨0x2, 0x1, .u32, .ro, 0xffffffff, 0x0, .retained, .any, [], .none⟩ /- COP_SEQ, R416 -/]
  | 0x1200 => [
      ⟨0x1, 0x1, .u8, .rw, 0xff, 0x0, .saved, .any, [(0, 8, 0, 1)], .none⟩ /- SYS_ROLE, R422 -/,
      ⟨0x2, 0x1, .bits32, .wo, 0x1, 0x0, .volatile, .any, [], .none⟩ /- DICT_SAVE, R422 -/,
      ⟨0x3, 0x1, .bits32, .w1c, 0x7, 0x0, .volatile, .any, [], .none⟩ /- DICT_FLAGS, R422 -/,
      ⟨0x10, 0x1, .u32, .ro, 0xffffffff, 0x0, .volatile, .any, [], .none⟩ /- DICT_CNT_RO_WRITES, R419 -/,
      ⟨0x11, 0x1, .u32, .ro, 0xffffffff, 0x0, .volatile, .any, [], .none⟩ /- DICT_CNT_NOT_OWNER, R419 -/,
      ⟨0x12, 0x1, .u32, .ro, 0xffffffff, 0x0, .volatile, .any, [], .none⟩ /- DICT_CNT_SUPERSEDED, R409 -/,
      ⟨0x13, 0x1, .u32, .ro, 0xffffffff, 0x0, .volatile, .any, [], .none⟩ /- DICT_RSVD_WRITES, R420 -/]
  | 0x1201 => [
      ⟨0x1, 0x1, .bits32, .rw, 0xffff0001, 0x3e80000, .volatile, .any, [(16, 16, 10, 60000)], .none⟩ /- POLL_CTRL, R422 -/,
      ⟨0x2, 0x1, .bits32, .rw, 0xfff0fff, 0x0, .volatile, .any, [], .pollRange⟩ /- POLL_RANGE, R422 -/,
      ⟨0x3, 0x1, .bits32, .rw, 0xffffff, 0x11220, .volatile, .any, [], .none⟩ /- POLL_ENTRY, R422 -/,
      ⟨0x4, 0x1, .u32, .rw, 0xfffffff8, 0x0, .volatile, .any, [], .none⟩ /- POLL_TABLE, R422 -/]
  | 0x1210 => [
      ⟨0x1, 0x1, .u8, .ro, 0xffffffff, 0x0, .volatile, .any, [], .none⟩ /- LOP_OP, R413 -/,
      ⟨0x2, 0x1, .u8, .ro, 0xffffffff, 0x0, .volatile, .any, [], .none⟩ /- LOP_UNIT, R413 -/,
      ⟨0x3, 0x1, .u32, .ro, 0xffffffff, 0x0, .volatile, .any, [], .none⟩ /- LOP_VALUE, R413 -/,
      ⟨0x4, 0x1, .u8, .ro, 0xffffffff, 0x0, .volatile, .any, [], .none⟩ /- LOP_STATE, R413 -/,
      ⟨0x5, 0x1, .u8, .ro, 0xffffffff, 0x0, .volatile, .any, [], .none⟩ /- LOP_STATUS, R413 -/]
  | 0x1220 => [
      ⟨0x1, 0x1, .bits32, .ro, 0xffffffff, 0x0, .volatile, .any, [], .none⟩ /- HEALTH_SUMMARY, R471 -/,
      ⟨0x2, 0x1, .i16, .ro, 0xffffffff, 0x0, .volatile, .any, [], .none⟩ /- HEALTH_TEMP, R472 -/,
      ⟨0x3, 0x1, .u16, .rw, 0xffff, 0x3e8, .volatile, .any, [(0, 16, 100, 60000)], .none⟩ /- HEALTH_WINDOW, R472 -/,
      ⟨0x4, 0x1, .i16, .rw, 0xffff, 0x690, .volatile, .any, [], .none⟩ /- HEALTH_TEMP_LIMIT, R472 -/,
      ⟨0x5, 0x2, .bits32, .ro, 0xffffffff, 0x0, .volatile, .any, [], .none⟩ /- HEALTH_LADDER, R472 -/]
  | 0x1230 => [
      ⟨0x0, 0x9, .bits32, .rw, 0xffffffff, 0xa000000, .saved, .warden, [(24, 8, 1, 255)], .none⟩ /- APP_CFG, R479 -/]
  | 0x1231 => [
      ⟨0x0, 0x10, .bits32, .rw, 0x8fffffff, 0x0, .saved, .warden, [], .appRange⟩ /- APP_RANGE, R479 -/]
  | 0x1232 => [
      ⟨0x0, 0x9, .bits32, .wo, 0x1, 0x0, .volatile, .own, [], .none⟩ /- APP_DONE, R479 -/,
      ⟨0x10, 0x1, .u32, .ro, 0xffffffff, 0x0, .volatile, .any, [], .none⟩ /- APP_CNT_TIMEOUT, R479 -/]
  | 0x1300 => [
      ⟨0x1, 0x1, .bits32, .rw, 0xffff0003, 0x0, .volatile, .any, [], .none⟩ /- SUB_CFG, R422 -/,
      ⟨0x2, 0x1, .bits32, .rw, 0xffffff, 0x0, .volatile, .any, [], .none⟩ /- SUB_TARGET, R422 -/,
      ⟨0x3, 0x1, .bits32, .rw, 0x3fff, 0x0, .volatile, .any, [(12, 2, 0, 2)], .none⟩ /- SUB_DEST, R422 -/]
  | 0x203F => [
      ⟨0x1, 0x1, .bits32, .ro, 0xffffffff, 0x1, .volatile, .any, [], .none⟩ /- CORE_STATE, R284 -/,
      ⟨0x2, 0x1, .u16, .rw, 0x1ff, 0x0, .volatile, .warden, [], .none⟩ /- CORE_MC_SEL, R284 -/,
      ⟨0x3, 0x1, .u32, .rw, 0xffffffff, 0x10000000, .volatile, .warden, [], .none⟩ /- CORE_MC_DATA, R284 -/,
      ⟨0x4, 0x1, .bits32, .ro, 0xffffffff, 0x0, .volatile, .any, [], .none⟩ /- CORE_MC_STATUS, R284 -/,
      ⟨0x5, 0x1, .bits32, .ro, 0xffffffff, 0x0, .volatile, .any, [], .none⟩ /- CORE_LAST_FAULT, R284 -/,
      ⟨0x6, 0x1, .u32, .ro, 0xffffffff, 0x0, .volatile, .any, [], .none⟩ /- CORE_FAULT_PC, R284 -/,
      ⟨0x7, 0x1, .u32, .ro, 0xffffffff, 0x0, .volatile, .any, [], .none⟩ /- CORE_CNT_FAULT, R284 -/,
      ⟨0x8, 0x1, .bits32, .w1c, 0x3, 0x0, .volatile, .any, [], .none⟩ /- CORE_FLAGS, R284 -/,
      ⟨0x9, 0x1, .u32, .ro, 0xffffffff, 0x0, .volatile, .any, [], .none⟩ /- CORE_RSVD_WRITES, R284 -/]
  | 0x2040 => [
      ⟨0x1, 0x1, .bits32, .ro, 0xffffffff, 0x0, .volatile, .any, [], .none⟩ /- PWR_STATE, R441 -/,
      ⟨0x2, 0x1, .bits32, .wo, 0x7, 0x0, .volatile, .warden, [(0, 2, 0, 2)], .none⟩ /- PWR_STATE_REQ, R441 -/,
      ⟨0x3, 0x1, .bits32, .rw, 0xffffff0f, 0x14006409, .retained, .any, [(8, 8, 1, 255), (24, 8, 1, 255)], .none⟩ /- PWR_CTRL, R441 -/,
      ⟨0x4, 0x1, .bits32, .ro, 0xffffffff, 0x0, .volatile, .any, [], .none⟩ /- PWR_DOMAIN_ON, R441 -/,
      ⟨0x5, 0x1, .bits32, .wo, 0x11f, 0x0, .volatile, .warden, [(0, 5, 1, 24)], .none⟩ /- PWR_DOMAIN_REQ, R441 -/,
      ⟨0x6, 0x1, .bits32, .rw, 0x3f, 0x21, .retained, .any, [], .none⟩ /- PWR_WAKE_EN, R441 -/,
      ⟨0x7, 0x1, .bits32, .w1c, 0x3f, 0x0, .retained, .any, [], .none⟩ /- PWR_WAKE_CAUSE, R441 -/,
      ⟨0x8, 0x1, .bits32, .ro, 0xffffffff, 0x0, .retained, .any, [], .none⟩ /- PWR_BOOT, R441 -/,
      ⟨0x9, 0x1, .bits32, .wo, 0x1, 0x0, .volatile, .any, [], .none⟩ /- PWR_BOOT_OK, R441 -/,
      ⟨0xa, 0x1, .bits32, .wo, 0x3, 0x0, .volatile, .warden, [(0, 2, 0, 2)], .none⟩ /- PWR_RESTART, R441 -/,
      ⟨0xb, 0x1, .bits32, .w1c, 0x17, 0x0, .retained, .any, [], .none⟩ /- PWR_FLAGS, R441 -/,
      ⟨0xc, 0x1, .bits32, .ro, 0xffffffff, 0x0, .volatile, .any, [], .none⟩ /- PWR_CLK_STATUS, R441 -/,
      ⟨0xd, 0x1, .u32, .ro, 0xffffffff, 0x0, .volatile, .any, [], .none⟩ /- PWR_START_TIME, R441 -/,
      ⟨0xe, 0x1, .u32, .ro, 0xffffffff, 0x0, .volatile, .any, [], .none⟩ /- PWR_RSVD_WRITES, R441 -/]
  | 0x2041 => [
      ⟨0x0, 0x25, .bits32, .rw, 0xfffff7, 0x271033, .saved, .any, [(4, 4, 1, 15), (8, 16, 1, 65535)], .none⟩ /- REC_POLICY, R441 -/]
  | 0x2042 => [
      ⟨0x0, 0x25, .bits32, .rw, 0xffff, 0x0, .saved, .any, [], .none⟩ /- REC_TRIGGER, R441 -/]
  | 0x2043 => [
      ⟨0x0, 0x25, .bits32, .ro, 0xffffffff, 0x0, .retained, .any, [], .none⟩ /- REC_COUNT, R441 -/]
  | 0x2044 => [
      ⟨0x0, 0x25, .bits32, .ro, 0xffffffff, 0x0, .retained, .any, [], .none⟩ /- REC_STATE, R441 -/]
  | 0x2045 => [
      ⟨0x1, 0x1, .bits32, .wo, 0x73f, 0x0, .volatile, .warden, [], .recCmd⟩ /- REC_CMD, R441 -/]
  | 0x2046 => [
      ⟨0x1, 0x2, .domain, .wo, 0xffffffff, 0x0, .volatile, .any, [], .none⟩ /- BOOT_SLOT, R441 -/]
  | 0x2080 => [
      ⟨0x2, 0x1, .bits32, .w1c, 0xf, 0x0, .retained, .any, [], .none⟩ /- IC_FLAGS, R323 -/,
      ⟨0x3, 0x1, .bits32, .wo, 0xff, 0x0, .retained, .any, [], .none⟩ /- IC_RING, R323 -/,
      ⟨0x4, 0x1, .u32, .ro, 0xffffffff, 0x0, .retained, .any, [], .none⟩ /- IC_CNT_ORDER, R323 -/,
      ⟨0x5, 0x1, .u32, .ro, 0xffffffff, 0x0, .retained, .any, [], .none⟩ /- IC_CNT_MASK_LATE, R323 -/,
      ⟨0x6, 0x1, .u32, .ro, 0xffffffff, 0x0, .retained, .any, [], .none⟩ /- IC_CNT_EDGE_MERGED, R323 -/,
      ⟨0x7, 0x1, .u32, .ro, 0xffffffff, 0x0, .retained, .any, [], .none⟩ /- IC_RSVD_WRITES, R323 -/]
  | 0x2081 => [
      ⟨0x0, 0x9, .bits32, .rw, 0x3, 0x1, .retained, .any, [], .none⟩ /- IC_PROC_CFG, R324 -/]
  | 0x2082 => [
      ⟨0x0, 0x9, .bits32, .ro, 0xffffffff, 0x0, .retained, .any, [], .none⟩ /- IC_PROC_STATUS, R324 -/]
  | 0x2084 => [
      ⟨0x0, 0x100, .bits32, .rw, 0x11f07ff, 0x1000100, .retained, .any, [], .route⟩ /- IC_ROUTE, R311 -/]
  | 0x2085 => [
      ⟨0x0, 0x100, .bits32, .rw, 0x11f07ff, 0x1000100, .retained, .any, [], .route⟩ /- IC_ROUTE, R311 -/]
  | 0x2086 => [
      ⟨0x0, 0x84, .bits32, .rw, 0x11f07ff, 0x1000100, .retained, .any, [], .route⟩ /- IC_ROUTE, R311 -/]
  | 0x2087 => [
      ⟨0x0, 0x100, .bits32, .rw, 0x11f07ff, 0x1000100, .retained, .any, [], .route⟩ /- IC_ROUTE, R311 -/]
  | 0x2088 => [
      ⟨0x0, 0x20, .bits32, .w1c, 0xffffffff, 0x0, .retained, .any, [], .none⟩ /- IC_PENDING, R323 -/]
  | 0x2089 => [
      ⟨0x0, 0x20, .bits32, .ro, 0xffffffff, 0x0, .retained, .any, [], .none⟩ /- IC_IN_SERVICE, R323 -/]
  | 0x208A => [
      ⟨0x0, 0x20, .bits32, .ro, 0xffffffff, 0x0, .retained, .any, [], .none⟩ /- IC_ASSERTED, R323 -/]
  | 0x20C0 => [
      ⟨0x1, 0x1, .bits32, .wo, 0xffffffff, 0x0, .volatile, .any, [], .none⟩ /- TM_GROUP_START, R359 -/,
      ⟨0x2, 0x1, .bits32, .wo, 0xffffffff, 0x0, .volatile, .any, [], .none⟩ /- TM_GROUP_STOP, R359 -/,
      ⟨0x3, 0x1, .bits32, .wo, 0x3f1f, 0x0, .volatile, .any, [], .stagger⟩ /- TM_STAGGER, R359 -/,
      ⟨0x4, 0x1, .bits32, .wo, 0xff, 0x0, .volatile, .any, [], .none⟩ /- AT_GROUP_START, R359 -/,
      ⟨0x5, 0x1, .bits32, .wo, 0xff, 0x0, .volatile, .any, [], .none⟩ /- AT_GROUP_STOP, R359 -/,
      ⟨0x6, 0x1, .u32, .ro, 0xffffffff, 0x0, .volatile, .any, [], .none⟩ /- TM_RSVD_WRITES, R359 -/]
  | 0x20D0 => [
      ⟨0x1, 0x1, .bits32, .rw, 0x1f39ff, 0x0, .volatile, .any, [], .tmCtrl⟩ /- TM_CTRL, R358 -/,
      ⟨0x2, 0x1, .u32, .rw, 0xffffffff, 0xffffffff, .volatile, .any, [], .none⟩ /- TM_RELOAD, R359 -/,
      ⟨0x3, 0x1, .u32, .rw, 0xffffffff, 0x0, .volatile, .any, [], .none⟩ /- TM_COMPARE, R359 -/,
      ⟨0x4, 0x1, .u32, .rw, 0xffffffff, 0x0, .volatile, .any, [], .none⟩ /- TM_INTERVAL, R359 -/,
      ⟨0x5, 0x1, .u32, .rw, 0xffffffff, 0x0, .volatile, .any, [], .tmCount⟩ /- TM_COUNT, R359 -/,
      ⟨0x6, 0x1, .u32, .rw, 0xffffffff, 0x0, .volatile, .any, [], .none⟩ /- TM_PHASE, R359 -/,
      ⟨0x7, 0x2, .u32, .rw, 0xffffffff, 0x0, .volatile, .any, [], .none⟩ /- TM_LOCK_AT, R359 -/,
      ⟨0x9, 0x2, .u32, .rs, 0xffffffff, 0x0, .volatile, .any, [], .none⟩ /- TM_SNAP, R359 -/,
      ⟨0xb, 0x1, .bits32, .w1c, 0x1f, 0x0, .volatile, .any, [], .none⟩ /- TM_FLAGS, R359 -/,
      ⟨0xc, 0x1, .u32, .ro, 0xffffffff, 0xffffffff, .volatile, .any, [], .none⟩ /- TM_RELOAD_CUR, R359 -/]
  | 0x20F0 => [
      ⟨0x1, 0x1, .bits32, .rw, 0x1f3bff, 0x0, .retained, .any, [], .tmCtrl⟩ /- AT_CTRL, R358 -/,
      ⟨0x2, 0x1, .u32, .rw, 0xffffffff, 0xffffffff, .retained, .any, [], .none⟩ /- AT_RELOAD, R359 -/,
      ⟨0x3, 0x1, .u32, .rw, 0xffffffff, 0x0, .retained, .any, [], .none⟩ /- AT_COMPARE, R359 -/,
      ⟨0x4, 0x1, .u32, .rw, 0xffffffff, 0x0, .retained, .any, [], .none⟩ /- AT_INTERVAL, R359 -/,
      ⟨0x5, 0x1, .u32, .rw, 0xffffffff, 0x0, .retained, .any, [], .tmCount⟩ /- AT_COUNT, R359 -/,
      ⟨0x6, 0x1, .u32, .rw, 0xffffffff, 0x0, .retained, .any, [], .none⟩ /- AT_PHASE, R359 -/,
      ⟨0x7, 0x2, .u32, .rw, 0xffffffff, 0x0, .retained, .any, [], .none⟩ /- AT_LOCK_AT, R359 -/,
      ⟨0x9, 0x2, .u32, .rs, 0xffffffff, 0x0, .retained, .any, [], .none⟩ /- AT_SNAP, R359 -/,
      ⟨0xb, 0x1, .bits32, .w1c, 0x1f, 0x0, .retained, .any, [], .none⟩ /- AT_FLAGS, R359 -/,
      ⟨0xc, 0x1, .u32, .ro, 0xffffffff, 0xffffffff, .retained, .any, [], .none⟩ /- AT_RELOAD_CUR, R359 -/]
  | 0x2100 => [
      ⟨0x1, 0x1, .bits32, .w1c, 0x3, 0x0, .retained, .any, [], .none⟩ /- PINS_FLAGS, R368 -/,
      ⟨0x2, 0x1, .u32, .ro, 0xffffffff, 0x0, .retained, .any, [], .none⟩ /- PINS_RSVD_WRITES, R368 -/,
      ⟨0x3, 0x1, .bits32, .rw, 0xffff, 0xffff, .retained, .warden, [], .patGrant⟩ /- PAT_GRANT, R368 -/,
      ⟨0x4, 0x2, .bits32, .ro, 0xffffffff, 0x0, .retained, .any, [], .none⟩ /- PIN_LEVEL, R368 -/]
  | 0x2101 => [
      ⟨0x0, 0x30, .bits32, .rw, 0x7f, 0x40, .retained, .warden, [], .pinMux⟩ /- PIN_MUX, R368 -/]
  | 0x2102 => [
      ⟨0x0, 0x30, .bits32, .rw, 0xff, 0x0, .retained, .own, [(2, 2, 0, 2), (4, 3, 0, 5)], .none⟩ /- PIN_CFG, R364 -/]
  | 0x2103 => [
      ⟨0x1, 0x1, .bits32, .rw, 0xffff01, 0x0, .retained, .own, [], .none⟩ /- PAT_CTRL, R368 -/,
      ⟨0x2, 0x2, .bits32, .rw, 0x3f3f3f3f, 0x0, .retained, .own, [(0, 6, 0, 47), (8, 6, 0, 47), (16, 6, 0, 47), (24, 6, 0, 47)], .none⟩ /- PAT_PINS, R368 -/,
      ⟨0x4, 0x1, .u32, .rw, 0xffffff, 0x0, .retained, .own, [], .none⟩ /- PAT_STABLE, R368 -/,
      ⟨0x5, 0x1, .bits32, .ro, 0xffffffff, 0x0, .retained, .any, [], .none⟩ /- PAT_STATUS, R368 -/,
      ⟨0x6, 0x1, .u32, .ro, 0xffffffff, 0x0, .retained, .any, [], .none⟩ /- PAT_CNT, R368 -/]
  | 0x2140 => [
      ⟨0x1, 0x1, .bits32, .rw, 0x7, 0x3, .volatile, .any, [], .none⟩ /- DMA_CTRL, R336 -/,
      ⟨0x2, 0x1, .bits32, .ro, 0xffffffff, 0x0, .volatile, .any, [], .none⟩ /- DMA_ACTIVE, R336 -/,
      ⟨0x3, 0x1, .u32, .ro, 0xffffffff, 0x0, .volatile, .any, [], .none⟩ /- DMA_CNT_RETRY, R336 -/,
      ⟨0x4, 0x1, .u32, .ro, 0xffffffff, 0x0, .volatile, .any, [], .none⟩ /- DMA_CNT_HALT_ERR, R336 -/,
      ⟨0x5, 0x1, .u32, .ro, 0xffffffff, 0x0, .volatile, .any, [], .none⟩ /- DMA_RSVD_WRITES, R336 -/]
  | 0x2150 => [
      ⟨0x1, 0x1, .bits32, .rw, 0x3, 0x0, .volatile, .any, [], .none⟩ /- CH_CFG, R336 -/,
      ⟨0x2, 0x1, .u32, .rw, 0xfffffff8, 0x0, .volatile, .any, [], .none⟩ /- CH_PEER_LO, R336 -/,
      ⟨0x3, 0x1, .u32, .rw, 0xff, 0x0, .volatile, .any, [], .none⟩ /- CH_PEER_HI, R336 -/,
      ⟨0x4, 0x1, .u32, .rw, 0xfffffff0, 0x0, .volatile, .any, [], .none⟩ /- CH_DESC_LO, R336 -/,
      ⟨0x5, 0x1, .u32, .rw, 0xff, 0x0, .volatile, .any, [], .none⟩ /- CH_DESC_HI, R336 -/,
      ⟨0x6, 0x1, .bits32, .wo, 0x7, 0x0, .volatile, .any, [], .none⟩ /- CH_CMD, R336 -/,
      ⟨0x7, 0x1, .bits32, .ro, 0xffffffff, 0x0, .volatile, .any, [], .none⟩ /- CH_STATUS, R336 -/,
      ⟨0x8, 0x1, .bits32, .w1c, 0xf, 0x0, .volatile, .any, [], .none⟩ /- CH_FLAGS, R336 -/,
      ⟨0x9, 0x2, .u32, .ro, 0xffffffff, 0x0, .volatile, .any, [], .none⟩ /- CH_CUR, R336 -/,
      ⟨0xb, 0x1, .u32, .ro, 0xffffffff, 0x0, .volatile, .any, [], .none⟩ /- CH_DONE, R336 -/,
      ⟨0xc, 0x2, .u32, .ro, 0xffffffff, 0x0, .volatile, .any, [], .none⟩ /- CH_PEER_CUR, R336 -/,
      ⟨0xe, 0x2, .u32, .ro, 0xffffffff, 0x0, .volatile, .any, [], .none⟩ /- CH_ERR_ADDR, R336 -/,
      ⟨0x10, 0x1, .u32, .ro, 0xffffffff, 0x0, .volatile, .any, [], .none⟩ /- CH_CNT_DESC, R336 -/]
  | 0x2180 => [
      ⟨0x1, 0x1, .bits32, .wo, 0x3, 0x0, .volatile, .any, [], .none⟩ /- BLT_CTRL, R345 -/,
      ⟨0x2, 0x1, .u32, .rw, 0xffffffc0, 0x0, .volatile, .any, [], .none⟩ /- BLT_LIST_LO, R345 -/,
      ⟨0x3, 0x1, .u32, .rw, 0xff, 0x0, .volatile, .any, [], .none⟩ /- BLT_LIST_HI, R345 -/]
  | 0x2182 => [
      ⟨0x1, 0x1, .bits32, .ro, 0xffffffff, 0x0, .volatile, .any, [], .none⟩ /- BLT_STATUS, R345 -/,
      ⟨0x2, 0x1, .bits32, .w1c, 0x7, 0x0, .volatile, .any, [], .none⟩ /- BLT_FLAGS, R345 -/,
      ⟨0x3, 0x2, .u32, .ro, 0xffffffff, 0x0, .volatile, .any, [], .none⟩ /- BLT_CMD_ADDR, R345 -/,
      ⟨0x5, 0x2, .u32, .ro, 0xffffffff, 0x0, .volatile, .any, [], .none⟩ /- BLT_ERR_ADDR, R345 -/,
      ⟨0x7, 0x1, .u16, .ro, 0xffffffff, 0x0, .volatile, .any, [], .none⟩ /- BLT_WM_LAST, R345 -/,
      ⟨0x8, 0x1, .bits32, .ro, 0xffffffff, 0x0, .volatile, .any, [], .none⟩ /- BLT_LATE_FIRST, R345 -/,
      ⟨0x9, 0x1, .u32, .ro, 0xffffffff, 0x0, .volatile, .any, [], .none⟩ /- BLT_LATE_FRAME, R345 -/,
      ⟨0xa, 0x1, .u32, .ro, 0xffffffff, 0x0, .volatile, .any, [], .none⟩ /- BLT_CNT_CMDS, R345 -/,
      ⟨0xb, 0x1, .u32, .ro, 0xffffffff, 0x0, .volatile, .any, [], .none⟩ /- BLT_CNT_LATE, R345 -/,
      ⟨0xc, 0x1, .u32, .ro, 0xffffffff, 0x0, .volatile, .any, [], .none⟩ /- BLT_RSVD_WRITES, R345 -/]
  | 0x21C0 => [
      ⟨0x1, 0x1, .bits32, .rw, 0x1f, 0x17, .saved, .any, [], .none⟩ /- NET_CTRL, R422 -/,
      ⟨0x2, 0x2, .bits32, .rw, 0xf, 0x8, .saved, .any, [(0, 2, 0, 1), (2, 2, 0, 2)], .none⟩ /- NET_PORT_CFG, R422 -/,
      ⟨0x4, 0x2, .bits32, .rw, 0xffffffff, 0x0, .saved, .any, [], .none⟩ /- NET_PORT_LAT, R422 -/,
      ⟨0x6, 0x2, .i32, .rw, 0xffffffff, 0x0, .saved, .any, [], .none⟩ /- NET_PORT_ASYM, R422 -/,
      ⟨0x8, 0x1, .bits32, .rw, 0xffff, 0xf8f8, .saved, .any, [], .none⟩ /- NET_TB_PRIO, R422 -/,
      ⟨0x9, 0x1, .i16, .rw, 0xffff, 0xfffd, .saved, .any, [], .syncInt⟩ /- NET_TB_SYNC_INTERVAL, R422 -/,
      ⟨0xa, 0x2, .u32, .wo, 0xffffffff, 0x0, .retained, .any, [], .none⟩ /- NET_TB_SET, R422 -/,
      ⟨0xc, 0x1, .bits32, .rw, 0x1, 0x0, .volatile, .any, [], .none⟩ /- NET_WAKE_CFG, R422 -/,
      ⟨0xd, 0x1, .bits32, .rw, 0x3f3f03, 0x0, .volatile, .any, [], .none⟩ /- NET_GCL_CTRL, R422 -/,
      ⟨0xe, 0x2, .bits32, .rw, 0x73ff800, 0x0, .volatile, .any, [], .none⟩ /- NET_RAW, R422 -/]
  | 0x21C2 => [
      ⟨0x1, 0x1, .bits32, .ro, 0xffffffff, 0x0, .volatile, .any, [], .none⟩ /- NET_STATUS, R422 -/,
      ⟨0x2, 0x1, .bits32, .w1c, 0x7f, 0x0, .volatile, .any, [], .none⟩ /- NET_FLAGS, R422 -/,
      ⟨0x3, 0x2, .u32, .rs, 0xffffffff, 0x0, .volatile, .any, [], .none⟩ /- NET_TB_NOW, R422 -/,
      ⟨0x5, 0x1, .i32, .ro, 0xffffffff, 0x0, .volatile, .any, [], .none⟩ /- NET_TB_OFFSET, R422 -/,
      ⟨0x6, 0x1, .u8, .ro, 0xffffffff, 0x0, .volatile, .any, [], .none⟩ /- NET_TB_HOPS, R422 -/,
      ⟨0x7, 0x6, .u32, .ro, 0xffffffff, 0x0, .volatile, .any, [], .none⟩ /- NET_CNT, R422 -/,
      ⟨0xd, 0x1, .u32, .ro, 0xffffffff, 0x0, .volatile, .any, [], .none⟩ /- NET_RSVD_WRITES, R422 -/]
  | 0x21C4 => [
      ⟨0x0, 0x40, .bits32, .rw, 0xffffffff, 0x800, .volatile, .any, [(8, 24, 8, 16777215)], .none⟩ /- NET_GCL0, R422 -/]
  | 0x21C5 => [
      ⟨0x0, 0x40, .bits32, .rw, 0xffffffff, 0x800, .volatile, .any, [(8, 24, 8, 16777215)], .none⟩ /- NET_GCL1, R422 -/]
  | 0x21C6 => [
      ⟨0x0, 0x10, .bits32, .rw, 0x7ffff, 0x0, .saved, .any, [], .none⟩ /- NET_VLAN, R422 -/]
  | 0x2200 => [
      ⟨0x1, 0x1, .bits32, .rw, 0x3, 0x2, .volatile, .any, [], .none⟩ /- SS_CONTROL, R71 -/,
      ⟨0x2, 0x1, .bits32, .ro, 0xffffffff, 0x0, .volatile, .any, [], .none⟩ /- SS_STATUS, R71 -/,
      ⟨0x3, 0x1, .bits32, .w1c, 0x3f, 0x0, .volatile, .any, [], .none⟩ /- SS_FLAGS, R71 -/,
      ⟨0x4, 0x1, .bits32, .wo, 0x3, 0x0, .volatile, .any, [], .none⟩ /- SS_CLEAR, R70 -/,
      ⟨0x5, 0x1, .u8, .rw, 0xff, 0x4, .volatile, .any, [(0, 8, 1, 255)], .none⟩ /- SS_HOLD_LIMIT, R70 -/,
      ⟨0x6, 0x1, .u32, .rw, 0xffffffff, 0xfe502b, .volatile, .any, [(0, 32, 1000000, 1000000000)], .none⟩ /- SS_IDLE_PERIOD, R70 -/,
      ⟨0x7, 0x1, .bool, .rw, 0x1, 0x0, .retained, .any, [], .none⟩ /- SS_RETAIN, R70 -/,
      ⟨0x8, 0x1, .u32, .ro, 0xffffffff, 0x0, .volatile, .any, [], .none⟩ /- SS_LAST_COMMIT_FRAME, R70 -/,
      ⟨0x9, 0x1, .u32, .ro, 0xffffffff, 0x0, .volatile, .any, [], .none⟩ /- SS_LAST_COPY_COUNT, R70 -/,
      ⟨0xa, 0x1, .bits32, .ro, 0xffffffff, 0x0, .volatile, .any, [], .none⟩ /- SS_LAST_SUPERSEDED, R59 -/,
      ⟨0xb, 0x1, .bits32, .ro, 0xffffffff, 0x0, .volatile, .any, [], .none⟩ /- SS_LAST_REFUSED, R59 -/,
      ⟨0x10, 0x8, .u32, .ro, 0xffffffff, 0x0, .volatile, .any, [], .none⟩ /- SS_CNT, R70 -/]
  | 0x2201 => [
      ⟨0x0, 0x20, .bits32, .rw, 0xf, 0x0, .volatile, .any, [], .none⟩ /- SS_CLASS_STAGED, R49 -/]
  | 0x2202 => [
      ⟨0x0, 0x20, .bits32, .ro, 0xffffffff, 0x0, .volatile, .any, [], .none⟩ /- SS_CLASS, R49 -/]
  | 0x2240 => [
      ⟨0x1, 0x1, .bits32, .rw, 0x1, 0x0, .volatile, .any, [], .none⟩ /- SPR_CTRL, R137 -/,
      ⟨0x2, 0x2, .i16, .rw, 0xffff, 0x0, .volatile, .any, [], .none⟩ /- SPR_ORIGIN, R137 -/,
      ⟨0x4, 0x1, .bits32, .rw, 0x1fff1fff, 0x1fff0000, .volatile, .any, [], .none⟩ /- SPR_CLIP_X, R137 -/,
      ⟨0x5, 0x1, .bits32, .rw, 0x3fffffff, 0x3ff003ff, .volatile, .any, [], .none⟩ /- SPR_UFL_COLOUR, R137 -/]
  | 0x2241 => [
      ⟨0x1, 0x1, .bits32, .ro, 0xffffffff, 0x0, .volatile, .any, [], .none⟩ /- SPR_CTRL_CUR, R137 -/,
      ⟨0x2, 0x2, .i16, .ro, 0xffffffff, 0x0, .volatile, .any, [], .none⟩ /- SPR_ORIGIN_CUR, R137 -/,
      ⟨0x4, 0x1, .bits32, .ro, 0xffffffff, 0x1fff0000, .volatile, .any, [], .none⟩ /- SPR_CLIP_X_CUR, R137 -/,
      ⟨0x5, 0x1, .bits32, .ro, 0xffffffff, 0x3ff003ff, .volatile, .any, [], .none⟩ /- SPR_UFL_COLOUR_CUR, R137 -/]
  | 0x2242 => [
      ⟨0x1, 0x1, .bits32, .ro, 0xffffffff, 0x0, .volatile, .any, [], .none⟩ /- SPR_STATUS, R137 -/,
      ⟨0x2, 0x1, .bits32, .w1c, 0x7, 0x0, .volatile, .any, [], .none⟩ /- SPR_FLAGS, R137 -/,
      ⟨0x3, 0x1, .bits32, .ro, 0xffffffff, 0x0, .volatile, .any, [], .none⟩ /- SPR_OVF_FIRST, R137 -/,
      ⟨0x4, 0x1, .u32, .ro, 0xffffffff, 0x0, .volatile, .any, [], .none⟩ /- SPR_OVF_FRAME, R137 -/,
      ⟨0x5, 0x1, .bits32, .ro, 0xffffffff, 0x0, .volatile, .any, [], .none⟩ /- SPR_UFL_FIRST, R137 -/,
      ⟨0x6, 0x1, .u32, .ro, 0xffffffff, 0x0, .volatile, .any, [], .none⟩ /- SPR_UFL_FRAME, R137 -/,
      ⟨0x7, 0x1, .u32, .ro, 0xffffffff, 0x0, .volatile, .any, [], .none⟩ /- SPR_CNT_OVF_LINES, R137 -/,
      ⟨0x8, 0x1, .u32, .ro, 0xffffffff, 0x0, .volatile, .any, [], .none⟩ /- SPR_CNT_DROPPED, R137 -/,
      ⟨0x9, 0x1, .u32, .ro, 0xffffffff, 0x0, .volatile, .any, [], .none⟩ /- SPR_CNT_UFL_LINES, R137 -/,
      ⟨0xa, 0x1, .u32, .ro, 0xffffffff, 0x0, .volatile, .any, [], .none⟩ /- SPR_RSVD_WRITES, R137 -/]
  | 0x2243 => [
      ⟨0x1, 0x1, .u32, .rw, 0x7fffe0, 0x0, .volatile, .any, [], .none⟩ /- SPR_LOAD_SRC, R137 -/,
      ⟨0x2, 0x1, .bits32, .rw, 0x7ff07ff, 0x0, .volatile, .any, [], .none⟩ /- SPR_LOAD_RANGE, R137 -/,
      ⟨0x3, 0x1, .bits32, .wo, 0x1, 0x0, .volatile, .any, [], .none⟩ /- SPR_LOAD_ARM, R137 -/,
      ⟨0x4, 0x1, .bits32, .ro, 0xffffffff, 0x0, .volatile, .any, [], .none⟩ /- SPR_LOAD_STATUS, R137 -/,
      ⟨0x5, 0x1, .u16, .rw, 0x3fff, 0x0, .volatile, .any, [], .none⟩ /- SPR_READ_SEL, R137 -/,
      ⟨0x6, 0x1, .u32, .ro, 0xffffffff, 0x0, .volatile, .any, [], .none⟩ /- SPR_READ_WORD, R137 -/]
  | 0x2280 => [
      ⟨0x1, 0x1, .bits32, .rw, 0x1, 0x0, .volatile, .any, [], .none⟩ /- LS_CTRL, R138 -/,
      ⟨0x2, 0x1, .bits32, .rw, 0x1ffff, 0x0, .volatile, .any, [], .none⟩ /- LS_LIST_BASE, R138 -/,
      ⟨0x3, 0x1, .u16, .rw, 0xffff, 0x1, .volatile, .any, [(0, 16, 1, 4096)], .none⟩ /- LS_LIST_LEN, R138 -/]
  | 0x2281 => [
      ⟨0x1, 0x1, .bits32, .ro, 0xffffffff, 0x0, .volatile, .any, [], .none⟩ /- LS_CTRL_CUR, R138 -/,
      ⟨0x2, 0x1, .bits32, .ro, 0xffffffff, 0x0, .volatile, .any, [], .none⟩ /- LS_LIST_BASE_CUR, R138 -/,
      ⟨0x3, 0x1, .u16, .ro, 0xffffffff, 0x1, .volatile, .any, [], .none⟩ /- LS_LIST_LEN_CUR, R138 -/]
  | 0x2282 => [
      ⟨0x1, 0x1, .bits32, .ro, 0xffffffff, 0x0, .volatile, .any, [], .none⟩ /- LS_STATUS, R138 -/,
      ⟨0x2, 0x1, .bits32, .w1c, 0x1f, 0x0, .volatile, .any, [], .none⟩ /- LS_FLAGS, R138 -/,
      ⟨0x3, 0x1, .bits32, .ro, 0xffffffff, 0x0, .volatile, .any, [], .none⟩ /- LS_LATE_FIRST, R138 -/,
      ⟨0x4, 0x1, .u32, .ro, 0xffffffff, 0x0, .volatile, .any, [], .none⟩ /- LS_LATE_FRAME, R138 -/,
      ⟨0x5, 0x1, .bits32, .ro, 0xffffffff, 0x0, .volatile, .any, [], .none⟩ /- LS_ERR_FIRST, R138 -/,
      ⟨0x6, 0x1, .u16, .ro, 0xffffffff, 0x0, .volatile, .any, [], .none⟩ /- LS_MARK_INDEX, R138 -/,
      ⟨0x7, 0x1, .u32, .ro, 0xffffffff, 0x0, .volatile, .any, [], .none⟩ /- LS_CNT_EXEC, R138 -/,
      ⟨0x8, 0x1, .u32, .ro, 0xffffffff, 0x0, .volatile, .any, [], .none⟩ /- LS_CNT_LATE, R138 -/,
      ⟨0x9, 0x1, .u32, .ro, 0xffffffff, 0x0, .volatile, .any, [], .none⟩ /- LS_CNT_SKIPPED, R138 -/,
      ⟨0xa, 0x1, .u16, .ro, 0xffffffff, 0x0, .volatile, .any, [], .none⟩ /- LS_LAST_EXEC, R138 -/,
      ⟨0xb, 0x1, .u32, .ro, 0xffffffff, 0x0, .volatile, .any, [], .none⟩ /- LS_RSVD_WRITES, R138 -/]
  | 0x22C0 => [
      ⟨0x1, 0x1, .bits32, .rw, 0x1, 0x1, .volatile, .any, [], .none⟩ /- COMP_CTRL, R163 -/,
      ⟨0x2, 0x1, .bits32, .rw, 0x3fffffff, 0x0, .volatile, .any, [], .none⟩ /- COMP_BG_COLOUR, R163 -/,
      ⟨0x3, 0x1, .bits32, .rw, 0xfffffff, 0x8fac688, .volatile, .any, [], .prioOrder⟩ /- COMP_PRIO_ORDER, R163 -/,
      ⟨0x8, 0x8, .u8, .rw, 0xff, 0xff, .volatile, .any, [], .none⟩ /- COMP_PLANE_ALPHA, R163 -/,
      ⟨0x10, 0x8, .u16, .rw, 0xffff, 0x0, .volatile, .any, [], .none⟩ /- COMP_OPAQUE_EN, R163 -/,
      ⟨0x18, 0x1, .u16, .rw, 0xffff, 0x3e8, .volatile, .any, [(0, 16, 0, 12000)], .none⟩ /- COMP_BW_RESERVE, R163 -/,
      ⟨0x20, 0x1, .bits32, .rw, 0x1f, 0x1, .volatile, .any, [(0, 2, 0, 2), (2, 2, 0, 2)], .none⟩ /- COMP_OUT_P, R164 -/,
      ⟨0x21, 0x1, .i16, .rw, 0xffff, 0x1000, .volatile, .any, [], .none⟩ /- COMP_CSC_P_M0, R163 -/,
      ⟨0x22, 0x3, .i16, .rw, 0xffff, 0x0, .volatile, .any, [], .none⟩ /- COMP_CSC_P_M, R163 -/,
      ⟨0x25, 0x1, .i16, .rw, 0xffff, 0x1000, .volatile, .any, [], .none⟩ /- COMP_CSC_P_M4, R163 -/,
      ⟨0x26, 0x3, .i16, .rw, 0xffff, 0x0, .volatile, .any, [], .none⟩ /- COMP_CSC_P_M, R163 -/,
      ⟨0x29, 0x1, .i16, .rw, 0xffff, 0x1000, .volatile, .any, [], .none⟩ /- COMP_CSC_P_M8, R163 -/,
      ⟨0x2a, 0x3, .i16, .rw, 0xffff, 0x0, .volatile, .any, [], .none⟩ /- COMP_CSC_P_OFF, R163 -/,
      ⟨0x30, 0x1, .bits32, .rw, 0x1f, 0x1, .volatile, .any, [(0, 2, 0, 1), (2, 2, 0, 2)], .none⟩ /- COMP_OUT_S, R164 -/,
      ⟨0x31, 0x1, .i16, .rw, 0xffff, 0x1000, .volatile, .any, [], .none⟩ /- COMP_CSC_S_M0, R163 -/,
      ⟨0x32, 0x3, .i16, .rw, 0xffff, 0x0, .volatile, .any, [], .none⟩ /- COMP_CSC_S_M, R163 -/,
      ⟨0x35, 0x1, .i16, .rw, 0xffff, 0x1000, .volatile, .any, [], .none⟩ /- COMP_CSC_S_M4, R163 -/,
      ⟨0x36, 0x3, .i16, .rw, 0xffff, 0x0, .volatile, .any, [], .none⟩ /- COMP_CSC_S_M, R163 -/,
      ⟨0x39, 0x1, .i16, .rw, 0xffff, 0x1000, .volatile, .any, [], .none⟩ /- COMP_CSC_S_M8, R163 -/,
      ⟨0x3a, 0x3, .i16, .rw, 0xffff, 0x0, .volatile, .any, [], .none⟩ /- COMP_CSC_S_OFF, R163 -/]
  | 0x22C1 => [
      ⟨0x1, 0x1, .bits32, .ro, 0x1, 0x1, .volatile, .any, [], .none⟩ /- COMP_CTRL_CUR, R163 -/,
      ⟨0x2, 0x1, .bits32, .ro, 0x3fffffff, 0x0, .volatile, .any, [], .none⟩ /- COMP_BG_COLOUR_CUR, R163 -/,
      ⟨0x3, 0x1, .bits32, .ro, 0xfffffff, 0x8fac688, .volatile, .any, [], .none⟩ /- COMP_PRIO_ORDER_CUR, R163 -/,
      ⟨0x8, 0x8, .u8, .ro, 0xff, 0xff, .volatile, .any, [], .none⟩ /- COMP_PLANE_ALPHA_CUR, R163 -/,
      ⟨0x10, 0x8, .u16, .ro, 0xffff, 0x0, .volatile, .any, [], .none⟩ /- COMP_OPAQUE_EN_CUR, R163 -/,
      ⟨0x18, 0x1, .u16, .ro, 0xffff, 0x3e8, .volatile, .any, [], .none⟩ /- COMP_BW_RESERVE_CUR, R163 -/,
      ⟨0x20, 0x1, .bits32, .ro, 0x1f, 0x1, .volatile, .any, [], .none⟩ /- COMP_OUT_P_CUR, R164 -/,
      ⟨0x21, 0x1, .i16, .ro, 0xffff, 0x1000, .volatile, .any, [], .none⟩ /- COMP_CSC_P_M0_CUR, R163 -/,
      ⟨0x22, 0x3, .i16, .ro, 0xffff, 0x0, .volatile, .any, [], .none⟩ /- COMP_CSC_P_M_CUR, R163 -/,
      ⟨0x25, 0x1, .i16, .ro, 0xffff, 0x1000, .volatile, .any, [], .none⟩ /- COMP_CSC_P_M4_CUR, R163 -/,
      ⟨0x26, 0x3, .i16, .ro, 0xffff, 0x0, .volatile, .any, [], .none⟩ /- COMP_CSC_P_M_CUR, R163 -/,
      ⟨0x29, 0x1, .i16, .ro, 0xffff, 0x1000, .volatile, .any, [], .none⟩ /- COMP_CSC_P_M8_CUR, R163 -/,
      ⟨0x2a, 0x3, .i16, .ro, 0xffff, 0x0, .volatile, .any, [], .none⟩ /- COMP_CSC_P_OFF_CUR, R163 -/,
      ⟨0x30, 0x1, .bits32, .ro, 0x1f, 0x1, .volatile, .any, [], .none⟩ /- COMP_OUT_S_CUR, R164 -/,
      ⟨0x31, 0x1, .i16, .ro, 0xffff, 0x1000, .volatile, .any, [], .none⟩ /- COMP_CSC_S_M0_CUR, R163 -/,
      ⟨0x32, 0x3, .i16, .ro, 0xffff, 0x0, .volatile, .any, [], .none⟩ /- COMP_CSC_S_M_CUR, R163 -/,
      ⟨0x35, 0x1, .i16, .ro, 0xffff, 0x1000, .volatile, .any, [], .none⟩ /- COMP_CSC_S_M4_CUR, R163 -/,
      ⟨0x36, 0x3, .i16, .ro, 0xffff, 0x0, .volatile, .any, [], .none⟩ /- COMP_CSC_S_M_CUR, R163 -/,
      ⟨0x39, 0x1, .i16, .ro, 0xffff, 0x1000, .volatile, .any, [], .none⟩ /- COMP_CSC_S_M8_CUR, R163 -/,
      ⟨0x3a, 0x3, .i16, .ro, 0xffff, 0x0, .volatile, .any, [], .none⟩ /- COMP_CSC_S_OFF_CUR, R163 -/]
  | 0x22C2 => [
      ⟨0x1, 0x1, .bits32, .ro, 0xffffffff, 0x0, .volatile, .any, [], .none⟩ /- COMP_STATUS, R165 -/,
      ⟨0x2, 0x1, .bits32, .w1c, 0x7, 0x0, .volatile, .any, [], .none⟩ /- COMP_FLAGS, R165 -/,
      ⟨0x3, 0x1, .u32, .ro, 0xffffffff, 0x0, .volatile, .any, [], .none⟩ /- COMP_BW_EST, R165 -/,
      ⟨0x4, 0x1, .u16, .ro, 0xffffffff, 0x0, .volatile, .any, [], .none⟩ /- COMP_BW_LINE, R165 -/,
      ⟨0x5, 0x1, .bits32, .ro, 0xffffffff, 0x0, .volatile, .any, [], .none⟩ /- COMP_OPQ_FIRST, R165 -/,
      ⟨0x6, 0x1, .u32, .ro, 0xffffffff, 0x0, .volatile, .any, [], .none⟩ /- COMP_OPQ_FRAME, R165 -/,
      ⟨0x7, 0x1, .u32, .ro, 0xffffffff, 0x0, .volatile, .any, [], .none⟩ /- COMP_CNT_OPQ, R165 -/,
      ⟨0x8, 0x1, .u32, .ro, 0xffffffff, 0x0, .volatile, .any, [], .none⟩ /- COMP_CULLED_TILES, R165 -/,
      ⟨0x9, 0x1, .u32, .ro, 0xffffffff, 0x0, .volatile, .any, [], .none⟩ /- COMP_RSVD_WRITES, R165 -/]
  | 0x22C4 => [
      ⟨0x0, 0x80, .bits32, .rw, 0x1fff1fff, 0x0, .volatile, .any, [], .none⟩ /- COMP_OPQ, R163 -/]
  | 0x22C5 => [
      ⟨0x0, 0x80, .bits32, .rw, 0x1fff1fff, 0x0, .volatile, .any, [], .none⟩ /- COMP_OPQ, R163 -/]
  | 0x22C6 => [
      ⟨0x0, 0x80, .bits32, .ro, 0xffffffff, 0x0, .volatile, .any, [], .none⟩ /- COMP_OPQ_CUR, R163 -/]
  | 0x22C7 => [
      ⟨0x0, 0x80, .bits32, .ro, 0xffffffff, 0x0, .volatile, .any, [], .none⟩ /- COMP_OPQ_CUR, R163 -/]
  | 0x22C8 => [
      ⟨0x1, 0x1, .bits32, .rw, 0x3f01, 0x200, .volatile, .any, [(8, 6, 1, 63)], .none⟩ /- RASTER_CTRL, R195 -/,
      ⟨0x2, 0x1, .bits32, .wo, 0x1, 0x0, .volatile, .any, [], .none⟩ /- RASTER_COMMIT_REQ, R194 -/,
      ⟨0x3, 0x1, .bits32, .rw, 0x80009f9f, 0xb0b, .volatile, .any, [], .modeReq⟩ /- RASTER_MODE_REQ, R195 -/,
      ⟨0x4, 0x2, .u32, .rw, 0xffffffff, 0x0, .volatile, .any, [], .none⟩ /- RASTER_MODE_AT, R194 -/,
      ⟨0x6, 0x1, .bits32, .rw, 0x7, 0x0, .volatile, .any, [(0, 2, 0, 2)], .none⟩ /- RASTER_LOCK, R194 -/,
      ⟨0x7, 0x2, .u32, .rw, 0xffffffff, 0x0, .volatile, .any, [], .none⟩ /- RASTER_T0, R194 -/,
      ⟨0x9, 0x1, .u32, .rw, 0xffffffff, 0x0, .volatile, .any, [(0, 32, 0, 999999999)], .none⟩ /- RASTER_PHASE, R194 -/,
      ⟨0xa, 0x1, .bits32, .rw, 0xfff0fff, 0x0, .volatile, .any, [], .staggerN⟩ /- RASTER_STAGGER, R194 -/,
      ⟨0xb, 0x1, .u16, .rw, 0x3ff, 0x0, .volatile, .any, [], .none⟩ /- ISOBAR_COMP, R194 -/]
  | 0x22C9 => [
      ⟨0x1, 0x1, .bits32, .ro, 0xffffffff, 0x0, .volatile, .any, [], .none⟩ /- RASTER_STATUS, R194 -/,
      ⟨0x2, 0x1, .bits32, .w1c, 0x1f, 0x0, .volatile, .any, [], .none⟩ /- RASTER_FLAGS, R194 -/,
      ⟨0x3, 0x1, .bits32, .rs, 0xffffffff, 0x0, .volatile, .any, [], .none⟩ /- RASTER_POS, R194 -/,
      ⟨0x4, 0x2, .u32, .rs, 0xffffffff, 0x0, .volatile, .any, [], .none⟩ /- RASTER_FRAME, R194 -/,
      ⟨0x6, 0x1, .u32, .ro, 0xffffffff, 0x0, .volatile, .any, [], .none⟩ /- RASTER_LAST_APPLIED, R194 -/,
      ⟨0x7, 0x1, .i32, .ro, 0xffffffff, 0x0, .volatile, .any, [], .none⟩ /- RASTER_LOCK_ERR, R194 -/,
      ⟨0x8, 0x1, .bits32, .ro, 0xffffffff, 0xb0b, .volatile, .any, [], .none⟩ /- RASTER_MODE_CUR, R194 -/,
      ⟨0x9, 0x1, .u32, .ro, 0xffffffff, 0x0, .volatile, .any, [], .none⟩ /- RASTER_CNT_LATE, R194 -/,
      ⟨0xa, 0x1, .u32, .ro, 0xffffffff, 0x0, .volatile, .any, [], .none⟩ /- RASTER_CNT_LOCK_LOST, R194 -/,
      ⟨0xb, 0x1, .u32, .ro, 0xffffffff, 0x0, .volatile, .any, [], .none⟩ /- RASTER_CNT_ISOBAR_ERR, R194 -/,
      ⟨0xc, 0x1, .u32, .ro, 0xffffffff, 0x0, .volatile, .any, [], .none⟩ /- RASTER_RSVD_WRITES, R194 -/]
  | 0x22F0 => [
      ⟨0x1, 0x1, .u32, .rw, 0x7ffff8, 0x0, .volatile, .any, [], .none⟩ /- PAL_LOAD_SRC, R88 -/,
      ⟨0x2, 0x1, .bits32, .rw, 0x3f3f, 0x0, .volatile, .any, [], .none⟩ /- PAL_LOAD_RANGE, R88 -/,
      ⟨0x3, 0x1, .bits32, .wo, 0x1, 0x0, .volatile, .any, [], .none⟩ /- PAL_LOAD_ARM, R88 -/,
      ⟨0x4, 0x1, .bits32, .ro, 0xffffffff, 0x0, .volatile, .any, [], .none⟩ /- PAL_STATUS, R88 -/,
      ⟨0x5, 0x1, .u16, .rw, 0x3fff, 0x0, .volatile, .any, [], .none⟩ /- PAL_READ_SEL, R88 -/,
      ⟨0x6, 0x1, .u32, .ro, 0xffffffff, 0x0, .volatile, .any, [], .none⟩ /- PAL_READ_COLOUR, R88 -/,
      ⟨0x7, 0x1, .u8, .ro, 0xffffffff, 0x0, .volatile, .any, [], .none⟩ /- PAL_READ_ALPHA, R88 -/]
  | 0x22F1 => [
      ⟨0x1, 0x1, .u32, .rw, 0x7fff00, 0x0, .volatile, .any, [], .none⟩ /- RULE_LOAD_SRC, R117 -/,
      ⟨0x2, 0x1, .bits32, .rw, 0x1f1f, 0x0, .volatile, .any, [], .none⟩ /- RULE_LOAD_RANGE, R117 -/,
      ⟨0x3, 0x1, .bits32, .wo, 0x1, 0x0, .volatile, .any, [], .none⟩ /- RULE_LOAD_ARM, R117 -/,
      ⟨0x4, 0x1, .bits32, .ro, 0xffffffff, 0x0, .volatile, .any, [], .none⟩ /- RULE_STATUS, R117 -/,
      ⟨0x5, 0x1, .u16, .rw, 0x7ff, 0x0, .volatile, .any, [], .none⟩ /- RULE_READ_SEL, R117 -/,
      ⟨0x6, 0x1, .u32, .ro, 0xffffffff, 0x0, .volatile, .any, [], .none⟩ /- RULE_READ_WORD, R117 -/,
      ⟨0x8, 0x1, .bits32, .rw, 0xffffff, 0x1e3c, .volatile, .any, [], .blink⟩ /- BLINK_GEN0, R113 -/,
      ⟨0x9, 0x1, .bits32, .rw, 0xffffff, 0xf1e, .volatile, .any, [], .blink⟩ /- BLINK_GEN1, R113 -/,
      ⟨0xa, 0x1, .bits32, .rw, 0xffffff, 0x3c78, .volatile, .any, [], .blink⟩ /- BLINK_GEN2, R113 -/,
      ⟨0xb, 0x1, .bits32, .rw, 0xffffff, 0x40033, .volatile, .any, [(16, 8, 1, 255)], .none⟩ /- BLINK_GEN3, R113 -/,
      ⟨0xc, 0x1, .bits32, .ro, 0xffffffff, 0x0, .volatile, .any, [], .none⟩ /- BLINK_STATE, R117 -/,
      ⟨0x10, 0x1, .bits32, .ro, 0xffffffff, 0x1e3c, .volatile, .any, [], .none⟩ /- BLINK_GEN0_CUR, R113 -/,
      ⟨0x11, 0x1, .bits32, .ro, 0xffffffff, 0xf1e, .volatile, .any, [], .none⟩ /- BLINK_GEN1_CUR, R113 -/,
      ⟨0x12, 0x1, .bits32, .ro, 0xffffffff, 0x3c78, .volatile, .any, [], .none⟩ /- BLINK_GEN2_CUR, R113 -/,
      ⟨0x13, 0x1, .bits32, .ro, 0xffffffff, 0x40033, .volatile, .any, [], .none⟩ /- BLINK_GEN3_CUR, R113 -/]
  | 0x2300 => [
      ⟨0x0, 0x80, .bits32, .rw, 0xffffffff, 0x0, .volatile, .any, [], .rgn⟩ /- VER_RGN, R199 -/]
  | 0x2301 => [
      ⟨0x0, 0x80, .bits32, .ro, 0xffffffff, 0x0, .volatile, .any, [], .none⟩ /- VER_RGN_CUR, R199 -/]
  | 0x2302 => [
      ⟨0x1, 0x1, .bits32, .rw, 0x3, 0x3, .volatile, .any, [], .none⟩ /- VER_CTRL, R215 -/,
      ⟨0x2, 0x1, .u8, .ro, 0xffffffff, 0x3, .volatile, .any, [], .none⟩ /- VER_LEGAL_N, R213 -/]
  | 0x2303 => [
      ⟨0x1, 0x1, .bits32, .ro, 0xffffffff, 0x0, .volatile, .any, [], .none⟩ /- VER_STATUS, R215 -/,
      ⟨0x2, 0x1, .bits32, .w1c, 0x7f, 0x0, .volatile, .any, [], .none⟩ /- VER_FLAGS, R215 -/,
      ⟨0x3, 0x1, .u32, .ro, 0xffffffff, 0x0, .volatile, .any, [], .none⟩ /- VER_RESULT_FRAME, R215 -/,
      ⟨0x4, 0x1, .bits32, .ro, 0xffffffff, 0x0, .volatile, .any, [], .none⟩ /- VER_MISMATCH_FIRST, R215 -/,
      ⟨0x5, 0x1, .u32, .ro, 0xffffffff, 0x0, .volatile, .any, [], .none⟩ /- VER_MISMATCH_FRAME, R215 -/,
      ⟨0x6, 0x1, .bits32, .ro, 0xffffffff, 0x0, .volatile, .any, [], .none⟩ /- VER_DITHER_FIRST, R215 -/,
      ⟨0x7, 0x1, .u32, .ro, 0xffffffff, 0x0, .volatile, .any, [], .none⟩ /- VER_DITHER_FRAME, R215 -/,
      ⟨0x8, 0x1, .u32, .ro, 0xffffffff, 0x0, .volatile, .any, [], .none⟩ /- VER_CNT_FRAMES, R215 -/,
      ⟨0x9, 0x1, .u32, .ro, 0xffffffff, 0x0, .volatile, .any, [], .none⟩ /- VER_CNT_MISMATCH, R215 -/,
      ⟨0xa, 0x1, .u32, .ro, 0xffffffff, 0x0, .volatile, .any, [], .none⟩ /- VER_CNT_LEGAL_FAIL, R215 -/,
      ⟨0xb, 0x1, .u32, .ro, 0xffffffff, 0x0, .volatile, .any, [], .none⟩ /- VER_CNT_DITHER_P, R215 -/,
      ⟨0xc, 0x1, .u32, .ro, 0xffffffff, 0x0, .volatile, .any, [], .none⟩ /- VER_CNT_DITHER_S, R215 -/,
      ⟨0xd, 0x1, .u32, .ro, 0xffffffff, 0x0, .volatile, .any, [], .none⟩ /- VER_CNT_SKIPPED, R215 -/,
      ⟨0xe, 0x1, .u32, .ro, 0xffffffff, 0x0, .volatile, .any, [], .none⟩ /- VER_CNT_INCOMPLETE, R215 -/,
      ⟨0xf, 0x1, .u32, .ro, 0xffffffff, 0x0, .volatile, .any, [], .none⟩ /- VER_CNT_ESCALATED, R215 -/,
      ⟨0x10, 0x1, .u32, .ro, 0xffffffff, 0x0, .volatile, .any, [], .none⟩ /- VER_RSVD_WRITES, R215 -/]
  | 0x2304 => [
      ⟨0x0, 0x20, .bits32, .ro, 0xffffffff, 0x0, .volatile, .any, [], .none⟩ /- VER_RESULT, R210 -/]
  | 0x2305 => [
      ⟨0x0, 0x20, .u32, .ro, 0xffffffff, 0x0, .volatile, .any, [], .none⟩ /- VER_CRC_T1, R215 -/]
  | 0x2306 => [
      ⟨0x0, 0x20, .u32, .ro, 0xffffffff, 0x0, .volatile, .any, [], .none⟩ /- VER_CRC_SHADOW, R215 -/]
  | 0x2340 => [
      ⟨0x1, 0x1, .bits32, .rw, 0x133, 0x32, .volatile, .any, [(0, 2, 0, 2)], .none⟩ /- HP_LINK_CFG, R196 -/,
      ⟨0x2, 0x1, .u32, .rw, 0xfffff, 0x0, .volatile, .any, [], .none⟩ /- HP_AUX_ADDR, R196 -/,
      ⟨0x3, 0x1, .u8, .rw, 0xff, 0x0, .volatile, .any, [], .none⟩ /- HP_AUX_DATA, R196 -/,
      ⟨0x4, 0x1, .bits32, .wo, 0x1, 0x0, .volatile, .any, [], .none⟩ /- HP_RETRAIN, R196 -/]
  | 0x2342 => [
      ⟨0x1, 0x1, .bits32, .ro, 0xffffffff, 0x0, .volatile, .any, [], .none⟩ /- HP_STATUS, R196 -/,
      ⟨0x2, 0x1, .bits32, .w1c, 0x1f, 0x0, .volatile, .any, [], .none⟩ /- HP_FLAGS, R196 -/,
      ⟨0x3, 0x1, .u8, .ro, 0xffffffff, 0x0, .volatile, .any, [], .none⟩ /- HP_FAIL_CAUSE, R196 -/,
      ⟨0x4, 0x1, .u32, .ro, 0xffffffff, 0x0, .volatile, .any, [], .none⟩ /- HP_TRAIN_TIME, R196 -/,
      ⟨0x5, 0x1, .u32, .ro, 0xffffffff, 0x0, .volatile, .any, [], .none⟩ /- HP_CNT_TRAIN, R196 -/,
      ⟨0x6, 0x1, .domain, .ro, 0xffffffff, 0x0, .volatile, .any, [], .none⟩ /- HP_EDID, R196 -/,
      ⟨0x7, 0x1, .u16, .ro, 0xffffffff, 0x0, .volatile, .any, [], .none⟩ /- HP_EDID_LEN, R196 -/,
      ⟨0x8, 0x1, .u32, .ro, 0xffffffff, 0x0, .volatile, .any, [], .none⟩ /- HP_RSVD_WRITES, R196 -/]
  | 0x2380 => [
      ⟨0x1, 0x1, .bits32, .rw, 0x703, 0x401, .volatile, .any, [(8, 3, 2, 7)], .none⟩ /- HS_CFG, R196 -/]
  | 0x2382 => [
      ⟨0x1, 0x1, .bits32, .ro, 0xffffffff, 0x0, .volatile, .any, [], .none⟩ /- HS_STATUS, R196 -/,
      ⟨0x2, 0x1, .bits32, .w1c, 0x3, 0x0, .volatile, .any, [], .none⟩ /- HS_FLAGS, R196 -/,
      ⟨0x3, 0x1, .u32, .ro, 0xffffffff, 0x0, .volatile, .any, [], .none⟩ /- HS_RSVD_WRITES, R196 -/]
  | 0x2384 => [
      ⟨0x1, 0x1, .u16, .rw, 0xff, 0x0, .volatile, .any, [], .none⟩ /- SCL_COEF_SEL, R167 -/,
      ⟨0x2, 0x1, .i16, .rw, 0xffff, 0x0, .volatile, .any, [], .coef⟩ /- SCL_COEF_DATA, R167 -/]
  | 0x2385 => [
      ⟨0x2, 0x1, .i16, .ro, 0xffffffff, 0x0, .volatile, .any, [], .none⟩ /- SCL_COEF_DATA_CUR, R167 -/]
  | 0x2386 => [
      ⟨0x1, 0x1, .bits32, .ro, 0xffffffff, 0x0, .volatile, .any, [], .none⟩ /- SCL_STATUS, R167 -/,
      ⟨0x2, 0x1, .bits32, .w1c, 0xf, 0x0, .volatile, .any, [], .none⟩ /- SCL_FLAGS, R167 -/,
      ⟨0x3, 0x1, .u32, .ro, 0xffffffff, 0x0, .volatile, .any, [], .none⟩ /- SCL_STEP_X, R167 -/,
      ⟨0x4, 0x1, .u32, .ro, 0xffffffff, 0x0, .volatile, .any, [], .none⟩ /- SCL_STEP_Y, R167 -/,
      ⟨0x5, 0x1, .u32, .ro, 0xffffffff, 0x0, .volatile, .any, [], .none⟩ /- SCL_CNT_LINE_ERR, R167 -/,
      ⟨0x6, 0x1, .u32, .ro, 0xffffffff, 0x0, .volatile, .any, [], .none⟩ /- SCL_RSVD_WRITES, R167 -/]
  | 0x23C0 => [
      ⟨0x1, 0x1, .bits32, .rw, 0xff03, 0x100, .volatile, .any, [(8, 8, 1, 255)], .none⟩ /- WB_CTRL, R168 -/,
      ⟨0x2, 0x1, .u32, .rw, 0xffffffe0, 0x0, .volatile, .any, [], .none⟩ /- WB_RING_BASE_LO, R168 -/,
      ⟨0x3, 0x1, .u32, .rw, 0xff, 0x0, .volatile, .any, [], .none⟩ /- WB_RING_BASE_HI, R168 -/,
      ⟨0x4, 0x1, .u16, .rw, 0xffff, 0x1, .volatile, .any, [(0, 16, 1, 256)], .none⟩ /- WB_RING_LEN, R168 -/]
  | 0x23C1 => [
      ⟨0x1, 0x1, .bits32, .ro, 0xffffffff, 0x100, .volatile, .any, [], .none⟩ /- WB_CTRL_CUR, R168 -/,
      ⟨0x2, 0x1, .u32, .ro, 0xffffffff, 0x0, .volatile, .any, [], .none⟩ /- WB_RING_BASE_LO_CUR, R168 -/,
      ⟨0x3, 0x1, .u32, .ro, 0xffffffff, 0x0, .volatile, .any, [], .none⟩ /- WB_RING_BASE_HI_CUR, R168 -/,
      ⟨0x4, 0x1, .u16, .ro, 0xffffffff, 0x1, .volatile, .any, [], .none⟩ /- WB_RING_LEN_CUR, R168 -/]
  | 0x23C2 => [
      ⟨0x1, 0x1, .bits32, .ro, 0xffffffff, 0x0, .volatile, .any, [], .none⟩ /- WB_STATUS, R168 -/,
      ⟨0x2, 0x1, .bits32, .w1c, 0xf, 0x0, .volatile, .any, [], .none⟩ /- WB_FLAGS, R168 -/,
      ⟨0x3, 0x1, .u32, .ro, 0xffffffff, 0x0, .volatile, .any, [], .none⟩ /- WB_LAST_FRAME, R168 -/,
      ⟨0x4, 0x1, .u32, .ro, 0xffffffff, 0x0, .volatile, .any, [], .none⟩ /- WB_CNT_DONE, R168 -/,
      ⟨0x5, 0x1, .u32, .ro, 0xffffffff, 0x0, .volatile, .any, [], .none⟩ /- WB_CNT_SKIPPED, R168 -/,
      ⟨0x6, 0x1, .u32, .ro, 0xffffffff, 0x0, .volatile, .any, [], .none⟩ /- WB_CNT_OVERRUN, R168 -/,
      ⟨0x7, 0x2, .u32, .ro, 0xffffffff, 0x0, .volatile, .any, [], .none⟩ /- WB_ERR_ADDR, R168 -/,
      ⟨0x9, 0x1, .u32, .ro, 0xffffffff, 0x0, .volatile, .any, [], .none⟩ /- WB_RSVD_WRITES, R168 -/]
  | 0x2400 => [
      ⟨0x1, 0x1, .bits32, .rw, 0x73f, 0xa, .volatile, .any, [(0, 6, 1, 50)], .none⟩ /- AUD_CTRL, R391 -/,
      ⟨0x2, 0x1, .bits32, .ro, 0xffffffff, 0x0, .volatile, .any, [], .none⟩ /- AUD_STATUS, R391 -/,
      ⟨0x3, 0x1, .bits32, .w1c, 0x1ff, 0x0, .volatile, .any, [], .none⟩ /- AUD_FLAGS, R391 -/,
      ⟨0x4, 0x2, .u32, .rs, 0xffffffff, 0x0, .volatile, .any, [], .none⟩ /- AUD_SAMPLE, R391 -/,
      ⟨0x6, 0x1, .u16, .ro, 0xffffffff, 0x0, .volatile, .any, [], .none⟩ /- AUD_MARK, R391 -/,
      ⟨0x7, 0x2, .u32, .ro, 0xffffffff, 0x0, .volatile, .any, [], .none⟩ /- AUD_ERR_ADDR, R391 -/,
      ⟨0x9, 0x1, .u32, .ro, 0xffffffff, 0x0, .volatile, .any, [], .none⟩ /- AUD_CNT_LATE, R391 -/,
      ⟨0xa, 0x1, .u32, .ro, 0xffffffff, 0x0, .volatile, .any, [], .none⟩ /- AUD_CNT_SAT, R391 -/,
      ⟨0xb, 0x1, .u32, .ro, 0xffffffff, 0x0, .volatile, .any, [], .none⟩ /- AUD_CNT_ZC_TIMEOUT, R391 -/,
      ⟨0xc, 0x1, .u32, .ro, 0xffffffff, 0x0, .volatile, .any, [], .none⟩ /- AUD_CNT_UNDERRUN, R391 -/,
      ⟨0xd, 0x1, .u32, .ro, 0xffffffff, 0x0, .volatile, .any, [], .none⟩ /- AUD_RSVD_WRITES, R391 -/,
      ⟨0xe, 0x2, .bits32, .w1c, 0xffffffff, 0x0, .volatile, .any, [], .none⟩ /- AUD_VOICE_END, R391 -/,
      ⟨0x10, 0x3, .u32, .rw, 0xffffffff, 0x0, .volatile, .any, [], .none⟩ /- AUD_CMD_WORDS, R391 -/,
      ⟨0x13, 0x1, .bits32, .wo, 0xff, 0x0, .volatile, .any, [(0, 8, 1, 8)], .none⟩ /- AUD_CMD_GO, R391 -/]
  | 0x2401 => [
      ⟨0x0, 0x40, .bits32, .rw, 0xff07, 0x4, .volatile, .any, [(0, 2, 0, 2)], .none⟩ /- VOICE_CFG, R391 -/]
  | 0x2402 => [
      ⟨0x0, 0x40, .u32, .rw, 0xffffffff, 0x0, .volatile, .any, [], .none⟩ /- VOICE_ADDR_LO, R391 -/]
  | 0x2403 => [
      ⟨0x0, 0x40, .u32, .rw, 0xff, 0x0, .volatile, .any, [], .none⟩ /- VOICE_ADDR_HI, R391 -/]
  | 0x2404 => [
      ⟨0x0, 0x40, .u32, .rw, 0xffffff, 0x1, .volatile, .any, [(0, 24, 1, 16777215)], .none⟩ /- VOICE_LEN, R391 -/]
  | 0x2405 => [
      ⟨0x0, 0x40, .u32, .rw, 0xffffff, 0x0, .volatile, .any, [], .loopStart⟩ /- VOICE_LOOP_START, R391 -/]
  | 0x2406 => [
      ⟨0x0, 0x40, .u32, .rw, 0xffffffff, 0x10000, .volatile, .any, [(0, 32, 10923, 262144)], .none⟩ /- VOICE_STEP, R391 -/]
  | 0x2407 => [
      ⟨0x0, 0x40, .bits32, .ro, 0xffffffff, 0x0, .volatile, .any, [], .none⟩ /- VOICE_STATUS, R391 -/]
  | 0x2408 => [
      ⟨0x0, 0x64, .u16, .rw, 0xffff, 0x8000, .volatile, .any, [], .none⟩ /- SRC_GAIN, R391 -/]
  | 0x2409 => [
      ⟨0x0, 0x64, .bits32, .rw, 0xf, 0xf, .volatile, .any, [], .srcRoute⟩ /- SRC_ROUTE, R391 -/]
  | 0x240A => [
      ⟨0x0, 0x10, .bits32, .rw, 0xf, 0x0, .volatile, .any, [(2, 2, 0, 2)], .none⟩ /- TONE_CFG, R391 -/]
  | 0x240B => [
      ⟨0x0, 0x10, .bits32, .rw, 0xffffffff, 0x3e803e8, .volatile, .any, [(0, 16, 20, 20000), (16, 16, 20, 20000)], .none⟩ /- TONE_FREQ, R391 -/]
  | 0x240C => [
      ⟨0x0, 0x10, .bits32, .rw, 0xffffffff, 0x3e803e8, .volatile, .any, [(0, 16, 1, 65535), (16, 16, 1, 65535)], .none⟩ /- TONE_TIME, R391 -/]
  | 0x240D => [
      ⟨0x0, 0x10, .bits32, .rw, 0xffffffff, 0x3e8, .volatile, .any, [(0, 16, 1, 65535)], .none⟩ /- TONE_CADENCE, R391 -/]
  | 0x2410 => [
      ⟨0x0, 0x8, .bits32, .rw, 0x3fffffff, 0x2802800, .volatile, .any, [(0, 6, 0, 60), (6, 4, 0, 8), (10, 8, 1, 255), (18, 12, 10, 4095)], .none⟩ /- BUS_COMP, R391 -/]
  | 0x2411 => [
      ⟨0x0, 0x8, .u8, .rw, 0xff, 0x0, .volatile, .any, [(0, 8, 0, 24)], .none⟩ /- BUS_MAKEUP, R391 -/]
  | 0x2412 => [
      ⟨0x0, 0x40, .u16, .rw, 0xffff, 0x0, .volatile, .any, [], .none⟩ /- MIX_GAIN, R391 -/]
  | 0x2413 => [
      ⟨0x0, 0x4, .bits32, .rw, 0xff0f, 0x3201, .volatile, .any, [(0, 4, 0, 12), (8, 8, 1, 255)], .none⟩ /- OUT_CFG, R391 -/]
  | 0x2414 => [
      ⟨0x0, 0x4, .u16, .rw, 0xffff, 0x8000, .volatile, .any, [], .none⟩ /- OUT_GAIN, R391 -/]
  | 0x2415 => [
      ⟨0x0, 0x2, .bits32, .rw, 0xff, 0x2e, .volatile, .any, [], .none⟩ /- TDM_CFG, R391 -/]
  | 0x2416 => [
      ⟨0x0, 0x10, .bits32, .rw, 0xf, 0x0, .volatile, .any, [(0, 4, 0, 8)], .none⟩ /- TDM_SLOT, R391 -/]
  | 0x2417 => [
      ⟨0x0, 0x4, .bits32, .rw, 0x1ffff, 0x0, .volatile, .any, [], .none⟩ /- PAGE_CFG, R391 -/]
  | 0x2418 => [
      ⟨0x0, 0x4, .u16, .rw, 0xffff, 0x3c0, .volatile, .any, [(0, 16, 48, 3840)], .none⟩ /- PAGE_DELAY, R391 -/]
  | 0x2440 => [
      ⟨0x1, 0x1, .bits32, .rw, 0xff03, 0x0, .volatile, .any, [], .none⟩ /- PERF_CTRL, R472 -/,
      ⟨0x2, 0x1, .u32, .rw, 0xffffffff, 0x3e8, .volatile, .any, [(0, 32, 10, 1000000)], .none⟩ /- PERF_PERIOD, R472 -/,
      ⟨0x3, 0x1, .u32, .rw, 0xffffffc0, 0x0, .volatile, .any, [], .none⟩ /- PERF_RING_BASE_LO, R472 -/,
      ⟨0x4, 0x1, .u32, .rw, 0xff, 0x0, .volatile, .any, [], .none⟩ /- PERF_RING_BASE_HI, R472 -/,
      ⟨0x5, 0x1, .u16, .rw, 0xffff, 0x1, .volatile, .any, [(0, 16, 1, 65535)], .none⟩ /- PERF_RING_LEN, R472 -/,
      ⟨0x6, 0x1, .u16, .ro, 0xffffffff, 0x0, .volatile, .any, [], .none⟩ /- PERF_RING_WR, R472 -/,
      ⟨0x7, 0x1, .u16, .rw, 0xffff, 0x0, .volatile, .any, [], .ringRd⟩ /- PERF_RING_RD, R472 -/,
      ⟨0x8, 0x1, .bits32, .wo, 0x3, 0x0, .volatile, .any, [], .none⟩ /- PERF_CMD, R472 -/,
      ⟨0x9, 0x1, .bits32, .w1c, 0x1f, 0x0, .volatile, .any, [], .none⟩ /- PERF_FLAGS, R472 -/,
      ⟨0xa, 0x1, .u32, .ro, 0xffffffff, 0x0, .volatile, .any, [], .none⟩ /- PERF_SEQ, R472 -/,
      ⟨0xb, 0x1, .u32, .ro, 0xffffffff, 0x0, .volatile, .any, [], .none⟩ /- PERF_CNT_DROPPED, R472 -/,
      ⟨0xc, 0x2, .u32, .ro, 0xffffffff, 0x0, .volatile, .any, [], .none⟩ /- PERF_ERR_ADDR, R472 -/,
      ⟨0xe, 0x1, .u32, .ro, 0xffffffff, 0x0, .volatile, .any, [], .none⟩ /- PERF_RSVD_WRITES, R472 -/]
  | 0x2441 => [
      ⟨0x0, 0x94, .bits32, .rw, 0x1ff, 0x0, .volatile, .any, [], .perfSel⟩ /- PERF_SEL, R462 -/]
  | 0x2442 => [
      ⟨0x0, 0x94, .u32, .rw, 0xffffffff, 0x0, .volatile, .any, [], .none⟩ /- PERF_COUNT, R472 -/]
  | 0x2443 => [
      ⟨0x0, 0x4, .bits32, .w1c, 0xffffffff, 0x0, .volatile, .any, [], .none⟩ /- PERF_OVF, R472 -/,
      ⟨0x4, 0x1, .bits32, .w1c, 0xfffff, 0x0, .volatile, .any, [], .none⟩ /- PERF_OVF4, R472 -/]
  | 0x2444 => [
      ⟨0x1, 0x1, .bits32, .wo, 0xf, 0x0, .volatile, .any, [(0, 3, 0, 4)], .none⟩ /- ST_REQ, R472 -/,
      ⟨0x2, 0x1, .bits32, .ro, 0xffffffff, 0x0, .volatile, .any, [], .none⟩ /- ST_STATUS, R472 -/,
      ⟨0x3, 0x1, .u32, .rw, 0xffff0000, 0x0, .volatile, .any, [], .none⟩ /- ST_RANGE_LO, R472 -/,
      ⟨0x4, 0x1, .u32, .rw, 0xff, 0x0, .volatile, .any, [], .none⟩ /- ST_RANGE_HI, R472 -/,
      ⟨0x5, 0x1, .u32, .rw, 0xffffffff, 0x1, .volatile, .any, [(0, 32, 1, 131072)], .none⟩ /- ST_RANGE_LEN, R472 -/,
      ⟨0x6, 0x2, .u32, .ro, 0xffffffff, 0x0, .volatile, .any, [], .none⟩ /- ST_FAIL_ADDR, R472 -/,
      ⟨0x8, 0x1, .u32, .ro, 0xffffffff, 0x0, .volatile, .any, [], .none⟩ /- ST_FAIL_BITS, R472 -/]
  | 0x2480 => [
      ⟨0x10, 0x9, .bits32, .rw, 0x3, 0x0, .volatile, .own, [], .none⟩ /- EXT_WIN_SEL, R27 -/]
  | 0x2482 => [
      ⟨0x1, 0x1, .bits32, .ro, 0xffffffff, 0x0, .volatile, .any, [], .none⟩ /- MC_STATUS, R39 -/,
      ⟨0x2, 0x1, .bits32, .w1c, 0x1f, 0x0, .volatile, .any, [], .none⟩ /- MC_FLAGS, R39 -/,
      ⟨0x3, 0x1, .u32, .ro, 0xffffffff, 0x0, .volatile, .any, [], .none⟩ /- MC_TRAIN_TIME, R39 -/,
      ⟨0x4, 0x2, .u32, .ro, 0xffffffff, 0x0, .volatile, .any, [], .none⟩ /- MC_ERR_ADDR, R39 -/,
      ⟨0x6, 0x1, .u32, .ro, 0xffffffff, 0x0, .volatile, .any, [], .none⟩ /- MC_CNT_ADDR_ERR, R39 -/,
      ⟨0x7, 0x1, .u32, .ro, 0xffffffff, 0x0, .volatile, .any, [], .none⟩ /- MC_CNT_TRACKER_FULL, R39 -/,
      ⟨0x8, 0x1, .u32, .ro, 0xffffffff, 0x0, .volatile, .any, [], .none⟩ /- MC_RSVD_WRITES, R39 -/]
  | 0x24C0 => [
      ⟨0x1, 0x1, .bits32, .ro, 0xffffffff, 0x0, .volatile, .any, [], .none⟩ /- LGL_STATE, R254 -/,
      ⟨0x2, 0x1, .str, .ro, 0xffffffff, 0x0, .volatile, .any, [], .none⟩ /- LGL_SW_ID, R254 -/,
      ⟨0x3, 0x1, .u32, .ro, 0xffffffff, 0x0, .volatile, .any, [], .none⟩ /- LGL_SW_CHECKSUM, R254 -/,
      ⟨0x4, 0x1, .u32, .ro, 0xffffffff, 0x0, .volatile, .any, [], .none⟩ /- LGL_SW_VERSION, R254 -/,
      ⟨0x5, 0x1, .u32, .ro, 0xffffffff, 0x0, .volatile, .any, [], .none⟩ /- LGL_EVENT_COUNTER, R254 -/,
      ⟨0x6, 0x1, .u32, .ro, 0xffffffff, 0x0, .volatile, .any, [], .none⟩ /- LGL_SEAL_GEN, R254 -/,
      ⟨0x7, 0x1, .u8, .ro, 0xffffffff, 0x0, .volatile, .any, [], .none⟩ /- LGL_ACTIVE_SLOT, R254 -/,
      ⟨0x8, 0x1, .u32, .ro, 0xffffffff, 0x0, .volatile, .any, [], .none⟩ /- LGL_AUDIT_HEAD, R254 -/,
      ⟨0x9, 0x1, .u32, .ro, 0xffffffff, 0x0, .volatile, .any, [], .none⟩ /- LGL_AUDIT_TAIL, R254 -/,
      ⟨0xa, 0x1, .u8, .ro, 0xffffffff, 0x0, .volatile, .any, [], .none⟩ /- LGL_PROGRESS_UNIT, R254 -/,
      ⟨0xb, 0x1, .u32, .ro, 0xffffffff, 0x0, .volatile, .any, [], .none⟩ /- LGL_PROGRESS_VALUE, R254 -/,
      ⟨0xc, 0x1, .u8, .ro, 0xffffffff, 0x0, .volatile, .any, [], .none⟩ /- LGL_PROGRESS_OP, R254 -/,
      ⟨0xd, 0x1, .i16, .ro, 0xffffffff, 0x0, .volatile, .any, [], .none⟩ /- LGL_TEMP, R254 -/,
      ⟨0xe, 0x1, .u8, .ro, 0xffffffff, 0x0, .volatile, .any, [], .none⟩ /- LGL_LAST_FAIL, R254 -/]
  | 0x24C1 => [
      ⟨0x1, 0x4, .bits32, .ro, 0xffffffff, 0xe, .volatile, .any, [], .none⟩ /- LGL_CH_STATUS, R254 -/]
  | 0x24C2 => [
      ⟨0x1, 0x1, .domain, .wo, 0xffffffff, 0x0, .volatile, .any, [], .none⟩ /- LGL_MSG_IN, R254 -/,
      ⟨0x2, 0x1, .domain, .ro, 0xffffffff, 0x0, .volatile, .any, [], .none⟩ /- LGL_MSG_OUT, R254 -/,
      ⟨0x3, 0x1, .bits32, .ro, 0xffffffff, 0x0, .volatile, .any, [], .none⟩ /- LGL_MSG_STATUS, R254 -/,
      ⟨0x4, 0x1, .bits32, .wo, 0x1, 0x0, .volatile, .any, [], .none⟩ /- LGL_MSG_OUT_ACK, R254 -/,
      ⟨0x5, 0x1, .bits32, .wo, 0x1, 0x0, .volatile, .any, [], .none⟩ /- LGL_ID_REQUEST, R254 -/]
  | 0x24C3 => [
      ⟨0x1, 0x1, .u32, .rw, 0xffffffff, 0x0, .volatile, .any, [], .none⟩ /- LGL_AUDIT_SEL, R254 -/,
      ⟨0x2, 0x1, .domain, .ro, 0xffffffff, 0x0, .volatile, .any, [], .none⟩ /- LGL_AUDIT_REC, R254 -/,
      ⟨0x3, 0x1, .bool, .ro, 0xffffffff, 0x0, .volatile, .any, [], .none⟩ /- LGL_AUDIT_HELD, R254 -/]
  | 0x24C4 => [
      ⟨0x1, 0x8, .bits32, .ro, 0xffffffff, 0x0, .volatile, .any, [], .none⟩ /- LGL_WIN, R254 -/]
  | 0x2500 => [
      ⟨0x1, 0x1, .bits32, .rw, 0x3f, 0x4, .volatile, .any, [], .none⟩ /- PLANE_CTRL, R97 -/,
      ⟨0x2, 0x1, .bits32, .rw, 0x7fffff, 0x0, .volatile, .any, [(17, 3, 0, 4), (20, 3, 0, 4)], .none⟩ /- PLANE_MAP, R97 -/,
      ⟨0x3, 0x2, .i16, .rw, 0xffff, 0x0, .volatile, .any, [], .none⟩ /- PLANE_SCROLL, R96 -/,
      ⟨0x5, 0x1, .bits32, .rw, 0xfffff, 0x0, .volatile, .any, [], .none⟩ /- PLANE_PATTERN, R97 -/,
      ⟨0x6, 0x1, .bits32, .rw, 0x1ffff, 0x0, .volatile, .any, [], .none⟩ /- PLANE_LSCROLL_BASE, R97 -/,
      ⟨0x7, 0x4, .bits32, .rw, 0x1fff1fff, 0x0, .volatile, .any, [], .none⟩ /- PLANE_WIN, R97 -/,
      ⟨0xb, 0x1, .bits32, .rw, 0x3f07, 0x0, .volatile, .any, [], .bmpSrc⟩ /- PLANE_BMP_FMT, R97 -/,
      ⟨0xc, 0x1, .u32, .rw, 0xffffffc0, 0x0, .volatile, .any, [], .none⟩ /- PLANE_BMP_BASE_LO, R96 -/,
      ⟨0xd, 0x1, .u32, .rw, 0xff, 0x0, .volatile, .any, [], .none⟩ /- PLANE_BMP_BASE_HI, R96 -/,
      ⟨0xe, 0x1, .bits32, .rw, 0xfff0fff, 0x0, .volatile, .any, [], .none⟩ /- PLANE_BMP_SIZE, R97 -/,
      ⟨0xf, 0x1, .bits32, .rw, 0xfff, 0x1, .volatile, .any, [(0, 12, 1, 4095)], .none⟩ /- PLANE_BMP_PITCH, R97 -/,
      ⟨0x10, 0x1, .bits32, .rw, 0x3fffffff, 0x3ff003ff, .volatile, .any, [], .none⟩ /- PLANE_UFL_COLOUR, R96 -/,
      ⟨0x11, 0x1, .u16, .rw, 0xffff, 0xffff, .volatile, .any, [], .none⟩ /- PLANE_IRQ_LINE, R96 -/,
      ⟨0x12, 0x1, .bits32, .rw, 0xf, 0xf, .volatile, .any, [], .none⟩ /- PLANE_WIN_MASK, R97 -/]
  | 0x2501 => [
      ⟨0x1, 0x1, .bits32, .ro, 0x3f, 0x4, .volatile, .any, [], .none⟩ /- PLANE_CTRL_CUR, R97 -/,
      ⟨0x2, 0x1, .bits32, .ro, 0x7fffff, 0x0, .volatile, .any, [], .none⟩ /- PLANE_MAP_CUR, R97 -/,
      ⟨0x3, 0x2, .i16, .ro, 0xffff, 0x0, .volatile, .any, [], .none⟩ /- PLANE_SCROLL_CUR, R96 -/,
      ⟨0x5, 0x1, .bits32, .ro, 0xfffff, 0x0, .volatile, .any, [], .none⟩ /- PLANE_PATTERN_CUR, R97 -/,
      ⟨0x6, 0x1, .bits32, .ro, 0x1ffff, 0x0, .volatile, .any, [], .none⟩ /- PLANE_LSCROLL_BASE_CUR, R97 -/,
      ⟨0x7, 0x4, .bits32, .ro, 0x1fff1fff, 0x0, .volatile, .any, [], .none⟩ /- PLANE_WIN_CUR, R97 -/,
      ⟨0xb, 0x1, .bits32, .ro, 0x3f07, 0x0, .volatile, .any, [], .none⟩ /- PLANE_BMP_FMT_CUR, R97 -/,
      ⟨0xc, 0x1, .u32, .ro, 0xffffffc0, 0x0, .volatile, .any, [], .none⟩ /- PLANE_BMP_BASE_LO_CUR, R96 -/,
      ⟨0xd, 0x1, .u32, .ro, 0xff, 0x0, .volatile, .any, [], .none⟩ /- PLANE_BMP_BASE_HI_CUR, R96 -/,
      ⟨0xe, 0x1, .bits32, .ro, 0xfff0fff, 0x0, .volatile, .any, [], .none⟩ /- PLANE_BMP_SIZE_CUR, R97 -/,
      ⟨0xf, 0x1, .bits32, .ro, 0xfff, 0x1, .volatile, .any, [], .none⟩ /- PLANE_BMP_PITCH_CUR, R97 -/,
      ⟨0x10, 0x1, .bits32, .ro, 0x3fffffff, 0x3ff003ff, .volatile, .any, [], .none⟩ /- PLANE_UFL_COLOUR_CUR, R96 -/,
      ⟨0x11, 0x1, .u16, .ro, 0xffff, 0xffff, .volatile, .any, [], .none⟩ /- PLANE_IRQ_LINE_CUR, R96 -/,
      ⟨0x12, 0x1, .bits32, .ro, 0xf, 0xf, .volatile, .any, [], .none⟩ /- PLANE_WIN_MASK_CUR, R97 -/]
  | 0x2502 => [
      ⟨0x1, 0x1, .bits32, .ro, 0xffffffff, 0x0, .volatile, .any, [], .none⟩ /- PLANE_STATUS, R98 -/,
      ⟨0x2, 0x1, .bits32, .w1c, 0x7, 0x0, .volatile, .any, [], .none⟩ /- PLANE_FLAGS, R98 -/,
      ⟨0x3, 0x1, .bits32, .ro, 0xffffffff, 0x0, .volatile, .any, [], .none⟩ /- PLANE_UFL_FIRST, R98 -/,
      ⟨0x4, 0x1, .u32, .ro, 0xffffffff, 0x0, .volatile, .any, [], .none⟩ /- PLANE_UFL_FRAME, R98 -/,
      ⟨0x5, 0x1, .u32, .ro, 0xffffffff, 0x0, .volatile, .any, [], .none⟩ /- PLANE_CNT_UFL_LINES, R98 -/,
      ⟨0x6, 0x1, .u32, .ro, 0xffffffff, 0x0, .volatile, .any, [], .none⟩ /- PLANE_CNT_FETCH_ERR, R98 -/,
      ⟨0x7, 0x2, .u32, .ro, 0xffffffff, 0x0, .volatile, .any, [], .none⟩ /- PLANE_ERR_ADDR, R98 -/,
      ⟨0x9, 0x1, .u32, .ro, 0xffffffff, 0x0, .volatile, .any, [], .none⟩ /- PLANE_RETIRE_FRAME, R98 -/,
      ⟨0xa, 0x1, .u32, .ro, 0xffffffff, 0x0, .volatile, .any, [], .none⟩ /- PLANE_RSVD_WRITES, R98 -/]
  | 0x2900 => [
      ⟨0x1, 0x1, .u8, .ro, 0xffffffff, 0x0, .volatile, .any, [], .none⟩ /- SEC_LIFECYCLE, R459 -/,
      ⟨0x2, 0x1, .bits32, .wo, 0x3, 0x0, .volatile, .warden, [], .none⟩ /- SEC_LC_REQ, R459 -/,
      ⟨0x3, 0x1, .bits32, .ro, 0xffffffff, 0x0, .volatile, .any, [], .none⟩ /- SEC_FUSE_STATUS, R459 -/,
      ⟨0x4, 0x1, .bits32, .ro, 0xffffffff, 0x0, .volatile, .any, [], .none⟩ /- SEC_BOOT_STATUS, R459 -/,
      ⟨0x5, 0x1, .bits32, .ro, 0xffffffff, 0x0, .volatile, .any, [], .none⟩ /- SEC_DEBUG_STATE, R459 -/,
      ⟨0x6, 0x2, .u32, .ro, 0xffffffff, 0x0, .volatile, .any, [], .none⟩ /- SEC_UID, R459 -/,
      ⟨0x8, 0x3, .domain, .ro, 0xffffffff, 0x0, .volatile, .any, [], .none⟩ /- SEC_KEY_HASH, R459 -/,
      ⟨0xb, 0x1, .domain, .wo, 0xffffffff, 0x0, .volatile, .warden, [], .none⟩ /- SEC_FUSE_PROG, R459 -/,
      ⟨0xc, 0x1, .bits32, .w1c, 0xf, 0x0, .volatile, .any, [], .none⟩ /- SEC_FLAGS, R459 -/,
      ⟨0xd, 0x1, .u32, .ro, 0xffffffff, 0x0, .volatile, .any, [], .none⟩ /- SEC_CNT_AUTH_FAIL, R459 -/,
      ⟨0xe, 0x1, .u32, .ro, 0xffffffff, 0x0, .volatile, .any, [], .none⟩ /- SEC_RSVD_WRITES, R459 -/,
      ⟨0xf, 0x1, .u32, .ro, 0xffffffff, 0x1, .volatile, .any, [], .none⟩ /- SEC_IDCODE, R459 -/]
  | _ => []

/-- The index under which the rows of a family of units are listed: timer channels, DMA channels, subscriptions, cores and planes. -/
def dictFamily (idx : Nat) : Nat :=
  if 0x20D0 ≤ idx ∧ idx < 0x20F0 then 0x20D0
  else if 0x20F0 ≤ idx ∧ idx < 0x20F8 then 0x20F0
  else if 0x2150 ≤ idx ∧ idx < 0x2160 then 0x2150
  else if 0x1300 ≤ idx ∧ idx < 0x1340 then 0x1300
  else if 0x2500 ≤ idx ∧ idx < 0x2700 then
    (if idx % 64 = 0 then 0x2500 else if idx % 64 = 1 then 0x2501 else if idx % 64 = 2 then 0x2502 else idx)
  else if 0x2700 ≤ idx ∧ idx < 0x2900 then (if idx % 64 = 63 then 0x203F else idx)
  else idx

/-- The row that covers an entry, if the entry exists in some variant (R474, R477). Pattern unit u repeats the rows of 2103 at 10h*u. -/
def dictRow? (idx sub : Nat) : Option DictRow :=
  if (idx = 0x2300 ∨ idx = 0x2301) ∧ sub % 4 = 3 then none else
  let sub' := if idx = 0x2103 ∧ sub < 0x40 then sub % 16 else sub
  ((dictRows (dictFamily idx)).find? (fun r => decide (r.sub ≤ sub') && decide (sub' < r.sub + r.n))).map
    (fun r => if idx = 0x2300 ∧ sub < 16 then { r with acc := .ro } else r)

/-- The key under which an entry is kept. -/
def entryKey (idx sub : Nat) : Nat := idx * 256 + sub

/-- The value an entry holds when nothing has been written to it: its reset value (R12, R418). -/
def dictReset (k : Nat) : Word :=
  match dictRow? (k / 256) (k % 256) with
  | some r => BitVec.ofNat 32 r.reset
  | none => 0#32

end Sys2Proof.Machine
end

