-- ==== Sys2Proof/Machine/Maps.lean ====
section
/-! DEFINITION. Reading and writing a sparse map. `d k` is what an unlisted key `k` reads as; a write keeps the
keys rising and lists no entry equal to that value, so that equal stores are equal data. -/
namespace Sys2Proof.Machine

variable {α : Type}

/-- The value held at a key. -/
def mapGet (d : Nat → α) : SMap α → Nat → α
  | [], k => d k
  | (j, v) :: m, k => if k = j then v else mapGet d m k

/-- Lists a value at a key, keeping keys rising. -/
def mapIns (k : Nat) (v : α) : SMap α → SMap α
  | [] => [(k, v)]
  | (j, u) :: m =>
    if k < j then (k, v) :: (j, u) :: m
    else if k = j then (k, v) :: m
    else (j, u) :: mapIns k v m

/-- Removes a key. -/
def mapDel (k : Nat) (m : SMap α) : SMap α := m.filter (fun p => !(p.1 == k))

/-- Writes a value at a key in canonical form. -/
def mapSet [DecidableEq α] (d : Nat → α) (m : SMap α) (k : Nat) (v : α) : SMap α :=
  if v = d k then mapDel k m else mapIns k v m

/-- Removes every key that the predicate names: those keys read as their default again. -/
def mapDrop (p : Nat → Bool) (m : SMap α) : SMap α := m.filter (fun e => !(p e.1))

/-- Keys rise strictly. -/
def keysRise : SMap α → Bool
  | [] => true
  | [_] => true
  | (j, _) :: (k, v) :: m => decide (j < k) && keysRise ((k, v) :: m)

/-- The canonical form: keys rise and no entry equals its default. -/
def mapWf [DecidableEq α] (d : Nat → α) (m : SMap α) : Bool :=
  keysRise m && m.all (fun e => !(decide (e.2 = d e.1)))

/-- Writes a list of values at consecutive keys. -/
def mapSetMany [DecidableEq α] (d : Nat → α) (m : SMap α) (k : Nat) : List α → SMap α
  | [] => m
  | v :: vs => mapSetMany d (mapSet d m k v) (k + 1) vs

/-- The values of `n` consecutive keys. -/
def mapGetMany (d : Nat → α) (m : SMap α) (k n : Nat) : List α := (List.range n).map (fun i => mapGet d m (k + i))

end Sys2Proof.Machine
end

