-- ==== Sys2Proof/Config.lean ====
section
/-! DEFINITION. What an implementation fixes: the three variants (R1) and the values the spec leaves open, as constants
without a body. Nothing can be proved of such a value, so a claim that mentions one holds whatever it is. -/
namespace Sys2Proof

/-- The three variants in which the device is supplied (R1). -/
inductive Variant where
  | yl6400 | yl6410 | yl6430
  deriving DecidableEq, Repr

namespace Config

/-- A value the spec leaves open, drawn at the model's counter (DESIGN CHOICE, log 2). -/
opaque freeNat : Nat → Nat

/-- The sine generator's sample at a 32-bit phase: the spec states its error bound, not its value (R381, DESIGN CHOICE, log 12). -/
opaque sineSample : Nat → Int

/-- The triangle generator's sample at a 32-bit phase: the spec states full scale only (R381, DESIGN CHOICE, log 12). -/
opaque triangleSample : Nat → Int

/-- A compressor's or limiter's gain, 32768 as 1.0, of its settings, its working word and the signal: the spec states the dynamics and a tolerance,
not each value (R386, R387, DESIGN CHOICE, log 12). -/
opaque dynamicsGain : Nat → Nat → Int → Nat

/-- The working word of a compressor's level detector after a signal (R386, DESIGN CHOICE, log 12). -/
opaque dynamicsNext : Nat → Nat → Int → Nat

/-- The fixed low-pass of an output port at a rate other than 48 kHz: the spec states its corner only (R383, DESIGN CHOICE, log 12). -/
opaque filterSample : Nat → Int → Int

/-- The glyph of a character in the identification display (R241, DESIGN CHOICE, log 12). -/
opaque glyphWord : Nat → Nat

/-- A byte of an external range under self-test, which the spec leaves undefined, at the model's counter and an address (R470, DESIGN CHOICE, log 2). -/
opaque freeByte : Nat → Nat → Byte

/-- A byte of the control rows in the MRAM, of what the rows hold and the offset: the spec gives their contents, not their layout (R228, DESIGN
CHOICE, log 101). -/
opaque controlByte : List Nat → Nat → Byte

end Config
end Sys2Proof
end

