-- ==== Sys2Proof/Machine/State.lean ====
section
/-! DEFINITION. The state of the device as plain data: everything the spec gives the machine, the reasons a step can stop, and the
state after reset. INVENTORY.md lists every piece of it with its rule and reset value. -/
namespace Sys2Proof.Machine

/-! ### The interrupt controller (12) -/

/-- The states of a routed source (R313). -/
inductive SrcState where
  | idle | pending | inService | inServiceEdge
  deriving DecidableEq, Repr

/-- A synchronised mask write waiting for its six controller clocks (R320): its source, the processor it was routed to and the new entry. -/
structure MaskWait where
  source : Nat
  proc : Nat
  value : Nat
  deriving DecidableEq, Repr

/-- A delivery window left open by an unsynchronised mask write (R320): what was presented when it was written, and until when. -/
structure LateWindow where
  source : Nat
  proc : Nat
  prio : Nat
  slot : Nat
  until_ : Nat
  deriving DecidableEq, Repr

/-- The interrupt controller: source states, nesting stacks of (source, priority), thresholds, waiting mask writes, delivery
windows, edges the always-on domain holds while the controller is off (R322). -/
structure Ic where
  src : SMap SrcState := []
  nests : SMap (List (Nat × Nat)) := []
  thr : SMap Nat := []
  waiting : List MaskWait := []
  late : List LateWindow := []
  heldEdges : List Nat := []
  deriving DecidableEq, Repr

/-! ### Memories, snapshots and the dictionary -/

/-- The byte memories that are not a processor's own: shared SRAM, VSRAM, external memory, xSPI flash (R19, R31, R34, R434). -/
structure Mems where
  sram : SMap Byte := []
  vsram : SMap Byte := []
  ext : SMap Byte := []
  flash : SMap Byte := []
  deriving DecidableEq, Repr

/-- A snapshot of the rs subindexes of an index (R13): its requester, the values by subindex, the subindexes already read from it. -/
structure Snap where
  requester : Nat
  idx : Nat
  values : List (Nat × Word)
  taken : List Nat
  deriving DecidableEq, Repr

/-! ### The signal store (02) -/

/-- One signal update of R52: the signal, its new word, the selected fields (value, quality, alarm, unack, shelved, from bit 0). -/
structure Update where
  signal : Nat
  word : Nat
  fields : Nat
  deriving DecidableEq, Repr

/-- A queued update with the writer code of R59, the signal frame it came in and its record number there. -/
structure Queued where
  upd : Update
  writer : Nat
  frame : Nat
  record : Nat
  deriving DecidableEq, Repr

/-- A signal frame whose reply is still owed (R410): records not yet written or discarded, and the failures listed so far. -/
structure FrameReply where
  frame : Nat
  path : CopPath
  src : Nat
  tag : Nat
  key : Option Nat
  total : Nat
  left : Nat
  fails : List (Nat × Nat)
  deriving DecidableEq, Repr

/-- A walk in progress (R61): the frame, the next group, the hold decision, what it clears, the latched classes, the copies made. -/
structure Walk where
  frame : Nat
  group : Nat
  held : Bool
  clearSig : Bool
  clearAttr : Bool
  copied : Nat
  deriving DecidableEq, Repr

/-- The signal store: staging and display words, dirty bits, attribute bytes, ingest queues, the walk and what R65 and R68 remember. -/
structure SignalStore where
  stag : SMap Nat := []
  disp : SMap Nat := []
  dirty : SMap Bool := []
  attr : SMap Nat := []
  netQ : List Queued := []
  spiQ : List Queued := []
  replies : List FrameReply := []
  nextFrame : Nat := 0
  walk : Option Walk := none
  heldRun : Nat := 0
  clearReq : Nat := 0
  deriving DecidableEq, Repr

/-! ### The raster (07) -/

/-- A load of palettes, rules or sprite attributes (R87, R115, R120): the latched source and range, and the VSRAM as it stood at the arm, for an
entry whose source is written before the load ends may take the old or the new value. -/
structure Load where
  src : Nat
  range : Nat
  old : SMap Byte
  deriving DecidableEq, Repr

/-- A staged write held in the commit window (R181): the entry, the bits it replaces and their values; a write that arms a load carries the load
it latched (R87). -/
structure HeldWrite where
  key : Nat
  mask : Nat
  value : Nat
  arm : Option Load := none
  deriving DecidableEq, Repr

/-- Where a mode change stands (R184, R495): waiting for C_a, blanking with commit instants counted, or stopped while the PLL tunes. -/
inductive ModePhase where
  | waiting | blanking (commits : Nat) | stopped
  deriving DecidableEq, Repr

/-- A mode change: the request's mode word and its phase. -/
structure ModeChange where
  modes : Nat
  phase : ModePhase
  deriving DecidableEq, Repr

/-- The lock states of RASTER_STATUS (R188, R189). -/
inductive LockState where
  | free | acquiring | locked | holdover
  deriving DecidableEq, Repr

/-- The composition raster: whether it runs and has run since engine 11 was switched on, the last commit instant's number (retained) and time,
requests pending before and inside the window, the window, held writes, RASTER_CTRL in force, the mode change and a queued request, whether the
heads show the frame, the lock with the settings in force, the Isobar word of the frame (R191), the frame number whose S_n the raster is held for
(R188), the time from which idle commit times count (R67), HS_CFG in force, the finding of R164, the line last reached and the engine clock at which
it began. -/
structure Raster where
  running : Bool := false
  started : Bool := false
  lastFrame : Option Nat := none
  commitTime : Nat := 0
  commitPending : Bool := false
  lateReq : Bool := false
  inWindow : Bool := false
  lateMarked : Bool := false
  held : List HeldWrite := []
  ctrl : Nat := 0x200
  change : Option ModeChange := none
  queued : Option Nat := none
  showing : Bool := false
  lock : LockState := .free
  goodFrames : Nat := 0
  lockCfg : List Nat := []
  isobarOut : Option (List Bool) := none
  holding : Option Nat := none
  idleFrom : Nat := 0
  lineClk : Nat := 0
  hsCfg : Nat := 0x401
  depthFound : Bool := false
  line : Nat := 0
  deriving DecidableEq, Repr

/-! ### Planes, rules, sprites, the line sequencer and the composer (03 to 06) -/

/-- A pixel delivered by a plane or the sprite engine: 12-bit colours, alpha, priority. -/
structure Px where
  r : Nat
  g : Nat
  b : Nat
  alpha : Nat
  prio : Nat
  deriving DecidableEq, Repr

/-- A merged pixel at tap T1, with the legal window that it came from, if any (R145). -/
structure Mpx where
  r : Nat
  g : Nat
  b : Nat
  legal : Option Nat
  deriving DecidableEq, Repr

/-- A line buffer: the line it belongs to, whether its fetch ended, where a fetch error struck, the entries and the line scroll word sampled at the
line's latch point (R76, R89), the pixels. -/
structure LineBuf where
  line : Nat
  done : Bool
  errAt : Option Nat
  entries : List (Nat × Nat)
  scroll : Int × Int
  px : List (Option Px)
  deriving DecidableEq, Repr

/-- A plane engine: its line buffers and whether a bitmap base was in use in the frame (R95). -/
structure Plane where
  bufs : List LineBuf := []
  inUse : Bool := false
  deriving DecidableEq, Repr

/-- The position of an enabled sprite in the frame (R122): hidden or not. -/
structure SpritePos where
  sprite : Nat
  x : Int
  y : Int
  hidden : Bool
  deriving DecidableEq, Repr

/-- A sprite line buffer: its line, ORIGIN and SPR_CLIP_X sampled for it (R124), whether its sprites are selected, the engine clock until which they
are drawn (R127), the pixels. -/
structure SprBuf where
  line : Nat
  origin : Int × Int
  clip : Nat
  done : Bool
  drawUntil : Nat
  px : List (Option Px)
  deriving DecidableEq, Repr

/-- The line sequencer (R131, R136): its place in the list, the loop, the last execution position, the executions of the frame, the commands fetched
from the place on, four words each. -/
structure LineSeq where
  running : Bool := false
  ended : Bool := false
  pc : Nat := 0
  d : Nat := 0
  active : Bool := false
  loopPc : Nat := 0
  k : Nat := 0
  last : Option Nat := none
  execs : Nat := 0
  fifo : List (List Nat) := []
  deriving DecidableEq, Repr

/-- What the shadow renderer sampled at a line's latch point (R205): the current entries and the line scroll word of each plane, ORIGIN and
SPR_CLIP_X. -/
structure ShadowLine where
  line : Nat
  planes : List (List (Nat × Nat))
  scroll : List (Int × Int)
  origin : Int × Int
  clip : Nat
  deriving DecidableEq, Repr

/-- A line that Head S sends (R176): its number, HS_CFG.MAP in force, and the pixels of each link, one link or two. -/
structure LvdsLine where
  line : Nat
  jeida : Bool
  links : List (List (Nat × Nat × Nat))
  deriving DecidableEq, Repr

/-- Tiles of a plane that an occluder covers (R147, R148): tile columns from s0 below s1, tile rows from b0 below b1. -/
structure CullRect where
  plane : Nat
  occluder : Nat
  s0 : Nat
  s1 : Nat
  b0 : Nat
  b1 : Nat
  deriving DecidableEq, Repr

/-- The frame's rendering state: planes, palettes and rules with the shadow renderer's copies, sprite attributes and positions, loads,
line sequencer, cull map, merged lines held for the scaler, head output lines; `dark` are the engines that stay transparent until the next
commit instant after a re-initialisation (R440); `shadowLines` and `shadowPos` are what the shadow renderer sampled and its own sprite positions (R205). -/
structure Gfx where
  planes : SMap Plane := []
  pal : SMap Nat := []
  rules : SMap Nat := []
  sprAttr : SMap Nat := []
  palArmed : Option Load := none
  palLoad : Option Load := none
  ruleArmed : Option Load := none
  ruleLoad : Option Load := none
  sprArmed : Option Load := none
  sprLoad : Option Load := none
  sprPos : List SpritePos := []
  sprBufs : List SprBuf := []
  ls : LineSeq := {}
  blink : Nat := 0
  palShadow : SMap Nat := []
  rulesShadow : SMap Nat := []
  cull : List CullRect := []
  lines : List (Nat × List Mpx) := []
  outP : Option (Nat × List (Nat × Nat × Nat)) := none
  outS : Option LvdsLine := none
  coefStaged : SMap Int := []
  coefCur : SMap Int := []
  committed : SMap Word := []
  dark : List Nat := []
  shadowLines : List ShadowLine := []
  shadowPos : List SpritePos := []
  deriving DecidableEq, Repr

/-! ### Verifier, write-back, Head P (06 to 08) -/

/-- An admitted region's work in the frame (R203 to R208): its CRC registers, the lowest differing line, the codes that rule out a comparison. -/
structure RegionRun where
  region : Nat
  crcT1 : Nat
  crcShadow : Nat
  firstDiff : Option Nat
  unsupported : Bool
  incomplete : Bool
  ditherFail : Bool
  deriving DecidableEq, Repr

/-- A frame whose results are due at its E_f, with its admitted and its skipped regions (R203, R209). -/
structure VerFrame where
  frame : Nat
  runs : List RegionRun
  skipped : List Nat
  deriving DecidableEq, Repr

/-- The verifier: the frame, whether its results are still due, admitted and skipped regions, the frame before while its E_f is still to come,
whether an E_f passed while the engine was offline, legal run counts, whether the shadow renderer renders, legal regions whose Head S lines failed after
E_f and so count in the next frame (R209). -/
structure Verifier where
  frame : Nat := 0
  due : Bool := false
  runs : List RegionRun := []
  skipped : List Nat := []
  last : Option VerFrame := none
  owed : Bool := false
  legalRun : SMap Nat := []
  rendering : Bool := false
  carry : List Nat := []
  deriving DecidableEq, Repr

/-- Write-back (R159): the frame being captured, its buffer, pitch and format, where it stopped. -/
structure WbRun where
  frame : Nat
  time : Nat
  desc : Nat
  buffer : Nat
  pitch : Nat
  format : Nat
  stopped : Nat
  deriving DecidableEq, Repr

/-- Write-back: the descriptor read that is outstanding, the capture that runs. -/
structure WriteBack where
  reading : Option Nat := none
  run : Option WbRun := none
  ring : Nat := 0
  deriving DecidableEq, Repr

/-- Head P's link (R175): hot plug, the sink's limits once read, failed attempts for the event, the configuration (lanes, rate) being trained
and the trained one, whether video is sent or starts at the next frame start. -/
structure HeadP where
  hpd : Bool := false
  sinkLanes : Nat := 4
  sinkRate : Nat := 3
  attempts : Nat := 0
  training : Option (Nat × Nat) := none
  trained : Option (Nat × Nat) := none
  video : Bool := false
  videoNext : Bool := false
  deriving DecidableEq, Repr

/-! ### The Buzhail cores (10, 11) -/

/-- A result of a pipelined unit that has not completed (R264): its unit (0 alu0, 1 alu1, 2 mul, 3 lsu, 5 fpu), the core clock from which it
can be read, its value, and the sticky bits of core.status and fpu.flags that it sets when it completes. -/
structure Flight where
  unit : Nat
  due : Nat
  value : Word
  status : Nat
  flags : Nat
  deriving DecidableEq, Repr

/-- The running division (R269). -/
structure Division where
  due : Nat
  q : Word
  r : Word
  divz : Bool
  deriving DecidableEq, Repr

/-- A shadow entry of a nesting level (R305): the saved address, guards and LEVEL, and whether the level was entered through a fault slot. -/
structure Shadow where
  pc : Nat
  guards : Nat
  level : Nat
  byFault : Bool
  deriving DecidableEq, Repr

/-- The targets of a buffered store or a held load (R19, R24). -/
inductive Space where
  | sram | vsram | ext | staging | attr | dict | display | dirty | mram | tile | bmRegs
  deriving DecidableEq, Repr

/-- A store in the store buffer (R293): its target, the offset there (the 40-bit external address for external memory), width and data. -/
structure StoreEntry where
  space : Space
  addr : Nat
  width : Nat
  data : Nat
  deriving DecidableEq, Repr

/-- A move of a group after its source was read (R258): destination, extension, the value, and whether it executes. -/
structure Move where
  dst : Nat
  ext : Nat
  value : Word
  runs : Bool
  deriving DecidableEq, Repr

/-- A group that holds (R23, R279, R293 to R296): its moves, its address and length, the address a fault reports, the prediction of its branch
move with the early target and whether the move is guarded, the macro with its step, argument and extension, whether it waits for load data (else for the store buffer),
whether an overlap was counted, and the source whose synchronised mask write it has sent and waits for (R320). -/
structure HeldGroup where
  moves : List Move
  addr : Nat
  len : Nat
  faultAt : Nat
  predicted : Option (Bool × Option Nat)
  guarded : Bool
  mac : Option (Nat × Nat × Word × Nat)
  forData : Bool
  overlap : Bool
  masked : Option Nat
  deriving DecidableEq, Repr

/-- A processor: application cores 0 to 7, the Warden 8, the legal core 9. `opd` and `res` hold operands and results by unit (0 alu0, 1 alu1, 2 mul,
3 lsu, 4 div, 5 fpu, 6 cmp: cmp.a and cmp.g; result 7 is div.r); `copr` the coprocessor operand and result ports by port number;
`queue` the prefetch queue: its first word's address and the clock of each word's fetch, and `used` whether a parcel of that first word has
issued (R287); `rot` the core clocks from the interconnect's reset to this core's release (R28); `returned` the guards that a handler
left by bru.retint and whether a request stood at its end (R307); `fresh` an entered handler whose first group has not issued (R306); `pads` the
clock of the core's last change of pads, with the pads it changed and their levels before (R362). -/
structure Core where
  run : Nat := 0
  lockup : Bool := false
  stepReq : Bool := false
  regs : SMap Word := []
  guards : Nat := 0
  pc : Nat := 0
  opd : SMap Word := []
  res : SMap Word := []
  flight : List Flight := []
  div : Option Division := none
  link : Word := 0#32
  fpuFlags : Nat := 0
  sticky : Nat := 0
  cyc : Nat := 0
  cych : Word := 0#32
  immHi : Option (Nat × Nat) := none
  predOff : Bool := false
  usel : Nat := 0
  mcsel : Nat := 0
  mc : SMap Word := []
  lock : Bool := false
  level : Nat := 0
  stack : List Shadow := []
  returned : Option (Nat × Bool) := none
  fresh : Bool := false
  fault : Nat := 0
  fpc : Nat := 0
  vbase : Word := 0#32
  stores : List StoreEntry := []
  held : Option HeldGroup := none
  pred : SMap Nat := []
  ras : List Nat := []
  queue : Nat × List Nat := (0, [])
  used : Bool := false
  rot : Nat := 0
  pads : Option (Nat × Nat × Nat) := none
  prev : SMap (Option Word) := []
  stale : List (Nat × Nat × Byte) := []
  copr : SMap Word := []
  iram : SMap Byte := []
  dram : SMap Byte := []
  deriving DecidableEq, Repr

/-! ### DMA and blitter (13) -/

/-- What a DMA channel waits for: nothing, a descriptor, a re-read descriptor, or data. -/
inductive DmaPhase where
  | none | desc | reRead | data
  deriving DecidableEq, Repr

/-- A DMA channel beside its entries (R329 to R335): the latched configuration and peer start, the peer address of the descriptor, the four
descriptor words, the bytes moved, the reissues of the failing access, whether a HALT waits for outstanding requests. -/
structure DmaChan where
  phase : DmaPhase := .none
  cfg : Nat := 0
  peer0 : Nat := 0
  peer : Nat := 0
  words : List Nat := []
  moved : Nat := 0
  tries : Nat := 0
  halting : Bool := false
  deriving DecidableEq, Repr

/-- What the blitter waits for. -/
inductive BltPhase where
  | idle | command | reads | writes
  deriving DecidableEq, Repr

/-- The blitter beside its entries (R338 to R343): what it waits for, the command's words, the row and span in processing order, the bytes of the
span to write, a pending abort, whether the watermark was found late, and
whether its row is complete. -/
structure Blitter where
  phase : BltPhase := .idle
  words : List Nat := []
  row : Nat := 0
  span : Nat := 0
  out : List (Nat × Byte) := []
  abort : Bool := false
  latched : Bool := false
  wmDone : Bool := false
  deriving DecidableEq, Repr

/-! ### Timers and pins (14) -/

/-- The timers beside their entries: which locked channels have reached their lock time and count (R357), and which channels owe the action of a
compatibility match at their next tick (R352); the old words of entries whose writes take effect at the channel's next clock (R349), by subindex; the
last multiple of 10 ns of the time base with a timer clock (R347); the channels that an action has reset in the clock in progress. -/
structure Timers where
  counting : SMap Bool := []
  acts : SMap Bool := []
  before : SMap (List (Nat × Word)) := []
  edge : Nat := 0
  zeroed : List Nat := []
  deriving DecidableEq, Repr

/-- A handover cycle (R363): whether the pad drives and at which level, the PIN_MUX value whose ownership it brings, and the values of later writes, each
of which waits for its own cycle. -/
structure PadHold where
  drives : Bool
  level : Bool
  mux : Nat
  next : List Nat := []
  deriving DecidableEq, Repr

/-- The pins: levels that the outside drives, output values shared by all owners (R361), handover cycles, the level at which a function's input was
frozen, the values that peripheral functions drive, and until when TB_PPS and FRAME_PULSE stay high (R486). -/
structure Pins where
  ext : Nat := 0
  out : Nat := 0
  hand : SMap (Option PadHold) := []
  frozen : Nat := 0
  func : Nat := 0
  ppsUntil : Nat := 0
  frameUntil : Nat := 0
  deriving DecidableEq, Repr


/-! ### The network, the Craow Object Protocol and application entries (16, 20) -/

/-- A COP message the device sends or owes: its header fields and body (R404). `key` is the slot of its tag, if it
carries one, and `status` the code of R407 that a reply reports. -/
structure OutMsg where
  path : CopPath
  mode : Nat
  dest : Nat
  typ : Nat
  reply : Bool
  tag : Nat
  key : Option Nat
  seq : Nat
  status : Nat
  body : List Byte
  deriving DecidableEq, Repr

/-- A segmented transfer (R411): its requester, entry, direction, object, the lowest offset not yet received or acknowledged, and the segments
received since the last acknowledgement. -/
structure Transfer where
  hdr : CopHdr
  idx : Nat
  sub : Nat
  fromDevice : Bool
  total : Nat
  crc : Nat
  next : Nat
  unacked : Nat
  data : List Byte
  deriving DecidableEq, Repr

/-- What a subscription remembers (R412): the last value sent, the time of the last event, merged events, an event that fell due inside
the interval. -/
structure SubState where
  last : Option Nat := none
  lastTime : Option Nat := none
  missed : Nat := 0
  due : Option Nat := none
  deriving DecidableEq, Repr

/-- A long operation (R413): its code and unit, its progress, who asked for PROGRESS, and for flash programming the bytes to place. -/
structure LongOp where
  op : Nat
  unit : Nat
  progress : Option CopHdr
  addr : Nat
  data : List Byte
  deriving DecidableEq, Repr

/-- A local request (R417): the processor, its tag, its buffer, whether it asked for NQ_DONE, its state and status. -/
structure LocalReq where
  proc : Nat
  tag : Nat
  addr : Nat
  cap : Nat
  notify : Bool
  state : Nat
  status : Nat
  deriving DecidableEq, Repr

/-- A handler processor: the request in service and the requests waiting (at most 8). -/
structure AppHandler where
  cur : Option AppReq := none
  queue : List AppReq := []
  deriving DecidableEq, Repr

/-- The network engine: replies owed, the SPI host's outgoing messages (at most 8), the last message and the last frame sent, the
sequence table with the most recently used sender last, transfers, subscriptions, the long operation, local requests, the poller,
learned addresses with their port, gate list positions, raw ring slots, application handlers, block writes whose replies wait for held writes (R181). -/
structure Net where
  replies : List OutMsg := []
  spiOut : List (List Byte) := []
  lastSent : Option OutMsg := none
  lastForward : Option (Nat × Nat × List Byte) := none
  toHost : Option (List Byte) := none
  senders : List (Nat × Nat) := []
  transfers : List Transfer := []
  subs : SMap SubState := []
  lop : Option LongOp := none
  reqs : List LocalReq := []
  reqTag : SMap Nat := []
  pollNext : Nat := 0
  pollAge : SMap Nat := []
  macs : List (Nat × Nat) := []
  gate : SMap Nat := []
  rawRx : Nat := 0
  rawTx : Nat := 0
  apps : SMap AppHandler := []
  stagedOwed : List CopHdr := []
  deriving DecidableEq, Repr


/-! ### Annunciation audio (15) -/

/-- A queued audio command (R373): its due boundary if it carries a stamp, argument, code, and the time base at its acceptance. -/
structure AudCmd where
  due : Option Nat
  arg : Nat
  code : Nat
  accepted : Nat
  deriving DecidableEq, Repr

/-- A voice's configuration as latched when an arm or a start falls due (R377). -/
structure VoiceCfg where
  format : Nat := 0
  interp : Bool := true
  loops : Nat := 0
  addr : Nat := 0
  len : Nat := 1
  loopStart : Nat := 0
  step : Nat := 65536
  deriving DecidableEq, Repr

/-- A voice (R376 to R380): state 0 IDLE, 1 ARMED, 2 PLAYING, 3 STOPPING; the position; the samples of its prefetch buffer in the order they play;
the fetch side's next sample, passes left and ADPCM state; the boundary of a fade and what follows it: idle, or a restart with its configuration. -/
structure Voice where
  st : Nat := 0
  late : Bool := false
  waiting : Bool := false
  cfg : VoiceCfg := {}
  i : Nat := 0
  frac : Nat := 0
  loops : Nat := 0
  buf : List Int := []
  fIdx : Nat := 0
  fLoops : Nat := 0
  pred : Int := 0
  index : Nat := 0
  fade : Option Nat := none
  again : Option (VoiceCfg × Nat) := none
  deriving DecidableEq, Repr

/-- A tone or siren generator (R381): whether it runs, phase, samples since the start, the entries it took at the start, a fade. -/
structure Tone where
  on : Bool := false
  phase : Nat := 0
  tau : Nat := 0
  words : List Nat := []
  fade : Option Nat := none
  deriving DecidableEq, Repr

/-- A gain (R388): the value in force, the boundary of the earliest target not yet applied, the previous sample entering it. -/
structure AudGain where
  cur : Nat
  since : Option Nat
  prev : Int
  deriving DecidableEq, Repr

/-- A multiplexer (R389): the setting in force or faded from, and a crossfade's target and boundary. -/
structure AudMux where
  cur : Nat
  fade : Option (Nat × Nat)
  deriving DecidableEq, Repr

/-- A paging stream (R384): samples with the boundary each plays at and its spacing, the last value heard, a fade out or in. -/
structure PageStream where
  buf : List (Nat × Nat × Int) := []
  last : Int := 0
  fadeOut : Option Nat := none
  fadeIn : Option Nat := none
  deriving DecidableEq, Repr

/-- A TDM port (R383, R391): boundaries until it restarts after a change, whether FS is lost, the measured rate of a slave. -/
structure TdmPort where
  wait : Nat := 0
  lost : Bool := false
  rate : Nat := 48000
  deriving DecidableEq, Repr

/-- An output pair (R387, R390): the compressors' and limiters' working words, the limiter's look-ahead, the outputs waiting for their frame. -/
structure AudPair where
  dyn : Nat := 0
  ahead : List (Int × Int) := []
  out : List (Int × Int) := []
  deriving DecidableEq, Repr

/-- The audio engine: the boundary, the queue, voices, generators, gains (0 to 99 sources, 128 + MIX_GAIN, 192 + 2p + c), multiplexers (0 to 99
sources, 128 + slot, 160 DP), paging, TDM ports, compressor words, pairs, a resynchronisation's boundary, what the TDM outputs and DP audio carry. -/
structure Audio where
  k : Option Nat := none
  queue : List AudCmd := []
  voices : SMap Voice := []
  tones : SMap Tone := []
  gains : SMap (Option AudGain) := []
  muxes : SMap (Option AudMux) := []
  pages : SMap PageStream := []
  tdm : SMap TdmPort := []
  comp : SMap Nat := []
  pairs : SMap AudPair := []
  resync : Option Nat := none
  slots : SMap Int := []
  dp : Option (Int × Int) := none
  deriving DecidableEq, Repr

/-! ### Bellmetal (09) -/

/-- A copy of the slot pointer: the slot and its generation (R243). -/
structure SlotPtr where
  slot : Nat
  gen : Nat
  deriving DecidableEq, Repr

/-- The control rows of the MRAM (R228): both copies of the event counter as word and complement, both copies of the slot pointer, the session
marker (its type and WRITTEN), the commit intent (new slot, old checksum), the ring pointers, SEAL_BROKEN and the seal generation. -/
structure BmControl where
  ctrA : Nat × Nat := (0, 0xFFFFFFFF)
  ctrB : Nat × Nat := (0, 0xFFFFFFFF)
  ptrA : Option SlotPtr := some ⟨0, 0⟩
  ptrB : Option SlotPtr := some ⟨0, 0⟩
  marker : Option (Nat × Bool) := none
  intent : Option (Nat × Nat) := none
  head : Nat := 0
  tail : Nat := 0
  broken : Bool := false
  sealGen : Nat := 0
  deriving DecidableEq, Repr

/-- A legal window shown in the frame (R236, R238): its number, position, size in tiles and first map cell. -/
structure LegalWin where
  k : Nat
  x : Nat
  y : Nat
  w : Nat
  h : Nat
  map : Nat
  deriving DecidableEq, Repr

/-- A load-cell channel (R231 to R235): CFG, the sticky bits of STATUS, calibration, the sample FIFO, the last sample, the count since the last
reversal, SETTLING samples left, the FIR and the decimator outputs it holds. -/
structure LoadChan where
  cfg : Nat := 0x8010E
  sticky : Nat := 0
  refLow : Bool := false
  supplyLow : Bool := false
  calibrating : Bool := false
  reversed : Bool := false
  since : Nat := 0
  settle : Nat := 0
  fifo : List Nat := []
  last : Nat := 0
  coefs : SMap Int := []
  tap : Nat := 0
  hist : List Int := []
  deriving DecidableEq, Repr

/-- A frame of the sealed serial port: TYPE, SEQ and payload. -/
structure SerFrame where
  typ : Nat
  seq : Nat
  payload : List Byte
  deriving DecidableEq, Repr

/-- The sealed serial port (R247 to R249): received firmware frames with the words read of the oldest, hardware requests to answer, replies
waiting, the transmit buffer, the queued frame, the frame on the line (whether the firmware's, and its bytes), whether slot 21 stands. -/
structure SerPort where
  rx : List SerFrame := []
  rxRead : Nat := 0
  requests : List SerFrame := []
  replies : List SerFrame := []
  txBuf : List Byte := []
  txReady : Bool := true
  queued : Option SerFrame := none
  line : Option (Bool × List Byte) := none
  txDone : Bool := false
  flags : Nat := 0
  badCrc : Nat := 0
  badLen : Nat := 0
  dropped : Nat := 0
  hwReplies : Nat := 0
  deriving DecidableEq, Repr

/-- The partition. `state` is the code of R220; `hwFrames` says that step 2 of R225 has passed; `bootFail` is the step that failed before the image
was verified; `mirrored` holds one more than each hardware mirror signal's word as last written (R255). `lop` is the long operation in progress (1 verification, 2 commit, 3 sweep, 4 compaction; 0 none) with its argument. -/
structure Bellmetal where
  state : Nat := 0
  hwFrames : Bool := false
  bootFail : Nat := 0
  ctl : BmControl := {}
  mram : SMap Byte := []
  tile : SMap Byte := []
  fallback : Bool := false
  sealClosed : Bool := false
  swId : List Byte := []
  checksum : Nat := 0
  version : Nat := 0
  sessionType : Nat := 0
  sessionWritten : Bool := false
  sessionResult : Nat := 0
  payload : SMap Word := []
  lop : Nat := 0
  lopArg : Nat := 0
  bankActive : Nat := 0
  bankShown : Bool := false
  bankPending : Option Nat := none
  bankChecking : Option Nat := none
  bankRefused : Bool := false
  wins : List LegalWin := []
  clipped : Bool := false
  err : Bool := false
  errRelease : Bool := false
  escalated : Bool := false
  mark : Bool := false
  idRequest : Bool := false
  idShowing : Bool := false
  idTruncated : Bool := false
  grant : Bool := false
  watchdog : Nat := 0
  wdHalf : Bool := false
  irqEn : Nat := 0
  latched : List Nat := []
  auditLost : Bool := false
  mirrorSel : Nat := 0
  inFull : Bool := false
  inLen : Nat := 0
  inBox : SMap Byte := []
  outValid : Bool := false
  outLen : Nat := 0
  outBox : SMap Byte := []
  temp : Int := 0
  chans : SMap LoadChan := []
  ser : SerPort := {}
  mirrored : SMap Nat := []
  deriving DecidableEq, Repr

/-! ### Security and debug (18) -/

/-- The fuses (R444 to R446): lifecycle, key hashes, the device key of 32 bytes, the unique identifier. -/
structure Fuses where
  lifecycle : Nat := 0
  appHash : List Byte := List.replicate 32 0#8
  legalHash : List Byte := List.replicate 32 0#8
  dbgHash : List Byte := List.replicate 32 0#8
  devKey : List Byte := List.replicate 32 0#8
  uid : Nat := 0
  deriving DecidableEq, Repr

/-- A DBG_RESPONSE being checked (R453): PERM, key, signature, and the nonce it was given for. -/
structure DbgResponse where
  perm : Nat
  key : List Byte
  sig : List Byte
  nonce : Option Nat
  deriving DecidableEq, Repr

/-- Engine 36 and the TAP: fuses, an accepted lifecycle request, the debug state (0 DETACHED, 1 ATTACHED_UNAUTH, 2 ATTACHED_AUTH) with its grant,
the nonce, the time of the last failure, a response in check, whether engine 19 was forced in the session, the processors halted, the TAP's
instruction and data register, the boundary-scan values that EXTEST drives, a halt (true) or resume of the Warden that waits. -/
structure Sec where
  fuses : Fuses := {}
  lcTarget : Option Nat := none
  dbg : Nat := 0
  grant : Nat := 0
  nonce : Option Nat := none
  failedAt : Option Nat := none
  response : Option DbgResponse := none
  forced : Bool := false
  halted : List Nat := []
  ir : Nat := 1
  dr : Nat := 0
  scan : Nat := 0
  late : Option Bool := none
  deriving DecidableEq, Repr


/-! ### Power, starts, ladder, self-test (17, 19) -/

/-- A transition or resume in progress (R427, R428): target 0 Gale, 1 Breeze or 2 Calm, the state it began in, the switches still to come, those
made, whether a wake stops it. -/
structure Transition where
  target : Nat
  from_ : Nat
  todo : List (Nat × Bool)
  made : List Nat
  abort : Bool
  deriving DecidableEq, Repr

/-- A ladder's memory beside REC_STATE and REC_COUNT (R440): the time of the last incident and the times of those that took the present step;
a step 2 that waits for a transition or a self-test. -/
structure Ladder where
  last : Option Nat := none
  times : List Nat := []
  waiting : Bool := false
  deriving DecidableEq, Repr

/-- The manager beside its entries: supplies valid, the reference stopped, PWR_CYCLE driven, a transition, domain switches accepted, what waits for
training (1 a cold start, 2 a warm start, 3 a switch-on or a resume), whether a resume copy is being reloaded, the start's boot timeout,
the BOOT_SEL straps, whether slot A was written since a network start began to wait, the safe service state, the retained training values, the seal generation kept at the last start (R227), the resume copy's address, length
and digest, the last written values of rw entries (R439), the ladders, and whether the signal store keeps its contents over the warm start in
progress (R69). -/
structure Power where
  supply : Bool := true
  refStopped : Bool := false
  cycling : Bool := false
  trans : Option Transition := none
  switching : List (Nat × Bool) := []
  training : Nat := 0
  resuming : Bool := false
  bootWait : Bool := false
  safe : Bool := false
  trained : Bool := false
  sealKept : Option Nat := none
  strap : Nat := 0
  slotA : Bool := false
  copyAt : Nat := 0
  copyLen : Nat := 0
  copyDigest : List Byte := []
  shadow : SMap (Option Word) := []
  ssKept : Bool := false
  ladders : SMap Ladder := []
  deriving DecidableEq, Repr

/-- The self-test that runs: its target, whether it was forced, the external range's start and length. -/
structure SelfTest where
  target : Nat
  forced : Bool
  start : Nat
  len : Nat
  deriving DecidableEq, Repr

/-- Health and the performance reader beside their entries: event bits of the current and the previous window, ladder steps likewise, the window's
number, records written since PERF_DUMP, whether the last capture was dropped, the record whose writes are outstanding, the next period
instant, and the self-test. -/
structure Health where
  now : Nat := 0
  prev : Nat := 0
  ladderNow : Nat := 0
  ladderPrev : Nat := 0
  window : Nat := 0
  written : Nat := 0
  dropped : Bool := false
  record : Option (List Byte) := none
  test : Option SelfTest := none
  deriving DecidableEq, Repr

/-! ### The whole state -/

/-- The time base (R398 to R401, R430): nanoseconds, the fraction in 1/384 ns, whether synchronised, whether grandmaster. -/
structure TimeBase where
  ns : Nat := 0
  frac : Nat := 0
  sync : Bool := false
  gm : Bool := false
  deriving DecidableEq, Repr

/-- The device. `pending` is the queue of waiting commands; `freeCtr` the counter at which free values are drawn; `clk` counts engine clocks of
idle steps and `icnStart` is its value when the interconnect last left reset (R28); `raised`, `counted` and `woken` collect the sources asserted, the performance events (engine, code, occurrences) and the wake causes of the
command that runs, and are empty between commands. These seven fields are the model's own. -/
structure State where
  variant : Variant := .yl6400
  pending : List Instr := []
  freeCtr : Nat := 0
  clk : Nat := 0
  icnStart : Nat := 0
  raised : List Nat := []
  counted : List (Nat × Nat × Nat) := []
  woken : List Nat := []
  tb : TimeBase := {}
  dict : SMap Word := []
  blobs : SMap (List Byte) := []
  saved : SMap Word := []
  savedBlobs : SMap (List Byte) := []
  snaps : List Snap := []
  mem : Mems := {}
  ic : Ic := {}
  ss : SignalStore := {}
  raster : Raster := {}
  gfx : Gfx := {}
  ver : Verifier := {}
  wb : WriteBack := {}
  hp : HeadP := {}
  net : Net := {}
  cores : SMap Core := []
  bm : Bellmetal := {}
  dma : SMap DmaChan := []
  blt : Blitter := {}
  tm : Timers := {}
  pins : Pins := {}
  sec : Sec := {}
  aud : Audio := {}
  pwr : Power := {}
  tracker : SMap Nat := []
  health : Health := {}
  deriving DecidableEq, Repr

/-- The faults of a step. The block raises none: every error the spec describes is an effect on the state. -/
inductive Fault where
  /-- No meaning raises it (safe): kept so that the type names what a fault would be, a command of a unit that does not exist. -/
  | noUnit
  deriving DecidableEq, Repr

/-- The refusals of a step. -/
inductive Refusal where
  /-- A command whose meaning is not written (safe: the machine stops). -/
  | notModelled (mnemonic : String)
  deriving DecidableEq, Repr

/-! ### Reset -/

/-- The cores after a cold start: the application cores and the Warden are released at address 0 (R435), the legal core is held. -/
def resetCores : SMap Core := (List.range 9).map (fun c => (c, { run := 1 }))

/-- The entries that differ from their reset values once a cold start has released the cores (R424, R429, R435): external memory of 8192 MiB, domains
1, 2, 3, 7 to 14, 23 and 24 on, the low-frequency clock on its RC, the core, timer, engine and memory PLLs and the reference valid, the memory trained. -/
def resetDict : SMap Word :=
  [(0x100008, 0x2000#32), (0x204004, 0xC03FC7#32), (0x20400B, 8#32), (0x20400C, 0x57#32), (0x248201, 1#32)]

/-- The device right after a reset (R435): a cold start from empty flash contents has reached step 11, before BM_START. The values the spec
leaves open are those of the assumption log. -/
def State.reset : State := { dict := resetDict, cores := resetCores, pwr := { bootWait := true, trained := true } }


end Sys2Proof.Machine
end

