-- ==== Sys2Proof/Machine/Ops.lean ====
section
/-! DEFINITION. The named operations over the dictionary registers, the memories, power domains and variants. -/
namespace Sys2Proof.Machine

/-! ### Dictionary registers -/

/-- The 32-bit value held by an entry. -/
def regGet (s : State) (k : Nat) : Word := mapGet dictReset s.dict k

/-- Stores a 32-bit value in an entry. -/
def regSet (s : State) (k : Nat) (v : Word) : State := { s with dict := mapSet dictReset s.dict k v }

/-- The value of an entry as a number. -/
def regN (s : State) (k : Nat) : Nat := (regGet s k).toNat

/-- Stores a number in an entry, modulo 2^32. -/
def setN (s : State) (k n : Nat) : State := regSet s k (natWord n)

/-- Bits [lo+n-1:lo] of an entry. -/
def fld (s : State) (k lo n : Nat) : Nat := bits (regN s k) lo n

/-- Bit b of an entry. -/
def flag (s : State) (k b : Nat) : Bool := bitAt (regN s k) b

/-- Replaces bits [lo+n-1:lo] of an entry. -/
def setFld (s : State) (k lo n x : Nat) : State := setN s k (putBits (regN s k) lo n x)

/-- Adds to a counter, which wraps at 2^32. -/
def addTo (s : State) (k n : Nat) : State := setN s k (regN s k + n)

/-- Increments a counter, which wraps at 2^32. -/
def bump (s : State) (k : Nat) : State := addTo s k 1

/-- Increments a counter that saturates at `top`. -/
def bumpSat (s : State) (k top : Nat) : State := if regN s k < top then setN s k (regN s k + 1) else s

/-- Writes the low and high halves of a number to two entries. -/
def setPair (s : State) (kLo kHi n : Nat) : State := setN (setN s kLo n) kHi (n / 2 ^ 32)

/-- The number held by two entries, low half first. -/
def pairN (s : State) (kLo kHi : Nat) : Nat := regN s kLo + 2 ^ 32 * regN s kHi

/-- The bytes of a STR or DOMAIN entry. -/
def blobGet (s : State) (k : Nat) : List Byte := mapGet (fun _ => []) s.blobs k

/-- Replaces the bytes of a STR or DOMAIN entry. -/
def blobSet (s : State) (k : Nat) (b : List Byte) : State := { s with blobs := mapSet (fun _ => []) s.blobs k b }

/-- Draws a free value: the value the spec leaves open is `Config.freeNat` at the counter, which advances (DESIGN CHOICE, log 2). -/
def drawFree (s : State) : Nat × State := (Config.freeNat s.freeCtr, { s with freeCtr := s.freeCtr + 1 })

/-! ### Variants (R1, R9) -/

/-- The engines a variant contains. -/
def enginePresent (v : Variant) (e : Nat) : Bool :=
  decide (e ≤ 36) && !(v == .yl6430 && (e == 15 || e == 18 || (decide (32 ≤ e) && decide (e ≤ 35))))

/-- Application cores of a variant. -/
def appCores (v : Variant) : Nat := if v = .yl6430 then 4 else 8

/-- Audio voices of a variant. -/
def voiceCount (v : Variant) : Nat := if v = .yl6430 then 32 else 64

/-- Load-cell channels of a variant. -/
def loadCells (v : Variant) : Nat := if v = .yl6400 then 4 else 0

/-- Whether a processor (8 the Warden) exists in a variant. -/
def procPresent (v : Variant) (p : Nat) : Bool := p == 8 || decide (p < appCores v)

/-! ### Power domains (R424) -/

/-- The power domain of an engine. -/
def engineDomain (e : Nat) : Nat :=
  if e = 0 then 3 else if e = 1 ∨ e = 4 then 1 else if e = 5 ∨ e = 6 then 22 else if e = 7 then 7
  else if e = 2 ∨ e = 3 ∨ e = 17 ∨ e = 36 then 8 else if e = 8 then 13 else if e = 9 ∨ e = 10 then 17
  else if e = 11 ∨ e = 12 ∨ e = 15 then 18 else if e = 13 then 19 else if e = 14 then 20 else if e = 16 then 21
  else if e = 18 then 23 else if e = 19 then 4 else if e ≤ 23 then 15 else if e ≤ 27 then 16 else 9 + (e - 28) / 2

/-- PWR_DOMAIN_ON. -/
def kDomainOn : Nat := entryKey 0x2040 0x04

/-- Whether a power domain is on. -/
def domainOn (s : State) (d : Nat) : Bool := flag s kDomainOn (d - 1)

/-- Whether an engine is present and its domain is on. -/
def engineOn (s : State) (e : Nat) : Bool := enginePresent s.variant e && domainOn s (engineDomain e)

/-- The engine whose block holds an index (R10). -/
def engineOf (idx : Nat) : Option Nat := if 0x2000 ≤ idx ∧ idx < 0x2940 then some ((idx - 0x2000) / 64) else none

/-- The power domain that holds an entry: its engine's, but the AT timers in domain 1, NET_TB_SET in domain 1 (R398), the performance counters in domain 8 (R461), the partition's copies in
domain 8 (R254), and 1000 to 13FF in domain 8. -/
def entryDomain (idx sub : Nat) : Nat :=
  if 0x20F0 ≤ idx ∧ idx < 0x20F8 then 1
  else if idx = 0x21C0 ∧ (sub = 0x0A ∨ sub = 0x0B) then 1
  else if idx = 0x24C0 ∨ idx = 0x24C1 ∨ idx = 0x24C4 then 8
  else match engineOf idx with
    | some e => engineDomain e
    | none => 8

/-- REC_STATE.OFFLINE of an engine: step 2 of the ladder runs on it (R439). -/
def engineOffline (s : State) (e : Nat) : Bool := flag s (entryKey 0x2044 e) 3

/-- Whether a rendering engine contributes transparent pixels: offline, or not yet past a commit instant since it was (R440). -/
def engineDark (s : State) (e : Nat) : Bool := engineOffline s e || s.gfx.dark.contains e

/-! ### Byte memories -/

/-- What a byte of memory that nothing has written reads as: 0 (DESIGN CHOICE, log 5). -/
def memReset (_ : Nat) : Byte := 0#8

/-- One byte of a memory. -/
def byteAt (m : SMap Byte) (a : Nat) : Byte := mapGet memReset m a

/-- `n` bytes of a memory, wrapping at `size`. -/
def readBytes (size : Nat) (m : SMap Byte) (a n : Nat) : List Byte := (List.range n).map (fun i => byteAt m ((a + i) % size))

/-- Writes bytes, wrapping at `size`. -/
def writeBytes (size : Nat) (m : SMap Byte) (a : Nat) : List Byte → SMap Byte
  | [] => m
  | b :: bs => writeBytes size (mapSet memReset m (a % size) b) (a + 1) bs

/-- Sizes of the memories (R19, R31, R34). -/
def sramSize : Nat := 4194304
def vsramSize : Nat := 8388608
def extSize : Nat := 2 ^ 40

/-- A little-endian word of VSRAM, its address reduced modulo 8 MiB, as R81 says of plane engines; so is that of a load that runs past the end (R115;
DESIGN CHOICE, log 114). -/
def vsramWord (s : State) (a : Nat) : Nat := ofBytes (readBytes vsramSize s.mem.vsram a 4)

/-- A little-endian word of shared SRAM at an offset. -/
def sramWord (s : State) (a : Nat) : Nat := ofBytes (readBytes sramSize s.mem.sram a 4)

/-- Whether an address lies in the external range of a self-test that runs (R470). -/
def underTest (s : State) (a : Nat) : Bool := match s.health.test with
  | some t => t.target == 4 && decide (t.start ≤ a) && decide (a < t.start + t.len)
  | none => false

/-- `n` bytes of external memory; a byte of a range under self-test is undefined (free, R470; DESIGN CHOICE, log 51). -/
def extRead (s : State) (a n : Nat) : List Byte :=
  (List.range n).map (fun i => let x := (a + i) % extSize
    if underTest s x then Config.freeByte s.freeCtr x else byteAt s.mem.ext x)

/-- A little-endian word of external memory. -/
def extWord (s : State) (a : Nat) : Nat := ofBytes (extRead s a 4)

/-- Writes bytes to shared SRAM. -/
def sramWrite (s : State) (a : Nat) (b : List Byte) : State :=
  { s with mem := { s.mem with sram := writeBytes sramSize s.mem.sram a b } }

/-- Writes bytes to VSRAM. -/
def vsramWrite (s : State) (a : Nat) (b : List Byte) : State :=
  { s with mem := { s.mem with vsram := writeBytes vsramSize s.mem.vsram a b } }

/-- Writes bytes to external memory. -/
def extWrite (s : State) (a : Nat) (b : List Byte) : State :=
  { s with mem := { s.mem with ext := writeBytes extSize s.mem.ext a b } }

/-- Writes bytes to the xSPI flash. -/
def flashWrite (s : State) (a : Nat) (b : List Byte) : State :=
  { s with mem := { s.mem with flash := writeBytes extSize s.mem.flash a b } }

/-- EXT_MEM_SIZE in bytes (R6). -/
def extFitted (s : State) : Nat := regN s (entryKey 0x1000 0x08) * 1048576

/-- Whether the memory controller can serve: present, on, and its training in use (R39). -/
def extServes (s : State) : Bool := engineOn s 18 && flag s (entryKey 0x2482 0x01) 0

/-- Whether an external access of `n` bytes is answered without an error response (R3, R39). -/
def extOk (s : State) (a n : Nat) : Bool := extServes s && decide (a + n ≤ extFitted s)

/-- The low 32 bits of the time base. -/
def timeNow (s : State) : Nat := s.tb.ns % 2 ^ 64

end Sys2Proof.Machine
end

