-- ==== Sys2Proof/Machine/Interrupts.lean ====
section
/-! DEFINITION. The interrupt controller, engine 2 (12): which signal each source presents, the source states, and how an engine's flags
drive its sources. `icAssert` is the one place where a source asserts; it also notes the source in `raised`, from which the end of the
command answers the recovery ladder, subscriptions and health (R439, R412, R471). -/
namespace Sys2Proof.Machine

/-- The flag bits behind a flag source: the entry and the mask whose bits drive its signal (R310, and each engine's source table).
The voice ends of source 256 stand in two entries and the pin, pattern and timer sources elsewhere: `sourceSignal`. -/
def srcFlag (src : Nat) : Option (Nat × Nat) :=
  let e := src / 16
  let b := src % 16
  let one (idx sub bit : Nat) : Option (Nat × Nat) := some (entryKey idx sub, 2 ^ bit)
  if e = 0 then (if b = 1 then one 0x203F 8 1 else if b = 2 then one 0x203F 8 0 else none)
  else if e = 1 then (if b = 1 then one 0x2040 0x0B 0 else if b = 3 then one 0x2040 0x0B 1 else if b = 4 then one 0x2040 0x0B 2
    else if b = 5 then one 0x2040 0x0B 4 else none)
  else if e = 2 then (if b < 4 then one 0x2080 2 b else none)
  else if e = 4 then (if b < 2 then one 0x2100 1 b else none)
  else if e = 5 then some (entryKey (0x2150 + b) 8, 0xF)
  else if e = 6 then (if b = 2 then one 0x2182 2 1 else if b = 3 then one 0x2182 2 0 else if b = 4 then one 0x2182 2 2 else none)
  else if e = 7 then (if b = 0 then one 0x21C2 2 6 else if 2 ≤ b ∧ b ≤ 7 then one 0x21C2 2 (b - 2) else none)
  else if e = 8 then (if 2 ≤ b ∧ b ≤ 5 then one 0x2200 3 (b - 2) else if b = 6 then some (entryKey 0x2200 3, 0x30) else none)
  else if e = 9 then (if b < 3 then one 0x2242 2 b else none)
  else if e = 10 then (if 1 ≤ b ∧ b ≤ 5 then one 0x2282 2 (b - 1) else none)
  else if e = 11 then (if b < 3 then one 0x22C2 2 b else if b = 3 then one 0x22F1 4 2 else if b = 6 then one 0x22C9 2 0 else if b = 8 then one 0x22C9 2 1
    else if b = 11 then one 0x22C9 2 2 else if b = 12 then one 0x22C9 2 3 else none)
  else if e = 12 then (if b = 1 then one 0x2303 2 0 else if b = 2 then one 0x2303 2 1
    else if 4 ≤ b ∧ b ≤ 8 then one 0x2303 2 (b - 2) else none)
  else if e = 13 then (if b < 2 then one 0x2342 2 b else if 3 ≤ b ∧ b ≤ 5 then one 0x2342 2 (b - 1) else none)
  else if e = 14 then (if b < 2 then one 0x2382 2 b else if b = 12 then one 0x2386 2 0
    else if b = 13 then some (entryKey 0x2386 2, 0x6) else if b = 14 then one 0x2386 2 3 else none)
  else if e = 15 then (if 1 ≤ b ∧ b ≤ 4 then one 0x23C2 2 (b - 1) else none)
  else if e = 16 then (if 1 ≤ b ∧ b ≤ 6 then one 0x2400 3 (b - 1) else if b = 7 then some (entryKey 0x2400 3, 0xC0)
    else if b = 9 then one 0x2400 3 8 else none)
  else if e = 17 then (if b = 0 then one 0x2440 9 0 else if 2 ≤ b ∧ b ≤ 4 then one 0x2440 9 (b - 1) else if b = 6 then one 0x2440 9 4
    else none)
  else if e = 18 then (if b < 5 then one 0x2482 2 b else none)
  else if 20 ≤ e ∧ e ≤ 27 then (if b < 3 then one (0x2502 + 64 * (e - 20)) 2 b else none)
  else if 28 ≤ e ∧ e ≤ 35 then (if b = 1 then one (0x273F + 64 * (e - 28)) 8 1 else if b = 2 then one (0x273F + 64 * (e - 28)) 8 0
    else none)
  else if e = 36 then (if b < 3 then one 0x2900 0x0C b else if b = 4 then one 0x2900 0x0C 3 else none)
  else none

/-- The flag source that a flag bit drives, searched among its engine's sixteen. -/
def flagSource (k b : Nat) : Option Nat :=
  let idx := k / 256
  if k = entryKey 0x2400 0x0E ∨ k = entryKey 0x2400 0x0F then some 256
  else if 0x20D0 ≤ idx ∧ idx < 0x20F0 ∧ k % 256 = 0x0B then some (48 + (idx - 0x20D0) / 4)
  else if 0x20F0 ≤ idx ∧ idx < 0x20F8 ∧ k % 256 = 0x0B then some 56
  else match engineOf idx with
  | none => none
  | some e => ((List.range 16).map (· + 16 * e)).find? (fun src =>
      match srcFlag src with
      | some (k', m) => k' == k && bitAt m b
      | none => false)

/-- TM_FLAGS or AT_FLAGS of timer channel n (0 to 31 TM, 32 to 39 AT). -/
def timerKey (n sub : Nat) : Nat := if n < 32 then entryKey (0x20D0 + n) sub else entryKey (0x20F0 + (n - 32)) sub

/-- What one timer channel contributes to its group source: MATCH and WRAP when enabled, PERIOD_CUT, LOCK_SLIP and CFG_ERROR (R360). -/
def timerDrives (s : State) (n : Nat) : Bool :=
  let c := regN s (timerKey n 1)
  let f := regN s (timerKey n 0x0B)
  (bitAt f 0 && bitAt c 7) || (bitAt f 1 && bitAt c 8) || !(bits f 2 3 == 0)

/-- The timer source: sources 48 to 55 each cover the four TM channels 4k to 4k+3 and source 56 the AT channels (R360). -/
def timerSignal (s : State) (src : Nat) : Bool :=
  if src = 56 then (List.range 8).any (fun i => timerDrives s (32 + i))
  else (List.range 4).any (fun i => timerDrives s (4 * (src - 48) + i))

/-- IC_ROUTE of a source (R311). -/
def routeKey (src : Nat) : Nat := entryKey (0x2084 + src / 256) (src % 256)

/-- A source that the controller routes (R309). -/
def sourceRouted (src : Nat) : Bool := decide (src < 644) || (decide (768 ≤ src) && decide (src < 1024))

/-- The engine behind a source: pins and pattern units belong to engine 4, doorbells to the controller itself. -/
def sourceEngine (src : Nat) : Nat := if src < 592 then src / 16 else if src < 644 then 4 else 2

/-- The domain whose power a source needs: its engine's, but the AT timers of engine 3 stand in domain 1 (R26, R322). -/
def sourceDomain (src : Nat) : Nat := if src = 56 then 1 else engineDomain (sourceEngine src)

/-- A source may assert only when its engine is present and on (R2, R44, R322). -/
def sourceLive (s : State) (src : Nat) : Bool := sourceRouted src && enginePresent s.variant (sourceEngine src) && domainOn s (sourceDomain src)

/-- Routed fields of a source's entry. -/
def routeProc (r : Nat) : Nat := bits r 0 4
def routeSlot (r : Nat) : Nat := bits r 4 7
def routePrio (r : Nat) : Nat := bits r 16 5
def routeEdge (r : Nat) : Bool := bitAt r 24

/-- The state of a source. -/
def srcState (s : State) (src : Nat) : SrcState := mapGet (fun _ => .idle) s.ic.src src

/-- Moves a source to a state. -/
def setSrcState (s : State) (src : Nat) (x : SrcState) : State :=
  { s with ic := { s.ic with src := mapSet (fun _ => .idle) s.ic.src src x } }

/-- Notes `n` occurrences of a performance event of engine e (R463, R465); the end of the command counts them. -/
def perfEvent (s : State) (e code n : Nat) : State := if n = 0 then s else { s with counted := s.counted ++ [(e, code, n)] }

def kMerged : Nat := entryKey 0x2080 0x06

/-- Counts a merged edge (R313). -/
def edgeMerged (s : State) : State := perfEvent (bump s kMerged) 2 0x21 1

/-- Notes a health event bit (R471); the end of the command records it. -/
def healthEvent (s : State) (b : Nat) : State := { s with raised := s.raised ++ [3000 + b] }

/-- The signal of a level source falls: a pending source returns to idle (R313). -/
def icFall (s : State) (src : Nat) : State :=
  if routeEdge (regN s (routeKey src)) then s
  else if srcState s src = .pending then setSrcState s src .idle else s

/-- Whether the peripheral function of pin k drives its pad (R486). -/
def funcDrives (s : State) (k : Nat) : Bool :=
  if k < 6 then (if k % 3 = 2 then flag s (entryKey 0x2415 (k / 3)) 1 else flag s (entryKey 0x2415 (k / 3)) 2) else decide (k ≤ 8)

/-- What a PIN_MUX value makes pin k drive, if anything: a GPIO output its value (an open-drain 1 is high impedance), a function that drives the
pad its own (R361, R363, R364). -/
def muxDrive (s : State) (k mux : Nat) : Option Bool :=
  let cfg := regN s (entryKey 0x2102 k)
  if bits mux 0 3 = 0 then
    if bitAt cfg 0 && !(bitAt cfg 1 && bitAt s.pins.out k) then some (bitAt s.pins.out k) else none
  else if funcDrives s k then some (bitAt s.pins.func k)
  else none

/-- What drives pin k: EXTEST its scan value (R451); a handover cycle holds the previous driven value (R363). -/
def padDrive (s : State) (k : Nat) : Option Bool :=
  if s.sec.ir = 3 then some (bitAt s.sec.scan k)
  else match mapGet (fun _ => none) s.pins.hand k with
  | some h => if h.drives then some h.level else none
  | none => muxDrive s k (regN s (entryKey 0x2101 k))

/-- The level of pin k: what drives it, else the outside. -/
def padLevel (s : State) (k : Nat) : Bool := match padDrive s k with
  | some b => b
  | none => bitAt s.pins.ext k

/-- Whether the function of pin k owns the pad: selected, and past its handover cycle (R363). -/
def funcOwns (s : State) (k : Nat) : Bool :=
  (mapGet (fun _ => none) s.pins.hand k).isNone && !(fld s (entryKey 0x2101 k) 0 3 == 0)

/-- The level that the function of pin k sees: the pad's while it owns it, else the level at which its input was frozen (R363); before it first owned the
pad that is 0 (DESIGN CHOICE, log 106). -/
def funcIn (s : State) (k : Nat) : Bool := if funcOwns s k then padLevel s k else bitAt s.pins.frozen k

/-- The flag-like signal of pin source 592 + k (R365): the level for DET 1, inverted for DET 2, else 0. -/
def pinSignal (s : State) (k : Nat) : Bool :=
  let det := bits (regN s (entryKey 0x2102 k)) 4 3
  (det == 1 && padLevel s k) || (det == 2 && !(padLevel s k))

/-- The signal of pattern source 640 + u: MATCHED while its routing names the granted processor (R367). -/
def patSignal (s : State) (u : Nat) : Bool :=
  flag s (entryKey 0x2103 (16 * u + 5)) 0 && bits (regN s (routeKey (640 + u))) 0 4 == fld s (entryKey 0x2100 3) (4 * u) 4

/-- Whether the signal of a flag source is 1: any of its flag bits, a pin's level, a pattern's match. -/
def flagSignal (s : State) (src : Nat) : Bool :=
  if 592 ≤ src ∧ src < 640 then pinSignal s (src - 592)
  else if 640 ≤ src ∧ src < 644 then patSignal s (src - 640)
  else if src = 256 then !(regN s (entryKey 0x2400 0x0E) == 0 && regN s (entryKey 0x2400 0x0F) == 0)
  else if 48 ≤ src ∧ src ≤ 56 then timerSignal s src
  else match srcFlag src with
    | some (k, m) => !(maskAnd (regN s k) m == 0)
    | none => false

/-- What a source presents to the controller (R310): a flag, the pulses of an event, or a constant 0. -/
inductive SourceKind
  | flag
  | event
  | never
  deriving DecidableEq, Repr

/-- An event source: one whose condition is not a flag being set (R310, and each engine's source table). Pins follow their detector (R365).
147, SPR_LOAD_CHECK, is a load's end with a bad word and so an event (DEDUCED, log 97); 179, RULE_CHECK, is the flag that R166 says it is. -/
def isEventSource (s : State) (src : Nat) : Bool :=
  if 768 ≤ src then true
  else if 592 ≤ src ∧ src < 640 then decide (3 ≤ fld s (entryKey 0x2102 (src - 592)) 4 3 ∧ fld s (entryKey 0x2102 (src - 592)) 4 3 ≤ 5)
  else [0, 3, 16, 18, 96, 97, 113, 120, 121, 128, 129, 147, 160, 166, 180, 181, 183, 185, 186, 192, 195, 210, 240, 264, 273, 277,
      579].contains src ||
    (decide (304 ≤ src) && decide (src ≤ 311)) || (decide (320 ≤ src) && decide (src < 448) && (src % 16 == 3 || src % 16 == 4)) ||
    (decide (448 ≤ src) && decide (src < 576) && src % 16 == 0)

/-- A flag source: a pin with DET 1 or 2, a pattern unit, the voice ends, a timer group, or a source with a flag bit of its engine (R310). -/
def isFlagSource (s : State) (src : Nat) : Bool :=
  if 592 ≤ src ∧ src < 640 then decide (1 ≤ fld s (entryKey 0x2102 (src - 592)) 4 3 ∧ fld s (entryKey 0x2102 (src - 592)) 4 3 ≤ 2)
  else (decide (640 ≤ src) && decide (src < 644)) || src == 256 || (decide (48 ≤ src) && decide (src ≤ 56)) ||
    (decide (src < 592) && (srcFlag src).isSome)

/-- The kind of a source; one that is neither presents a constant 0 and never becomes pending (R310). -/
def sourceKind (s : State) (src : Nat) : SourceKind :=
  if isEventSource s src then .event else if isFlagSource s src then .flag else .never

/-- The effect of an assertion on a source's state (R313): an edge is merged and counted when one is already pending; a level source is made
pending from idle while its signal is 1. -/
def icMove (s : State) (src : Nat) : State :=
  if routeEdge (regN s (routeKey src)) then
    match srcState s src with
    | .idle => setSrcState s src .pending
    | .pending => edgeMerged s
    | .inService => setSrcState s src .inServiceEdge
    | .inServiceEdge => edgeMerged s
  else
    match srcState s src with
    | .idle => if flagSignal s src then setSrcState s src .pending else s
    | _ => s

/-- An assertion of a source: noted in `raised`, and moved through the source states while the controller is on; while it is off the
always-on domain holds it (R322). -/
def icAssert (s : State) (src : Nat) : State :=
  if sourceLive s src then
    if domainOn s 8 then icMove { s with raised := s.raised ++ [src] } src
    else { s with raised := s.raised ++ [src], ic := { s.ic with heldEdges := s.ic.heldEdges ++ [src] } }
  else s

/-- Sets a flag bit; its source asserts when its signal rises from 0 to 1 (R310). -/
def setFlag (s : State) (k b : Nat) : State :=
  let t := setN s k (regN s k ||| 2 ^ b)
  match flagSource k b with
  | some src => if !(flagSignal s src) && flagSignal t src then icAssert t src else t
  | none => t

/-- Clears flag bits; a level source whose signal falls is no longer pending (R313). The record of the first event that a flag stands for, with its VALID
bit, stays until the flag rises again (R98; DESIGN CHOICE, log 113). -/
def clearFlags (s : State) (k m : Nat) : State :=
  let t := setN s k (maskClear (regN s k) m)
  ((setBits 32 m).filterMap (flagSource k)).foldl (fun u src => if flagSignal u src then u else icFall u src) t

/-! ### Reserved content: the counter and the flag of each block (R420, R99) -/

/-- The RSVD_WRITES counter of the block that holds an index. -/
def rsvdKey (idx : Nat) : Nat :=
  match engineOf idx with
  | none => entryKey 0x1200 0x13
  | some e =>
    if e = 0 then entryKey 0x203F 9 else if e = 1 then entryKey 0x2040 0x0E else if e = 2 then entryKey 0x2080 7
    else if e = 3 then entryKey 0x20C0 6 else if e = 4 then entryKey 0x2100 2 else if e = 5 then entryKey 0x2140 5
    else if e = 6 then entryKey 0x2182 0x0C else if e = 7 then entryKey 0x21C2 0x0D else if e = 8 then entryKey 0x2200 0x17
    else if e = 9 then entryKey 0x2242 0x0A else if e = 10 then entryKey 0x2282 0x0B
    else if e = 11 then (if 0x22F0 ≤ idx then entryKey 0x2502 0x0A else if 0x22C8 ≤ idx then entryKey 0x22C9 0x0C else entryKey 0x22C2 9)
    else if e = 12 then entryKey 0x2303 0x10 else if e = 13 then entryKey 0x2342 8
    else if e = 14 then (if 0x2384 ≤ idx then entryKey 0x2386 6 else entryKey 0x2382 3)
    else if e = 15 then entryKey 0x23C2 9 else if e = 16 then entryKey 0x2400 0x0D else if e = 17 then entryKey 0x2440 0x0E
    else if e = 18 then entryKey 0x2482 8
    else if e = 19 then entryKey 0x1200 0x13
    else if e ≤ 27 then entryKey (0x2502 + 64 * (e - 20)) 0x0A
    else if e ≤ 35 then entryKey (0x273F + 64 * (e - 28)) 9
    else entryKey 0x2900 0x0E

/-- The CFG_ERROR flag of the block that holds an index: its entry and bit. Each timer and DMA channel has its own (R359, R336). -/
def cfgFlag (idx : Nat) : Nat × Nat :=
  match engineOf idx with
  | none => (entryKey 0x1200 3, 0)
  | some e =>
    if e = 0 then (entryKey 0x203F 8, 0) else if e = 1 then (entryKey 0x2040 0x0B, 2) else if e = 2 then (entryKey 0x2080 2, 1)
    else if e = 3 then (if 0x20D0 ≤ idx then (entryKey idx 0x0B, 4) else (entryKey 0x20D0 0x0B, 4))
    else if e = 4 then (entryKey 0x2100 1, 0)
    else if e = 5 then (if 0x2150 ≤ idx then (entryKey idx 8, 3) else (entryKey 0x2150 8, 3))
    else if e = 6 then (entryKey 0x2182 2, 2) else if e = 7 then (entryKey 0x21C2 2, 5) else if e = 8 then (entryKey 0x2200 3, 4)
    else if e = 9 then (entryKey 0x2242 2, 2) else if e = 10 then (entryKey 0x2282 2, 4)
    else if e = 11 then (if 0x22F0 ≤ idx then (entryKey 0x2502 2, 2) else if 0x22C8 ≤ idx then (entryKey 0x22C9 2, 3)
      else (entryKey 0x22C2 2, 0))
    else if e = 12 then (entryKey 0x2303 2, 6) else if e = 13 then (entryKey 0x2342 2, 3)
    else if e = 14 then (if 0x2384 ≤ idx then (entryKey 0x2386 2, 3) else (entryKey 0x2382 2, 1))
    else if e = 15 then (entryKey 0x23C2 2, 3) else if e = 16 then (entryKey 0x2400 3, 5) else if e = 17 then (entryKey 0x2440 9, 3)
    else if e = 18 then (entryKey 0x2482 2, 4)
    else if e = 19 then (entryKey 0x1200 3, 0)
    else if e ≤ 27 then (entryKey (0x2502 + 64 * (e - 20)) 2, 2)
    else if e ≤ 35 then (entryKey (0x273F + 64 * (e - 28)) 8, 0)
    else (entryKey 0x2900 0x0C, 3)

/-- Whether the domain of a counter or flag is on: one of plane engine 0 can stand for a palette while that engine is off (R99, R425). -/
def keyPowered (s : State) (k : Nat) : Bool := domainOn s (entryDomain (k / 256) (k % 256))

/-- Sets CFG_ERROR of the block that holds an index. -/
def cfgError (s : State) (idx : Nat) : State := if keyPowered s (cfgFlag idx).1 then setFlag s (cfgFlag idx).1 (cfgFlag idx).2 else s

/-- Counts a write with nonzero reserved bits in the block that holds an index. -/
def rsvdWrite (s : State) (idx : Nat) : State := if keyPowered s (rsvdKey idx) then bump s (rsvdKey idx) else s

/-! ### The memory controller's flags (R39) -/

/-- A request that the memory controller answers with an error response (R39): one at or above EXT_MEM_SIZE is counted, flagged and recorded, one to an
untrained controller only counted. -/
def mcAddrError (s : State) (a : Nat) : State :=
  if !(engineOn s 18) then s
  else if !(extServes s) then bump s (entryKey 0x2482 6)
  else if extFitted s ≤ a then
    setFlag (setPair (bump s (entryKey 0x2482 6)) (entryKey 0x2482 4) (entryKey 0x2482 5) (a % 2 ^ 40)) (entryKey 0x2482 2) 2
  else s

/-- The same for a requester of the map of R327, whose addresses from 8 GiB on do not reach the controller. -/
def busAddrError (s : State) (a : Nat) : State := if a < 0x200000000 then mcAddrError s a else s

/-! ### The request tracker (R35, R36) -/

/-- The requesters of the memory controller: plane engine n is n, write-back 8, the blitter 9, audio voice fetch 10, the performance reader 11, DMA
channel n 16 + n, processor c 40 + c (8 the Warden). The network buffers of R417 and R424 lie in shared SRAM. -/
def reqWriteBack : Nat := 8
def reqBlitter : Nat := 9
def reqAudio : Nat := 10
def reqPerf : Nat := 11
def reqDma (n : Nat) : Nat := 16 + n
def reqCore (c : Nat) : Nat := 40 + c

/-- Whether two requesters share a partition: each plane engine, write-back and the blitter have their own, all others the DMA partition. -/
def samePartition (a b : Nat) : Bool := a == b || (decide (10 ≤ a) && decide (10 ≤ b))

/-- Entries of a requester's partition, and the most requests the requester itself may have outstanding (R35, R326). -/
def partitionSize (r : Nat) : Nat := if r < 8 then 48 else if r < 10 then 64 else 512
def requesterLimit (r : Nat) : Nat := if r < 16 then partitionSize r else if r < 40 then 32 else 1

/-- The outstanding requests of a requester, and those that the others of its partition hold. -/
def outstanding (s : State) (r : Nat) : Nat := mapGet (fun _ => 0) s.tracker r
def othersOutstanding (s : State) (r : Nat) : Nat := ((s.tracker.filter (fun e => samePartition e.1 r && !(e.1 == r))).map Prod.snd).sum

/-- A requester's outstanding requests change. -/
def setOutstanding (s : State) (r n : Nat) : State := { s with tracker := mapSet (fun _ => 0) s.tracker r n }

/-- A requester's requests are complete. -/
def requestsDone (s : State) (r : Nat) : State := setOutstanding s r 0

/-- Requests found their partition full: flag, counter, performance event (R36, R39). -/
def trackerFull (s : State) (n : Nat) : State :=
  if n = 0 then s else setFlag (perfEvent (addTo s (entryKey 0x2482 7) n) 18 0x22 n) (entryKey 0x2482 2) 3

/-- A requester has a set of `n` requests to make. It holds as many entries as its limit and its partition allow; of the requests that can find the
partition full, a free number does, since completion times are not modelled (DESIGN CHOICE, log 99). -/
def requestsIssue (s : State) (r n : Nat) : State :=
  if !(engineOn s 18) then s
  else
    let room := partitionSize r - othersOutstanding s r
    let want := min n (requesterLimit r)
    let s1 := setOutstanding s r (min want room)
    if want ≤ room ∧ (n ≤ room ∨ 16 ≤ r) then s1
    else
      let (f, s2) := drawFree s1
      trackerFull s2 (f % (n - room + 1))

/-- The 64-byte requests that `n` bytes at an address of the map of R327 take; addresses from 8 GiB on are not external memory. -/
def granules (a n : Nat) : Nat := if a < 0x200000000 ∧ 0 < n then (a + n - 1) / 64 - a / 64 + 1 else 0

/-- A requester makes `n` requests, its earlier ones being complete. -/
def requestsNext (s : State) (r n : Nat) : State := if n = 0 then requestsDone s r else requestsIssue s r n

/-- A requester makes `n` requests that complete within the same command. -/
def requestsPass (s : State) (r n : Nat) : State := if n = 0 then s else requestsDone (requestsIssue s r n) r

/-- Granules of 64 bytes read or written in external memory, for engine 18's performance events (R465). -/
def mcGranules (s : State) (write : Bool) (a n : Nat) : State :=
  if a < 0x200000000 then perfEvent s 18 (if write then 0x21 else 0x20) n else s

end Sys2Proof.Machine
end

