-- ==== Sys2Proof/Machine/Modes.lean ====
section
/-! DEFINITION. The mode table of the rasters and heads (R172), the composition mode and its times (R170, R177). -/
namespace Sys2Proof.Machine

/-- One mode: active size, totals, the pixel clock as `clkNum / clkDen` Hz, its pixel-clock class (A 0 to D 3), front porch and sync of a line and
of a frame, and whether H and V sync are active high. -/
structure ModeInfo where
  hAct : Nat
  vAct : Nat
  hTot : Nat
  vTot : Nat
  clkNum : Nat
  clkDen : Nat
  cls : Nat
  hFront : Nat
  hSync : Nat
  vFront : Nat
  vSync : Nat
  hPos : Bool
  vPos : Bool
  deriving DecidableEq, Repr

/-- The mode table (R172). -/
def modeTable : List ModeInfo := [
  ⟨640, 480, 800, 525, 25200000, 1, 0, 16, 96, 10, 2, false, false⟩,
  ⟨640, 480, 800, 525, 25200000 * 1000, 1001, 0, 16, 96, 10, 2, false, false⟩,
  ⟨800, 600, 1056, 628, 40000000, 1, 0, 40, 128, 1, 4, true, true⟩,
  ⟨1024, 768, 1344, 806, 65000000, 1, 1, 24, 136, 3, 6, false, false⟩,
  ⟨1280, 720, 1980, 750, 74250000, 1, 1, 440, 40, 5, 5, true, true⟩,
  ⟨1280, 720, 1650, 750, 74250000, 1, 1, 110, 40, 5, 5, true, true⟩,
  ⟨1280, 720, 1650, 750, 74250000 * 1000, 1001, 1, 110, 40, 5, 5, true, true⟩,
  ⟨1280, 1024, 1688, 1066, 108000000, 1, 1, 48, 112, 1, 3, true, true⟩,
  ⟨1366, 768, 1792, 798, 85500000, 1, 1, 70, 143, 3, 3, true, true⟩,
  ⟨1600, 900, 1800, 1000, 108000000, 1, 1, 24, 80, 1, 3, true, true⟩,
  ⟨1920, 1080, 2640, 1125, 148500000, 1, 2, 528, 44, 4, 5, true, true⟩,
  ⟨1920, 1080, 2200, 1125, 148500000, 1, 2, 88, 44, 4, 5, true, true⟩,
  ⟨1920, 1080, 2200, 1125, 148500000 * 1000, 1001, 2, 88, 44, 4, 5, true, true⟩,
  ⟨1920, 1200, 2080, 1235, 154000000, 1, 2, 48, 32, 3, 6, true, false⟩,
  ⟨2560, 1440, 2720, 1481, 241500000, 1, 2, 48, 32, 3, 5, true, false⟩,
  ⟨3840, 2160, 4400, 2250, 297000000, 1, 2, 176, 88, 8, 10, true, true⟩,
  ⟨3840, 2160, 4400, 2250, 297000000 * 1000, 1001, 2, 176, 88, 8, 10, true, true⟩,
  ⟨3840, 2160, 5280, 2250, 594000000, 1, 3, 1056, 88, 8, 10, true, true⟩,
  ⟨3840, 2160, 4400, 2250, 594000000, 1, 3, 176, 88, 8, 10, true, true⟩,
  ⟨3840, 2160, 4400, 2250, 594000000 * 1000, 1001, 3, 176, 88, 8, 10, true, true⟩]

/-- Back porch of a line and of a frame (R172). -/
def hBack (m : ModeInfo) : Nat := m.hTot - m.hAct - m.hFront - m.hSync
def vBack (m : ModeInfo) : Nat := m.vTot - m.vAct - m.vFront - m.vSync

/-- The levels of H and V sync at a pixel clock of a line, in the mode's polarity (R170, R172): blanking begins with the front porch. -/
def syncLevels (m : ModeInfo) (line pixel : Nat) : Bool × Bool :=
  let h := decide (m.hAct + m.hFront ≤ pixel) && decide (pixel < m.hAct + m.hFront + m.hSync)
  let v := decide (m.vAct + m.vFront ≤ line) && decide (line < m.vAct + m.vFront + m.vSync)
  (h == m.hPos, v == m.vPos)

/-- A mode by number; numbers the table lacks are reserved and never become current. -/
def modeInfo (m : Nat) : ModeInfo := (modeTable[m]?).getD ⟨1920, 1080, 2200, 1125, 148500000, 1, 2, 88, 44, 4, 5, true, true⟩

/-- RASTER_MODE_CUR (R195). -/
def kModeCur : Nat := entryKey 0x22C9 8

/-- Fields of a mode word: P_MODE, P_EN, S_MODE, S_EN. -/
def modeP (w : Nat) : Nat := bits w 0 5
def modePEn (w : Nat) : Bool := bitAt w 7
def modeS (w : Nat) : Nat := bits w 8 5
def modeSEn (w : Nat) : Bool := bitAt w 15

/-- The composition mode of a mode word: Head P's while it is enabled, Head S's otherwise (R170, R177). -/
def compModeOf (w : Nat) : ModeInfo := modeInfo (if modePEn w then modeP w else modeS w)

/-- The current composition mode and size. -/
def compMode (s : State) : ModeInfo := compModeOf (regN s kModeCur)
def compW (s : State) : Nat := (compMode s).hAct
def compH (s : State) : Nat := (compMode s).vAct
def headPOn (s : State) : Bool := modePEn (regN s kModeCur)
def headSOn (s : State) : Bool := modeSEn (regN s kModeCur)

/-- The frame period in ns as a fraction: T_frame = H_total × V_total / f_pix, with no rounding (R170). -/
def frameNsNum (m : ModeInfo) : Nat := m.hTot * m.vTot * m.clkDen * 1000000000
def frameNsDen (m : ModeInfo) : Nat := m.clkNum

/-- floor(n × T_frame) in ns. -/
def framesNs (m : ModeInfo) (n : Nat) : Nat := n * frameNsNum m / frameNsDen m

/-- The line period in ns as a fraction. -/
def lineNsNum (m : ModeInfo) : Nat := m.hTot * m.clkDen * 1000000000

/-- The line period in whole ns, rounded down, and in 600 MHz engine clocks, rounded down (R91). -/
def lineNs (m : ModeInfo) : Nat := lineNsNum m / m.clkNum
def lineClocks (m : ModeInfo) : Nat := m.hTot * m.clkDen * 600000000 / m.clkNum

/-- Head P link payload per lane in MB/s by rate (R174). -/
def lanePayload (rate : Nat) : Nat := if rate = 0 then 162 else if rate = 1 then 270 else if rate = 2 then 540 else 810

/-- Whether a link carries a mode at a depth (R174): lanes × payload ≥ 1.25 × f_pix × (3 × d / 8). -/
def linkCarries (lanes rate depth : Nat) (m : ModeInfo) : Bool :=
  decide (5 * m.clkNum * 3 * depth ≤ lanes * lanePayload rate * 1000000 * m.clkDen * 32)

/-- The reduced mode set of Head P on a variant (R173). -/
def headPModes (v : Variant) : Nat := if v = .yl6430 then 14 else 20

end Sys2Proof.Machine
end

