-- ==== Sys2Proof/Machine/DictCheck.lean ====
section
/-! DEFINITION. Reserved content of a dictionary write (R420, R99, R25): which bits of the written word are reserved, and which fields hold
reserved values, for every entry of the dictionary. -/
namespace Sys2Proof.Machine

/-- Width of an entry type in bits. -/
def typeBits : EntryType → Nat
  | .u8 => 8
  | .u16 => 16
  | .i16 => 16
  | .bool => 1
  | _ => 32

/-- Whether a written word does not fit the entry's type (R25). -/
def typeExcess (t : EntryType) (v : Nat) : Bool :=
  match t with
  | .i16 => !(bits v 15 17 == 0 || bits v 15 17 == 2 ^ 17 - 1)
  | t => decide (2 ^ typeBits t ≤ v)

/-- The value of an entry extended by its type (R25). -/
def extendType (t : EntryType) (v : Nat) : Nat :=
  match t with
  | .i16 => ofSigned 32 (toSigned 16 v)
  | t => v % 2 ^ typeBits t

/-- The writable bits of an entry; the region entries of the verifier differ by subindex (R199, R200). -/
def rowMask (r : DictRow) (sub : Nat) : Nat :=
  if r.check = .rgn then (if sub % 4 = 2 then 0xFF03 else 0x1FFF1FFF) else r.mask

/-- The field that a range of a row constrains, as a mask. -/
def fieldMask (lo w : Nat) : Nat := (2 ^ w - 1) * 2 ^ lo

/-- Functions of a pin beside GPIO (R486): GP00 to GP08 have FUNC 1. -/
def pinFuncs (k : Nat) : Nat := if k ≤ 8 then 1 else 0

/-- The last event code an engine defines beyond 0x20, plus one (R465). -/
def perfCodes (e : Nat) : Nat :=
  if e = 0 ∨ (28 ≤ e ∧ e ≤ 35) then 8 else if e = 8 then 5 else if e = 7 ∨ e = 12 then 4 else if 20 ≤ e ∧ e ≤ 27 then 6
  else if e = 13 ∨ e = 14 ∨ e = 15 ∨ e = 17 ∨ e = 36 then 2 else 3

/-- Whether an engine defines an event code (R464, R465). -/
def perfCodeOk (e c : Nat) : Bool := decide (c ≤ 2) || (decide (0x10 ≤ c) && decide (c < 0x20)) || (decide (0x20 ≤ c) && decide (c < 0x20 + perfCodes e))

/-- A reserved processor number: above 8, or an absent application core (R4). -/
def badProc (v : Variant) (p : Nat) : Bool := !(decide (p ≤ 8) && procPresent v p)

/-- Whether the LINKS setting of Head S serves a mode (R176): a link clock from 10 to 112 MHz. -/
def linksOk (links : Bool) (m : ModeInfo) : Bool :=
  let d := if links then 2 else 1
  decide (10000000 * m.clkDen * d ≤ m.clkNum) && decide (m.clkNum ≤ 112000000 * m.clkDen * d)

/-- The reserved fields of a written word, as masks of the fields to leave unchanged. `v` is the word after reserved bits are cleared. -/
def namedReserved (s : State) (c : Check) (idx sub v : Nat) : List Nat :=
  let all := 0xFFFFFFFF
  let vr := s.variant
  match c with
  | .none => []
  | .pollRange => if bits v 16 12 < bits v 0 12 then [fieldMask 16 12] else []
  | .appRange =>
    (if bits v 12 12 < bits v 0 12 then [fieldMask 12 12] else []) ++ (if badProc vr (bits v 24 4) then [fieldMask 24 4] else [])
  | .route =>
    let src := (idx - 0x2084) * 256 + sub
    (if badProc vr (bits v 0 4) then [fieldMask 0 4] else []) ++
    (if bits v 4 7 < 16 ∨ 79 < bits v 4 7 then [fieldMask 4 7] else []) ++
    (if bitAt v 24 = false ∧ src < 768 ∧ isEventSource s src then [fieldMask 24 1] else [])
  | .stagger => if bits v 8 6 = 0 ∨ 32 < bits v 8 6 ∨ 32 < bits v 0 5 + bits v 8 6 then [all] else []
  | .tmCtrl =>
    let at_ := decide (0x20F0 ≤ idx)
    let first := idx == 0x20D0 || idx == 0x20F0
    (if 1 < bits v 2 2 ∨ (first ∧ bits v 2 2 = 1) then [fieldMask 2 2] else []) ++
    (if 4 < bits v 11 3 ∨ (at_ ∧ bits v 11 3 ≠ 0) then [fieldMask 11 3] else []) ++
    (if at_ ∧ bitAt v 1 then [fieldMask 1 1] else []) ++
    (if bitAt v 6 ∧ (at_ ∨ bits v 2 2 = 1) then [fieldMask 6 1] else [])
  | .tmCount => if regN s (entryKey idx 0x0C) < v then [all] else []
  | .patGrant =>
    (List.range 4).filterMap (fun u =>
      let p := bits v (4 * u) 4
      if p = 15 ∨ !(badProc vr p) then none else some (fieldMask (4 * u) 4))
  | .pinMux =>
    (if pinFuncs sub < bits v 0 3 then [fieldMask 0 3] else []) ++ (if badProc vr (bits v 3 4) then [fieldMask 3 4] else [])
  | .syncInt => if toSigned 16 v < -5 ∨ 0 < toSigned 16 v then [all] else []
  | .prioOrder =>
    (if (List.range 8).all (fun n => (List.range 8).any (fun k => bits v (3 * k) 3 == n)) then [] else [fieldMask 0 24]) ++
    (if 8 < bits v 24 4 then [fieldMask 24 4] else [])
  | .modeReq =>
    if headPModes vr ≤ modeP v ∨ 13 < modeS v ∨
      (bitAt v 31 ∧ modeSEn v ∧ !(linksOk (flag s (entryKey 0x2380 1) 0) (modeInfo (modeS v)))) then [all] else []
  | .staggerN => if bits v 0 12 < bits v 16 12 then [fieldMask 16 12] else []
  | .blink =>
    let period := if bits v 0 8 < 2 then fld s (entryKey idx sub) 0 8 else bits v 0 8
    (if bits v 0 8 < 2 then [fieldMask 0 8] else []) ++
    (if bits v 8 8 = 0 ∨ period ≤ bits v 8 8 then [fieldMask 8 8] else []) ++
    (if period ≤ bits v 16 8 then [fieldMask 16 8] else [])
  | .bmpSrc => if vr = .yl6430 ∧ bitAt v 2 then [fieldMask 2 1] else []
  | .rgn => []
  | .coef => if toSigned 16 v < -512 ∨ 511 < toSigned 16 v then [all] else []
  | .loopStart => if regN s (entryKey 0x2404 sub) ≤ v then [all] else []
  | .srcRoute => if 7 < v ∧ v ≠ 15 then [all] else []
  | .ringRd => if regN s (entryKey 0x2440 5) ≤ v then [all] else []
  | .recCmd =>
    (if enginePresent vr (bits v 0 6) then [] else [fieldMask 0 6]) ++ (if 1 ≤ bits v 8 3 ∧ bits v 8 3 ≤ 4 then [] else [fieldMask 8 3])
  | .perfSel => if perfCodeOk (sub / 4) (bits v 0 8) then [] else [fieldMask 0 8]

/-- PIN_CFG.DET 3 to 5 beside a level routing entry is a reserved combination (R365). -/
def detReserved (s : State) (idx sub v : Nat) : List Nat :=
  if idx = 0x2102 ∧ 3 ≤ bits v 4 3 ∧ routeEdge (regN s (routeKey (592 + sub))) = false then [fieldMask 4 3] else []

/-- The outcome of checking a written word: the accepted bits and their values, whether it had reserved bits, whether a reserved value. -/
structure Checked where
  mask : Nat
  value : Nat
  rsvd : Bool
  cfg : Bool
  deriving DecidableEq, Repr

/-- The checks of R420 and R25 on a word written to an entry. -/
def checkWrite (s : State) (r : DictRow) (idx sub : Nat) (w : Nat) : Checked :=
  let m := maskAnd (rowMask r sub) (2 ^ typeBits r.typ - 1)
  let v := maskAnd w m
  let rsvd := typeExcess r.typ w || !(maskAnd (maskClear w m) (2 ^ typeBits r.typ - 1) == 0)
  let ranges := r.ranges.filterMap (fun (lo, n, a, b) => if a ≤ bits v lo n ∧ bits v lo n ≤ b then none else some (fieldMask lo n))
  let bad := ranges ++ namedReserved s r.check idx sub v ++ detReserved s idx sub v
  let badMask := bad.foldl (· ||| ·) 0
  { mask := maskClear m badMask, value := maskClear v badMask, rsvd := rsvd, cfg := !bad.isEmpty }

/-- An entry's word after the accepted bits replace the old ones. -/
def applyChecked (c : Checked) (old : Nat) : Nat := maskClear old c.mask ||| c.value

end Sys2Proof.Machine
end

