-- ==== Sys2Proof/Machine/CoreState.lean ====
section
/-! DEFINITION. The processors as state: reading and replacing a core, its reset, the controller's nesting nests (R315, R321). -/
namespace Sys2Proof.Machine

/-- A processor: 0 to 7 application cores, 8 the Warden, 9 the legal core. -/
def coreOf (s : State) (c : Nat) : Core := mapGet (fun _ => {}) s.cores c

/-- Replaces a processor. -/
def setCore (s : State) (c : Nat) (x : Core) : State := { s with cores := mapSet (fun _ => {}) s.cores c x }

/-- The engine number of a processor's entries (R284): 28 to 35, the Warden 0. -/
def coreEngine (c : Nat) : Nat := if c = 8 then 0 else 28 + c

/-- The entry `sub` of a processor's block (R284). -/
def coreKey (c sub : Nat) : Nat := if c = 8 then entryKey 0x203F sub else entryKey (0x273F + 64 * c) sub

/-- The nesting stack of a processor, top first (R315). -/
def stackOf (s : State) (p : Nat) : List (Nat × Nat) := mapGet (fun _ => []) s.ic.nests p
def setStack (s : State) (p : Nat) (l : List (Nat × Nat)) : State :=
  { s with ic := { s.ic with nests := mapSet (fun _ => []) s.ic.nests p l } }

/-- The threshold of a processor (R317). -/
def thrOf (s : State) (p : Nat) : Nat := mapGet (fun _ => 0) s.ic.thr p
def setThr (s : State) (p t : Nat) : State := { s with ic := { s.ic with thr := mapSet (fun _ => 0) s.ic.thr p t } }

/-- The signal that a source presents to the controller, between the pulses of an event source (R310, R44). -/
def icSignal (s : State) (src : Nat) : Bool := sourceLive s src && flagSignal s src

/-- A level source follows its signal (R313): pending while it is 1 and idle when it falls, unless it is in service. -/
def icRelevel (s : State) (src : Nat) : State :=
  if routeEdge (regN s (routeKey src)) then s
  else if icSignal s src then (if srcState s src = .idle then setSrcState s src .pending else s)
  else if srcState s src = .pending then setSrcState s src .idle else s

/-- Every source that can be level follows its signal: the first controller clock after the source states were reset or restored (R321, R322). -/
def icRelevelAll (s : State) : State := (List.range 644).foldl icRelevel s

/-- A source leaves IN_SERVICE (R313, R321): a level source is pending again while its signal is 1, an edge source when it held an edge. -/
def leaveService (s : State) (src : Nat) : State :=
  if routeEdge (regN s (routeKey src)) then
    match srcState s src with
    | .inServiceEdge => setSrcState s src .pending
    | .inService => setSrcState s src .idle
    | _ => s
  else if flagSignal s src && sourceLive s src then setSrcState s src .pending else setSrcState s src .idle

/-- A processor's stack is emptied, its threshold returns to 0 (R321), and no delivery window of R320 outlives its reset. -/
def resetStack (s : State) (p : Nat) : State :=
  let l := stackOf s p
  let s1 := setThr (l.foldl (fun t e => leaveService t e.1) (setStack s p [])) p 0
  { s1 with ic := { s1.ic with late := s1.ic.late.filter (fun w => !(w.proc == p)) } }

/-- A processor after reset with its local RAM kept: held in reset (run 0), or released at pc 0 (run 1) (R225, R435). -/
def freshCore (old : Core) (run : Nat) : Core := { run := run, iram := old.iram, dram := old.dram }

/-- A processor that is reset or loses power is no longer held by a debugger. -/
def unhalt (s : State) (c : Nat) : State :=
  if s.sec.halted.isEmpty then s else { s with sec := { s.sec with halted := s.sec.halted.filter (fun k => !(k == c)) } }

/-- Core clocks of 800 MHz since the interconnect left reset (R28), by the 600 MHz engine clock of idle steps (DEDUCED, log 77). -/
def icnClocks (s : State) : Nat := (s.clk - s.icnStart) * 4 / 3

/-- A processor leaves reset: it issues from now on, and its clock is placed in the interconnect's rotation (R28, R435). -/
def releaseCore (s : State) (c : Nat) : State := setCore s c { coreOf s c with run := 1, rot := icnClocks s }

/-- Resets a processor (R263 to R283, R290, R292, R321); the legal core's stack, of partition slots, is only emptied (R223). -/
def resetCore (s : State) (c run : Nat) : State :=
  let s1 := setCore (unhalt s c) c { freshCore (coreOf s c) run with rot := icnClocks s }
  if c = 9 then setThr (setStack s1 9 []) 9 0 else resetStack s1 c

/-- Fitted sizes of a processor's local RAM (R21, R217). -/
def iramSize (c : Nat) : Nat := if c = 8 then 32768 else if c = 9 then 131072 else 65536
def dramSize (c : Nat) : Nat := if c = 8 then 16384 else 65536

/-- Address of a processor's data RAM (R21, R221). -/
def dramBase (c : Nat) : Nat := if c = 9 then 0x20000 else 0x10000

/-- Loads bytes into a processor's instruction RAM. -/
def loadIram (s : State) (c a : Nat) (b : List Byte) : State :=
  let x := coreOf s c
  setCore s c { x with iram := writeBytes (iramSize c) x.iram a b }

/-- Loads bytes into a processor's data RAM. -/
def loadDram (s : State) (c a : Nat) (b : List Byte) : State :=
  let x := coreOf s c
  setCore s c { x with dram := writeBytes (dramSize c) x.dram a b }

/-- Halts a processor for a debugger or a lockup (R304, R454). -/
def haltCore (s : State) (c : Nat) : State := setCore s c { coreOf s c with run := 3 }

end Sys2Proof.Machine
end

