-- ==== Sys2Proof/Machine/Ic.lean ====
section
/-! DEFINITION. The interrupt controller's operations (12): presentation and entry, completion, doorbells, routing and mask writes, and the entries
that are computed from the controller's state when they are read. -/
namespace Sys2Proof.Machine

/-- Replaces the controller's state. -/
def setIc (s : State) (c : Ic) : State := { s with ic := c }

/-- What SOURCE_ASSERT brings to the controller (R310, R313): the pulse of an event source is an assertion; a flag source presents its flag, which a
level source follows and whose 0-to-1 transition `setFlag` has already given an edge source; a source that never asserts presents a constant 0. -/
def sourcePresents (s : State) (src : Nat) : State :=
  match sourceKind s src with
  | .event => icAssert s src
  | .flag => if domainOn s 8 then icRelevel s src else s
  | .never => s

/-! ### Presentation and entry (R314, R315, R320) -/

/-- A synchronised mask write that waits makes the source undeliverable to the processor (R320). -/
def maskWaits (s : State) (src p : Nat) : Bool := s.ic.waiting.any (fun w => w.source == src && w.proc == p)

/-- A pending source routed to processor p, enabled and not masked. -/
def deliverable (s : State) (p src : Nat) : Bool :=
  let r := regN s (routeKey src)
  srcState s src == .pending && routeProc r == p && !(routePrio r == 0) && !(maskWaits s src p)

/-- The better of a candidate and a later-numbered source: the higher priority, else the earlier number (R314). -/
def icBetter (s : State) (best : Option Nat) (src : Nat) : Option Nat :=
  match best with
  | none => some src
  | some b => if routePrio (regN s (routeKey b)) < routePrio (regN s (routeKey src)) then some src else some b

/-- The source presented to processor p (R314, R315): none while its stack is full or the controller does not run. -/
def icPresented (s : State) (p : Nat) : Option Nat :=
  if !(domainOn s 8) || engineOffline s 2 || decide (31 ≤ (stackOf s p).length) then none
  else ((s.ic.src.map Prod.fst).filter (deliverable s p)).foldl (icBetter s) none

/-- Processor p enters a source with a priority: it is in service and on the stack, which may now be full (R315). -/
def icPush (s : State) (p src prio : Nat) : State :=
  let s1 := perfEvent (setStack (setSrcState s src .inService) p ((src, prio) :: stackOf s p)) 2 0x20 1
  if 31 ≤ (stackOf s1 p).length then setFlag s1 (entryKey 0x2080 2) 2 else s1

/-- Processor p enters the source presented to it. -/
def icEnter (s : State) (p src : Nat) : State := icPush s p src (routePrio (regN s (routeKey src)))

/-- The delivery window that an unsynchronised mask write left open to processor p, while the source is still pending (R320). -/
def lateWindow (s : State) (p : Nat) : Option LateWindow :=
  if 31 ≤ (stackOf s p).length then none
  else s.ic.late.find? (fun w => w.proc == p && decide ((coreOf s p).cyc ≤ w.until_) && srcState s w.source == .pending)

/-- Processor p enters through such a window, once: counted and flagged (R320). -/
def icEnterLate (s : State) (p : Nat) (w : LateWindow) : State :=
  let s1 := setIc s { s.ic with late := s.ic.late.filter (fun x => !(x == w)) }
  let s2 := icPush s1 p w.source w.prio
  setFlag (perfEvent (bump s2 (entryKey 0x2080 5)) 2 0x22 1) (entryKey 0x2080 2) 3

/-! ### Completion and doorbells (R318, R310) -/

/-- An out-of-order completion that NEST_CHECK 0 lets pass. -/
def orderError (s : State) : State := setFlag (bump s (entryKey 0x2080 4)) (entryKey 0x2080 2) 0

/-- IC_PROC_CFG.NEST_CHECK and MASK_SYNC of a processor (R324). -/
def nestCheck (s : State) (p : Nat) : Bool := flag s (entryKey 0x2081 p) 0
def maskSync (s : State) (p : Nat) : Bool := flag s (entryKey 0x2081 p) 1

/-- A write of a source to irq.complete (R318); no state is the fault IC_ORDER. -/
def irqComplete (s : State) (p src : Nat) : Option State :=
  match stackOf s p with
  | [] => if nestCheck s p then none else some (orderError s)
  | (t, _) :: rest =>
    if t = src then some (leaveService (setStack s p rest) t)
    else if nestCheck s p then none
    else some (orderError (leaveService (setStack s p rest) t))

/-- irq.claim of processor p, with VALID in bit 16 (R316); the caller answers 0 while ctl.ctx.FAULT is 1. -/
def irqClaim (s : State) (p : Nat) : Nat := match stackOf s p with
  | [] => 0
  | (t, _) :: _ => t % 1024 + 65536

/-- Rings a doorbell: one assertion of source 768 + n (R310). -/
def ringDoorbell (s : State) (n : Nat) : State := icAssert s (768 + n % 256)

/-! ### Routing and masking (R311, R312, R320) -/

/-- An accepted routing write. -/
def routeApply (s : State) (src v : Nat) : State := icRelevel (setN s (routeKey src) v) src

/-- A mask write: one that disables a source or moves it to another processor (R312). -/
def isMaskWrite (old v : Nat) : Bool := (!(routePrio old == 0) && routePrio v == 0) || !(routeProc v == routeProc old)

/-- A routing write reaches the controller (R312, R320). A synchronised mask write waits for its acceptance; an unsynchronised one of a pending
source leaves a window of six clocks. TRIG of a doorbell stays 1 (R310). -/
def routeWritten (s : State) (src w : Nat) : State :=
  let v := if 768 ≤ src then putBits w 24 1 1 else w
  let old := regN s (routeKey src)
  let p := routeProc old
  if isMaskWrite old v && maskSync s p then setIc s { s.ic with waiting := s.ic.waiting ++ [⟨src, p, v⟩] }
  else
    let s1 := if isMaskWrite old v && (icPresented s p == some src) then
        setIc s { s.ic with late := s.ic.late ++ [⟨src, p, routePrio old, routeSlot old, (coreOf s p).cyc + 6⟩] }
      else s
    routeApply s1 src v

/-- Six controller clocks have passed: the oldest waiting mask write is accepted (R320). -/
def maskAccept (s : State) : State := match s.ic.waiting with
  | [] => s
  | w :: rest => routeApply (setIc s { s.ic with waiting := rest }) w.source w.value

/-- A processor's IC_PENDING write to word w clears pending edges (R313). -/
def pendingClear (s : State) (w v : Nat) : State :=
  (setBits 32 v).foldl (fun t b =>
    let src := 32 * w + b
    if !(sourceRouted src) || !(routeEdge (regN t (routeKey src))) then t
    else match srcState t src with
      | .pending => setSrcState t src .idle
      | .inServiceEdge => setSrcState t src .inService
      | _ => t) s

/-- A word of 2088 to 208A: the sources 32w + b of which a predicate holds; reserved sources read 0. -/
def icWord (w : Nat) (p : Nat → Bool) : Nat :=
  (List.range 32).foldl (fun a b => if sourceRouted (32 * w + b) && p (32 * w + b) then a + 2 ^ b else a) 0

/-- IC_PENDING, IC_IN_SERVICE and IC_ASSERTED (R323). -/
def icPendingWord (s : State) (w : Nat) : Nat := icWord w (fun src => srcState s src == .pending || srcState s src == .inServiceEdge)
def icServiceWord (s : State) (w : Nat) : Nat := icWord w (fun src => srcState s src == .inService || srcState s src == .inServiceEdge)
def icAssertedWord (s : State) (w : Nat) : Nat := icWord w (icSignal s)

/-- IC_PROC_STATUS of a processor (R324). -/
def procStatus (s : State) (p : Nat) : Nat :=
  let l := stackOf s p
  let top := l.headD (0, 0)
  thrOf s p + 32 * l.length + 1024 * top.1 + 2 ^ 20 * top.2 + (if l.isEmpty then 0 else 2 ^ 25) +
    (if (icPresented s p).isSome then 2 ^ 26 else 0)

end Sys2Proof.Machine
end

