-- ==== Sys2Proof/Machine/Dma.lean ====
section
/-! DEFINITION. The 40-bit address map of the engines (13) and the DMA engine, engine 5: channels, descriptors, parking, errors. -/
namespace Sys2Proof.Machine

/-! ### The address map of R327 -/

/-- The memory behind a 40-bit address: 0 external, 1 shared SRAM, 2 VSRAM, with the offset there; none answers with an error. -/
def busTarget (s : State) (a n : Nat) : Option (Nat × Nat) :=
  if a + n ≤ 0x200000000 then (if extOk s a n then some (0, a) else none)
  else if 0x8010000000 ≤ a ∧ a + n ≤ 0x8010400000 then some (1, a - 0x8010000000)
  else if 0x8020000000 ≤ a ∧ a + n ≤ 0x8020800000 ∧ domainOn s 14 then some (2, a - 0x8020000000)
  else none

/-- Reads bytes at a 40-bit address. -/
def busRead (s : State) (a n : Nat) : Option (List Byte) :=
  (busTarget s a n).map (fun t =>
    if t.1 = 0 then extRead s t.2 n
    else if t.1 = 1 then readBytes sramSize s.mem.sram t.2 n
    else readBytes vsramSize s.mem.vsram t.2 n)

/-- Writes bytes at a 40-bit address. -/
def busWrite (s : State) (a : Nat) (b : List Byte) : Option State :=
  (busTarget s a b.length).map (fun t =>
    if t.1 = 0 then extWrite s t.2 b else if t.1 = 1 then sramWrite s t.2 b else vsramWrite s t.2 b)

/-! ### Channels -/

/-- An entry of channel n (R336). -/
def chKey (n sub : Nat) : Nat := entryKey (0x2150 + n) sub

/-- A channel's working state. -/
def dmaChan (s : State) (n : Nat) : DmaChan := mapGet (fun _ => {}) s.dma n
def setDmaChan (s : State) (n : Nat) (c : DmaChan) : State := { s with dma := mapSet (fun _ => {}) s.dma n c }

/-- CH_STATUS.STATE: 0 IDLE, 1 RUNNING, 2 PARKED, 3 HALTED. -/
def chState (s : State) (n : Nat) : Nat := fld s (chKey n 7) 0 2

/-- Moves a channel to a state; DMA_ACTIVE follows. -/
def setChState (s : State) (n st : Nat) : State :=
  setFld (setFld s (chKey n 7) 0 2 st) (entryKey 0x2140 2) n 1 (if st = 1 then 1 else 0)

/-- CH_STATUS.BELL. -/
def chBell (s : State) (n : Nat) : Bool := flag s (chKey n 7) 2
def setBell (s : State) (n : Nat) (b : Bool) : State := setFld s (chKey n 7) 2 1 (if b then 1 else 0)

/-- The address of the current descriptor, and a descriptor word latched from it. -/
def chCur (s : State) (n : Nat) : Nat := pairN s (chKey n 9) (chKey n 0x0A)
def chWord (s : State) (n i : Nat) : Nat := match (dmaChan s n).words[i]? with
  | some w => w
  | none => 0

/-- Fields of the current descriptor (R328). -/
def descAddr (s : State) (n : Nat) : Nat := chWord s n 0 + bits (chWord s n 1) 0 8 * 2 ^ 32
def descLen (s : State) (n : Nat) : Nat := bits (chWord s n 1) 8 24
def descLink (s : State) (n : Nat) : Nat := bits (chWord s n 3) 4 28 * 16 + bits (chWord s n 2) 0 8 * 2 ^ 32
def descEnd (s : State) (n : Nat) : Bool := bitAt (chWord s n 3) 0
def descIrq (s : State) (n : Nat) : Bool := bitAt (chWord s n 3) 1

/-- Source and destination of the current descriptor (R329). -/
def descSrc (s : State) (n : Nat) : Nat := if bitAt (dmaChan s n).cfg 0 then (dmaChan s n).peer else descAddr s n
def descDst (s : State) (n : Nat) : Nat := if bitAt (dmaChan s n).cfg 0 then descAddr s n else (dmaChan s n).peer

/-- A channel halts with a cause (R334); the causes of R330 and R335 set ERROR and count. -/
def chHalt (s : State) (n cause : Nat) (error : Bool) : State :=
  let s0 := requestsDone (setDmaChan s n { dmaChan s n with phase := .none, halting := false, tries := 0 }) (reqDma n)
  let s1 := setFld (setChState s0 n 3) (chKey n 7) 4 4 cause
  if error then setFlag (bump s1 (entryKey 0x2140 4)) (chKey n 8) 1 else s1

/-- The requests of what remains of a descriptor, reads and writes; a channel has at most 32 outstanding (R326, R331). -/
def dmaRequests (s : State) (n : Nat) : State :=
  let m := (dmaChan s n).moved
  requestsNext s (reqDma n) (min 32 (granules (descSrc s n + m) (descLen s n - m) + granules (descDst s n + m) (descLen s n - m)))

/-- The channel issues a descriptor read at an address: BELL clears (R332). -/
def chRead (s : State) (n addr : Nat) (again : Bool) : State :=
  let s1 := requestsNext (setChState (setBell s n false) n 1) (reqDma n) (granules addr 16)
  let s2 := setDmaChan s1 n { dmaChan s1 n with phase := if again then .reRead else .desc, tries := 0 }
  if again then s2 else setN (setPair s2 (chKey n 9) (chKey n 0x0A) addr) (chKey n 0x0B) 0

/-- START (R334): `busy` says that the command was ignored because the channel runs. -/
def dmaStart (s : State) (n addr : Nat) (cop : Bool) : State :=
  if !(engineOn s 5) then s
  else if chState s n = 1 then (if cop then s else setFlag s (chKey n 8) 3)
  else
    let peer := bits (regN s (chKey n 2)) 3 29 * 8 + fld s (chKey n 3) 0 8 * 2 ^ 32
    let s1 := setDmaChan s n { phase := .none, cfg := fld s (chKey n 1) 0 2, peer0 := peer, peer := peer }
    let s2 := setPair (setN (setN s1 (chKey n 7) 0) (chKey n 0x0B) 0) (chKey n 0x0C) (chKey n 0x0D) peer
    if addr % 16 = 0 then chRead s2 n addr false
    else chHalt (setPair s2 (chKey n 9) (chKey n 0x0A) addr) n 2 false

/-- The descriptor address of a start through CH_CMD. -/
def chDesc (s : State) (n : Nat) : Nat := bits (regN s (chKey n 4)) 4 28 * 16 + fld s (chKey n 5) 0 8 * 2 ^ 32

/-- BELL (R332, R334): sets the latch of a running channel, wakes a parked one. -/
def dmaBell (s : State) (n : Nat) : State :=
  if !(engineOn s 5) then s
  else if chState s n = 1 then setBell s n true
  else if chState s n = 2 then chRead s n (chCur s n) true
  else s

/-- HALT (R334). -/
def dmaHalt (s : State) (n : Nat) : State :=
  if !(engineOn s 5) then s
  else if chState s n = 1 then setDmaChan s n { dmaChan s n with halting := true }
  else if chState s n = 2 then setFlag (chHalt s n 1 false) (chKey n 8) 2
  else s

/-- A halting channel's outstanding requests are complete (R334). -/
def dmaHaltDone (s : State) (n : Nat) : State :=
  if engineOn s 5 && chState s n == 1 && (dmaChan s n).halting then setFlag (chHalt s n 1 false) (chKey n 8) 2 else s

/-- After a data error, each byte of the descriptor from the failing access on may or may not have been written (R335): a free value says which (DESIGN CHOICE,
log 18). -/
def dmaBeyond (s : State) (n : Nat) : State :=
  let c := dmaChan s n
  if !(c.phase == .data) then s
  else
    let (f, s1) := drawFree s
    (List.range (descLen s n - c.moved)).foldl (fun t j =>
      if bitAt f j then (match busRead s (descSrc s n + c.moved + j) 1 with
        | some b => (busWrite t (descDst s n + c.moved + j) b).getD t
        | none => t)
      else t) s1

/-- An access receives an error response: reissued while retries remain, then the channel halts (R335). -/
def dmaAccessError (s : State) (n addr : Nat) : State :=
  let s := busAddrError s addr
  let c := dmaChan s n
  if c.tries < fld s (entryKey 0x2140 1) 0 3 then
    perfEvent (bump (setDmaChan s n { c with tries := c.tries + 1 }) (entryKey 0x2140 3)) 5 0x22 1
  else chHalt (setPair (dmaBeyond s n) (chKey n 0x0E) (chKey n 0x0F) addr) n 4 true

/-- At an end descriptor: re-read at once while BELL is 1, else PARKED (R332). -/
def chPark (s : State) (n : Nat) : State := if chBell s n then chRead s n (chCur s n) true else setChState (requestsDone s (reqDma n)) n 2

/-- Whether two ranges of `len` bytes overlap. -/
def rangesOverlap (a b len : Nat) : Bool := decide (0 < len) && decide (a < b + len) && decide (b < a + len)

/-- The check of R330: the cause of the first failing check, 0 when it passes. -/
def descCheck (s : State) (n : Nat) : Nat :=
  if !(bits (chWord s n 2) 8 24 == 0) || !(bits (chWord s n 3) 2 2 == 0) then 3
  else if !(descAddr s n % 8 == 0) || !(descLen s n % 8 == 0) || !((dmaChan s n).peer % 8 == 0) then 2
  else if rangesOverlap (descSrc s n) (descDst s n) (descLen s n) then 5
  else 0

/-- A descriptor read returns (R330, R332). -/
def descReadDone (s : State) (n : Nat) : State :=
  let c := dmaChan s n
  if !(engineOn s 5) || !(chState s n == 1) || c.halting || !(c.phase == .desc || c.phase == .reRead) then s
  else match busRead s (chCur s n) 16 with
    | none => dmaAccessError s n (chCur s n)
    | some b =>
      let w := (List.range 4).map (fun i => ofBytes ((b.drop (4 * i)).take 4))
      if c.phase = .desc then
        let s1 := setDmaChan s n { c with phase := .data, words := w, moved := 0, tries := 0, peer := pairN s (chKey n 0x0C) (chKey n 0x0D) }
        let cause := descCheck s1 n
        if cause = 0 then dmaRequests s1 n else chHalt s1 n cause true
      else
        let s1 := setDmaChan s n { c with phase := .none, words := c.words.take 2 ++ w.drop 2, tries := 0 }
        if !(bits (chWord s1 n 2) 8 24 == 0) || !(bits (chWord s1 n 3) 2 2 == 0) then chHalt s1 n 3 true
        else if descEnd s1 n then chPark s1 n
        else chRead s1 n (descLink s1 n) false

/-- The read data of a request returns and its write is issued and completes (R331): up to 64 bytes, split at the source's 64-byte boundaries. -/
def dmaDataDone (s : State) (n : Nat) : State :=
  let c := dmaChan s n
  if !(engineOn s 5) || !(chState s n == 1) || c.halting || !(c.phase == .data) || decide (descLen s n ≤ c.moved) then s
  else
    let src := descSrc s n + c.moved
    let dst := descDst s n + c.moved
    let len := min (64 - src % 64) (descLen s n - c.moved)
    match busRead s src len with
    | none => dmaAccessError s n src
    | some b => match busWrite s dst b with
      | none => dmaAccessError s n dst
      | some s1 =>
        let s2 := dmaRequests (setDmaChan s1 n { c with moved := c.moved + len, tries := 0 }) n
        perfEvent (mcGranules (mcGranules (setN s2 (chKey n 0x0B) (c.moved + len)) false src 1) true dst (granules dst len)) 5 0x20 1

/-- An environment error response to the outstanding access of a channel (R335). -/
def dmaError (s : State) (n : Nat) (write : Bool) : State :=
  let c := dmaChan s n
  if !(engineOn s 5) || !(chState s n == 1) || c.phase == .none then s
  else dmaAccessError s n (if c.phase = .data then (if write then descDst s n else descSrc s n) + c.moved else chCur s n)

/-- Every write of the descriptor is complete (R331). -/
def descComplete (s : State) (n : Nat) : State :=
  let c := dmaChan s n
  if !(engineOn s 5) || !(chState s n == 1) || !(c.phase == .data) || decide (c.moved < descLen s n) then s
  else
    let peer := if bitAt c.cfg 1 then c.peer0 else (c.peer + descLen s n) % 2 ^ 40
    let s1 := perfEvent (bump (setDmaChan s n { c with phase := .none }) (chKey n 0x10)) 5 0x21 1
    let s2 := setPair s1 (chKey n 0x0C) (chKey n 0x0D) peer
    let s3 := if descIrq s n then setFlag s2 (chKey n 8) 0 else s2
    if c.halting then s3
    else if descEnd s n then chPark s3 n
    else chRead s3 n (descLink s n) false

/-- A write to CH_CMD: START, BELL and HALT in that order (R336). -/
def chCommand (s : State) (n v : Nat) (cop : Bool) : State :=
  let s1 := if bitAt v 0 then dmaStart s n (chDesc s n) cop else s
  let s2 := if bitAt v 1 then dmaBell s1 n else s1
  if bitAt v 2 then dmaHalt s2 n else s2

/-- Whether any channel runs (R326). -/
def dmaBusy (s : State) : Bool := (List.range 16).any (fun n => chState s n == 1)

end Sys2Proof.Machine
end

