-- ==== Sys2Proof/Machine/Audio.lean ====
section
/-! DEFINITION. The audio engine, engine 16 (15): the command queue, voices and their prefetch, tones and sirens, gains and multiplexers, paging
streams, TDM ports, the mix and its outputs, one sample boundary at a time. -/
namespace Sys2Proof.Machine

def kAudFlags : Nat := entryKey 0x2400 3

/-- Replaces the audio engine's state. -/
def setAud (s : State) (a : Audio) : State := { s with aud := a }

/-- Engine 16 acts only in Gale, with its domain on (R370). -/
def audOn (s : State) : Bool := engineOn s 16 && fld s (entryKey 0x2040 1) 0 2 == 0 && !(engineOffline s 16)

/-- The boundary at or after a time-base value (R371). -/
def dueBoundary (ns : Nat) : Nat := (3 * ns + 62499) / 62500

/-- num / den where the spec leaves the rounding open: a value that is not an integer takes one of its neighbours (DESIGN CHOICE, log 13). -/
def roundFree (s : State) (num : Int) (den : Nat) : Int × State :=
  if num % den = 0 then (num / den, s)
  else
    let (f, s1) := drawFree s
    (num / den + (f % 2 : Nat), s1)

/-! ### Voices (R376 to R380) -/

def voiceOf (s : State) (v : Nat) : Voice := mapGet (fun _ => {}) s.aud.voices v

/-- Replaces a voice; VOICE_STATUS follows. -/
def setVoice (s : State) (v : Nat) (x : Voice) : State :=
  setN (setAud s { s.aud with voices := mapSet (fun _ => {}) s.aud.voices v x }) (entryKey 0x2407 v)
    (x.st + (if x.late && !x.waiting then 4 else 0) + x.i % 2 ^ 24 * 256)

/-- The configuration in a voice's entries. -/
def voiceCfg (s : State) (v : Nat) : VoiceCfg :=
  let c := regN s (entryKey 0x2401 v)
  { format := bits c 0 2, interp := bitAt c 2, loops := bits c 8 8,
    addr := regN s (entryKey 0x2402 v) + fld s (entryKey 0x2403 v) 0 8 * 2 ^ 32,
    len := regN s (entryKey 0x2404 v), loopStart := regN s (entryKey 0x2405 v), step := regN s (entryKey 0x2406 v) }

/-- The check of R377 when an arm or a start falls due. -/
def voiceCfgOk (c : VoiceCfg) : Bool :=
  decide (c.format < 3) && decide (c.loopStart < c.len) && (!(c.format == 1) || c.addr % 2 == 0) &&
  (!(c.format == 2) || (c.addr % 4 == 0 && c.loopStart % 504 == 0))

/-- The IMA ADPCM step sizes and index changes. -/
def imaSteps : List Nat := [7, 8, 9, 10, 11, 12, 13, 14, 16, 17, 19, 21, 23, 25, 28, 31, 34, 37, 41, 45, 50, 55, 60, 66, 73, 80, 88, 97, 107, 118,
  130, 143, 157, 173, 190, 209, 230, 253, 279, 307, 337, 371, 408, 449, 494, 544, 598, 658, 724, 796, 876, 963, 1060, 1166, 1282, 1411,
  1552, 1707, 1878, 2066, 2272, 2499, 2749, 3024, 3327, 3660, 4026, 4428, 4871, 5358, 5894, 6484, 7132, 7845, 8630, 9493, 10442, 11487,
  12635, 13899, 15289, 16818, 18500, 20350, 22385, 24623, 27086, 29794, 32767]
def imaMove (code : Nat) : Int := if code % 8 < 4 then -1 else 2 * ((code % 8 : Nat) - 3 : Int)

/-- One IMA ADPCM code: the new predictor and step index. -/
def imaDecode (pred : Int) (index code : Nat) : Int × Nat :=
  let st := (imaSteps[index]?).getD 7
  let d := st / 8 + (if bitAt code 2 then st else 0) + (if bitAt code 1 then st / 2 else 0) + (if bitAt code 0 then st / 4 else 0)
  (clampInt (-32768) 32767 (if bitAt code 3 then pred - d else pred + d), (clampInt 0 88 ((index : Int) + imaMove code)).toNat)

/-- The address of the byte of sample i that the fetch needs last (R376). -/
def sampleAddr (c : VoiceCfg) (i : Nat) : Nat :=
  if c.format = 0 then c.addr + i else if c.format = 1 then c.addr + 2 * i else c.addr + 256 * (i / 504) + 4 + i % 504 / 2

/-- Where the fetch of sample i begins: an ADPCM block begins with its header. -/
def fetchAddr (c : VoiceCfg) (i : Nat) : Nat := if c.format = 2 ∧ i % 504 = 0 then c.addr + 256 * (i / 504) else sampleAddr c i

/-- Reads and decodes one sample as I24 (R376), with the ADPCM state after it; an address that errs otherwise. -/
def decodeSample (s : State) (v : Voice) : Except Nat (Int × Int × Nat) :=
  let c := v.cfg
  let a := sampleAddr c v.fIdx
  let bad := Except.error (fetchAddr c v.fIdx)
  if c.format = 0 then
    match busRead s a 1 with
    | none => bad
    | some b => .ok (toSigned 8 (ofBytes b) * 65536, v.pred, v.index)
  else if c.format = 1 then
    match busRead s a 2 with
    | none => bad
    | some b => .ok (toSigned 16 (ofBytes b) * 256, v.pred, v.index)
  else
    let head := if v.fIdx % 504 = 0 then (busRead s (c.addr + 256 * (v.fIdx / 504)) 4).map (fun h =>
        (toSigned 16 (ofBytes (h.take 2)), min 88 (ofBytes ((h.drop 2).take 1)))) else some (v.pred, v.index)
    match head, busRead s a 1 with
    | some (p, x), some b =>
      let code := if v.fIdx % 2 = 0 then ofBytes b % 16 else ofBytes b / 16
      let r := imaDecode p x code
      .ok (r.1 * 256, r.1, r.2)
    | _, _ => bad

/-- The fetch side goes back to LOOP_START while a pass remains (R379). -/
def fetchWrap (v : Voice) : Voice :=
  if v.cfg.len ≤ v.fIdx ∧ 0 < v.fLoops then
    { v with fIdx := v.cfg.loopStart, fLoops := if v.fLoops = 255 then 255 else v.fLoops - 1 }
  else v

/-- The fetch side has reached the end. -/
def fetchEnded (v : Voice) : Bool := decide (v.cfg.len ≤ v.fIdx) && v.fLoops == 0

/-- The samples of the 64-byte granule `g` that follow, in playing order. -/
def voiceRun (s : State) (g : Nat) : Nat → Voice → Except Nat Voice
  | 0, v => .ok v
  | fuel + 1, v0 =>
    let v := fetchWrap v0
    if fetchEnded v ∨ fetchAddr v.cfg v.fIdx / 64 ≠ g then .ok v
    else match decodeSample s v with
      | .error a => .error a
      | .ok (x, p, i) => voiceRun s g fuel { v with buf := v.buf ++ [x], pred := p, index := i, fIdx := v.fIdx + 1 }

/-- Bytes of the prefetch buffer in use (R377). -/
def bufUsed (v : Voice) : Nat := if v.cfg.format = 0 then v.buf.length else if v.cfg.format = 1 then 2 * v.buf.length else v.buf.length / 2

/-- One request of 64 bytes into the buffer, while it has room. -/
def fetchOne (s : State) (v : Voice) : Except Nat Voice :=
  if 192 < bufUsed v ∨ fetchEnded (fetchWrap v) then .ok v
  else voiceRun s (fetchAddr (fetchWrap v).cfg (fetchWrap v).fIdx / 64) 130 v

/-- A voice from sample 0 in a configuration, its buffer empty. -/
def voiceFresh (c : VoiceCfg) (st : Nat) : Voice :=
  { st := st, cfg := c, loops := c.loops, fLoops := c.loops, waiting := true }

/-- A fetch error (R380): flag, address, fade to idle. -/
def voiceFetchError (s : State) (v addr : Nat) : State :=
  let x := voiceOf s v
  let s1 := setFlag (setPair (busAddrError s addr) (entryKey 0x2400 7) (entryKey 0x2400 8) (addr % 2 ^ 40)) kAudFlags 0
  if x.st = 1 then setVoice s1 v { x with st := 0, buf := [] }
  else setVoice s1 v { x with st := 3, fade := some (x.fade.getD 0), again := none }

/-- Sample data of a voice arrives (R377). -/
def voiceFetched (s : State) (v : Nat) : State :=
  let x := voiceOf s v
  if !(audOn s) || x.st == 0 then s
  else match fetchOne s x with
    | .error a => voiceFetchError s v a
    | .ok y =>
      let a := fetchAddr (fetchWrap x).cfg (fetchWrap x).fIdx
      mcGranules (setVoice (requestsPass s reqAudio (granules a 1)) v y) false a 1

/-- Fills the buffer at once: an arm of R377 whose bound has passed. -/
def voiceFill : Nat → State → Nat → State
  | 0, s, _ => s
  | n + 1, s, v => voiceFill n (voiceFetched s v) v

/-- A request of a voice fails (R380). -/
def voiceFails (s : State) (v : Nat) : State :=
  let x := voiceOf s v
  if !(audOn s) || x.st == 0 || fetchEnded (fetchWrap x) then s else voiceFetchError s v (fetchAddr (fetchWrap x).cfg (fetchWrap x).fIdx)

/-- A voice starts at sample 0: an armed voice uses its buffer, another fetches; a start accepted 50 µs before it sounds finds its samples (R378). -/
def voiceBegin (s : State) (v : Nat) (c : VoiceCfg) (armed ready : Bool) : State :=
  let x := voiceOf s v
  let s1 := setVoice s v (if armed then { x with st := 2 } else voiceFresh c 2)
  if ready then voiceFill 4 s1 v else s1

/-- A voice reaches its end (R379). -/
def voiceEnd (s : State) (v : Nat) : State :=
  let x := voiceOf s v
  let s1 := setFlag s (if v < 32 then entryKey 0x2400 0x0E else entryKey 0x2400 0x0F) (v % 32)
  if x.again.isSome then setVoice s1 v { x with buf := [], i := x.cfg.len, loops := 0, st := 3 } else setVoice s1 v { x with st := 0, buf := [], fade := none }

/-- The position after the step: passes through the loop, with the passes left; none at the end (R379). -/
def voicePass : Nat → VoiceCfg → Nat → Nat → Option (Nat × Nat)
  | 0, _, _, _ => none
  | fuel + 1, c, i, loops =>
    if i < c.len then some (i, loops)
    else if loops = 0 then none
    else voicePass fuel c (c.loopStart + (i - c.len)) (if loops = 255 then 255 else loops - 1)

/-- A voice's samples at its position: s[i] and what follows it, if they have arrived (R379). -/
def voicePair (v : Voice) : Option (Int × Int) :=
  match v.buf with
  | [] => none
  | x :: rest =>
    if !v.cfg.interp then some (x, x)
    else if v.cfg.len ≤ v.i + 1 ∧ v.loops = 0 then some (x, 0)
    else match rest with
      | [] => none
      | y :: _ => some (x, y)

/-- What voice v outputs at a boundary and the state after it (R378, R379). -/
def voicePlay (s : State) (v : Nat) : Int × State :=
  let x := voiceOf s v
  if x.st < 2 ∨ x.cfg.len ≤ x.i then (0, s)
  else match voicePair x with
    | none =>
      if x.waiting then (0, setVoice s v { x with late := true })
      else (0, perfEvent (setFlag (bump s (entryKey 0x2400 0x0C)) kAudFlags 7) 16 0x21 1)
    | some (a, b) =>
      let out := if x.cfg.interp then a + (b - a) * (x.frac : Int) / 65536 else a
      let s1 := if x.waiting && x.late then setFlag s kAudFlags 6 else s
      let p := x.frac + x.cfg.step
      let y := { x with waiting := false, frac := p % 65536, buf := x.buf.drop (p / 65536) }
      match voicePass 8 x.cfg (x.i + p / 65536) x.loops with
      | some (i, l) => (out, setVoice s1 v { y with i := i, loops := l })
      | none => (out, voiceEnd (setVoice s1 v y) v)

/-- A fading voice at a boundary: its output scaled, then idle or restarted (R374, R378). -/
def voiceFade (s : State) (v : Nat) : Int × State :=
  let x := voiceOf s v
  match x.fade with
  | none => voicePlay s v
  | some i =>
    if 32 ≤ i then
      match x.again with
      | some (c, acc) => voicePlay (voiceBegin (setVoice s v { x with fade := none, again := none }) v c false (decide (acc + 50000 ≤ s.tb.ns))) v
      | none => (0, setVoice s v { x with st := 0, fade := none, buf := [] })
    else
      let (o, s1) := voicePlay s v
      let y := voiceOf s1 v
      let s2 := if y.st = 0 then s1 else setVoice s1 v { y with fade := some (i + 1) }
      roundFree s2 (o * (32 - i : Int)) 32

/-! ### Tones (R381, R382) -/

def toneOf (s : State) (g : Nat) : Tone := mapGet (fun _ => {}) s.aud.tones g
def setTone (s : State) (g : Nat) (t : Tone) : State := setAud s { s.aud with tones := mapSet (fun _ => {}) s.aud.tones g t }

def toneWord (t : Tone) (i : Nat) : Nat := (t.words[i]?).getD 0

/-- inc(f), rounded to the nearest (no tie occurs: 48 000 does not divide an odd multiple of 2^31). -/
def toneInc (f : Nat) : Nat := (f * 2 ^ 32 * 2 + 48000) / 96000

/-- A linear segment of the increment, the division rounded towards zero (R381). -/
def toneRamp (a b j n : Nat) : Nat := ((a : Int) + Int.tdiv (((b : Int) - a) * j) n).toNat

/-- The phase increment at sample τ (R381). -/
def toneStep (t : Tone) : Nat :=
  let mode := bits (toneWord t 0) 0 2
  let a := toneInc (bits (toneWord t 1) 0 16)
  let b := toneInc (bits (toneWord t 1) 16 16)
  let na := bits (toneWord t 2) 0 16 * 48
  let nb := bits (toneWord t 2) 16 16 * 48
  let j := t.tau % (na + nb)
  if mode = 0 then a
  else if mode = 1 then (if j < na then a else b)
  else if mode = 2 then (if j < na then toneRamp a b j na else toneRamp b a (j - na) nb)
  else (if j < na then toneRamp a b j na else b)

/-- The waveform at the phase (R381). -/
def toneWave (t : Tone) : Int :=
  let w := bits (toneWord t 0) 2 2
  if w = 1 then (if t.phase < 2 ^ 31 then 8388607 else -8388607)
  else if w = 0 then Config.sineSample t.phase
  else Config.triangleSample t.phase

/-- The cadence's weight at sample τ, of 32 (R381): each edge ramps over 32 samples; OFF 0 is continuous. -/
def toneGate (t : Tone) : Nat :=
  let on := bits (toneWord t 3) 0 16 * 48
  let off := bits (toneWord t 3) 16 16 * 48
  if off = 0 then 32
  else
    let j := t.tau % (on + off)
    if j < on then min 32 j else 32 - min 32 (j - on)

/-- A generator's output at a boundary, and its advance. -/
def tonePlay (s : State) (g : Nat) : Int × State :=
  let t := toneOf s g
  if !t.on then (0, s)
  else
    let i := t.fade.getD 0
    if 32 ≤ i then (0, setTone s g {})
    else
      let s1 := setTone s g { t with phase := (t.phase + toneStep t) % 2 ^ 32, tau := t.tau + 1, fade := t.fade.map (· + 1) }
      roundFree s1 (toneWave t * (toneGate t : Int) * (32 - i : Int)) 1024

/-- TONE_START (R381, R382). -/
def toneStart (s : State) (g : Nat) : State :=
  setTone s g { on := true, words := [regN s (entryKey 0x240A g), regN s (entryKey 0x240B g), regN s (entryKey 0x240C g), regN s (entryKey 0x240D g)] }

/-! ### Gains and multiplexers (R388, R389) -/

/-- The entry behind a gain: SRC_GAIN 0 to 99, MIX_GAIN from 128, OUT_GAIN of pair p and channel c at 192 + 2p + c. -/
def gainEntry (g : Nat) : Nat := if g < 100 then entryKey 0x2408 g else if g < 192 then entryKey 0x2412 (g - 128) else entryKey 0x2414 ((g - 192) / 2)

def gainReset (g : Nat) : AudGain := ⟨(dictReset (gainEntry g)).toNat, none, 0⟩

def gainOf (s : State) (g : Nat) : AudGain := match mapGet (fun _ => none) s.aud.gains g with
  | some x => x
  | none => gainReset g

def setGain (s : State) (g : Nat) (x : AudGain) : State :=
  setAud s { s.aud with gains := mapSet (fun _ => none) s.aud.gains g (if x = gainReset g then none else some x) }

/-- A gain at a boundary, with the signal entering it: a pending target steps at a zero crossing (R388). -/
def gainStep (s : State) (g k : Nat) (x : Int) : Nat × State :=
  let a := gainOf s g
  let target := regN s (gainEntry g)
  if target = a.cur then (a.cur, setGain s g ⟨a.cur, none, x⟩)
  else if x = 0 ∨ x * a.prev < 0 then (target, setGain s g ⟨target, none, x⟩)
  else (a.cur, setGain s g ⟨a.cur, some (a.since.getD k), x⟩)

/-- ZC_TIMEOUT ms pass from the earliest target not yet applied: the gain steps anyway (R388). -/
def gainTimeout (s : State) (g : Nat) : State :=
  let a := gainOf s g
  if audOn s && a.since.isSome then bump (setGain s g ⟨regN s (gainEntry g), none, a.prev⟩) (entryKey 0x2400 0x0B) else s

/-- The setting of a multiplexer in its entry: SRC_ROUTE 0 to 99, TDM_SLOT from 128, DP_PAIR 160. -/
def muxEntry (s : State) (m : Nat) : Nat :=
  if m < 100 then fld s (entryKey 0x2409 m) 0 4 else if m < 160 then fld s (entryKey 0x2416 (m - 128)) 0 4 else fld s (entryKey 0x2400 1) 8 2

def muxReset (m : Nat) : AudMux := ⟨if m < 100 then 15 else 0, none⟩

def muxOf (s : State) (m : Nat) : AudMux := match mapGet (fun _ => none) s.aud.muxes m with
  | some x => x
  | none => muxReset m

def setMux (s : State) (m : Nat) (x : AudMux) : State :=
  setAud s { s.aud with muxes := mapSet (fun _ => none) s.aud.muxes m (if x = muxReset m then none else some x) }

/-- A multiplexer at a boundary: the settings heard with their weights of 32; a change crossfades over 32 boundaries, a further one waits. -/
def muxStep (s : State) (m : Nat) : List (Nat × Nat) × State :=
  let x := muxOf s m
  let e := muxEntry s m
  match x.fade with
  | none => if e = x.cur then ([(x.cur, 32)], s) else ([(x.cur, 32)], setMux s m ⟨x.cur, some (e, 0)⟩)
  | some (t, i) =>
    if 31 ≤ i then ([(t, 32)], setMux s m ⟨t, none⟩)
    else ([(x.cur, 31 - i), (t, i + 1)], setMux s m ⟨x.cur, some (t, i + 1)⟩)

/-- AUD_STATUS.ROUTE_BUSY: a further change waits for the end of a crossfade (R389). -/
def routeBusy (s : State) : Bool :=
  s.aud.muxes.any (fun e => match e.2 with
    | some ⟨_, some (t, _)⟩ => !(muxEntry s e.1 == t)
    | _ => false)

/-- AUD_STATUS (R391). -/
def audStatus (s : State) : Nat :=
  (if engineOn s 7 && (s.tb.sync || s.tb.gm) then 1 else 0) + 2 * s.aud.queue.length + (if routeBusy s then 256 else 0)

/-! ### Paging (R384, R414) -/

def pageOf (s : State) (p : Nat) : PageStream := mapGet (fun _ => {}) s.aud.pages p
def setPage (s : State) (p : Nat) (x : PageStream) : State := setAud s { s.aud with pages := mapSet (fun _ => {}) s.aud.pages p x }

/-- Boundaries between samples at a paging rate. -/
def pageSpace (rate : Nat) : Nat := if rate = 0 then 6 else if rate = 1 then 3 else 1

/-- A paging message reaches stream p (R384). -/
def pageIn (s : State) (p rate time : Nat) (samples : List Nat) : State :=
  let x := pageOf s p
  let r := pageSpace rate
  let k0 := dueBoundary (time + regN s (entryKey 0x2418 p) * 62500 / 3)
  let now := s.aud.k.getD 0
  if k0 ≤ now ∨ 4096 < x.buf.length + samples.length then setFlag s kAudFlags 3
  else
    let gap := match x.buf.getLast? with
      | some (k, q, _) => !(k + q == k0)
      | none => false
    let s1 := if gap then setFlag s kAudFlags 3 else s
    setPage s1 p { x with buf := x.buf ++ samples.zipIdx.map (fun e => (k0 + r * e.2, r, toSigned 16 e.1 * 256)) }

/-- A PAGING message: to every enabled stream of its identifier (R384). -/
def paging (s : State) (stream rate time : Nat) (samples : List Nat) : State :=
  if !(audOn s) || !(decide (rate ≤ 2)) then s
  else (List.range 4).foldl (fun t p =>
    if flag t (entryKey 0x2417 p) 16 && fld t (entryKey 0x2417 p) 0 16 == stream then pageIn t p rate time samples else t) s

/-- The sample of stream p at boundary k (R384): interpolated between neighbours; a gap fades out, what follows fades in. -/
def pagePlay (s : State) (p k : Nat) : Int × State :=
  let x0 := pageOf s p
  let x := { x0 with buf := x0.buf.filter (fun e => decide (k < e.1 + e.2.1)) }
  if !(flag s (entryKey 0x2417 p) 16) || !(engineOn s 7 && (s.tb.sync || s.tb.gm)) then (0, setPage s p { x with last := 0, fadeOut := none, fadeIn := none })
  else match x.buf with
    | (k0, r, v) :: rest =>
      if k0 ≤ k then
        let nxt := match rest with
          | (k1, _, w) :: _ => if k1 = k0 + r then w else 0
          | [] => 0
        let out := v + (nxt - v) * (((k - k0) * 65536 / r : Nat) : Int) / 65536
        let fi := match x.fadeIn with
          | some i => i
          | none => if x0.last = 0 ∧ x.fadeOut.isSome then 0 else 32
        let s1 := setPage s p { x with last := out, fadeOut := none, fadeIn := if fi < 32 then some (fi + 1) else none }
        if 32 ≤ fi then (out, s1) else roundFree s1 (out * (fi : Int)) 32
      else
        let i := x.fadeOut.getD 0
        if 32 ≤ i then (0, setPage s p { x with last := 0, fadeOut := some 32, fadeIn := some 0 })
        else roundFree (setPage s p { x with fadeOut := some (i + 1), fadeIn := some 0 }) (x.last * (32 - i : Int)) 32
    | [] =>
      let i := x.fadeOut.getD 0
      if x.last = 0 ∨ 32 ≤ i then (0, setPage s p { x with last := 0 })
      else roundFree (setPage s p { x with fadeOut := some (i + 1), fadeIn := some 0 }) (x.last * (32 - i : Int)) 32

/-! ### TDM ports (R383, R390, R391) -/

def tdmOf (s : State) (n : Nat) : TdmPort := mapGet (fun _ => {}) s.aud.tdm n
def setTdm (s : State) (n : Nat) (x : TdmPort) : State := setAud s { s.aud with tdm := mapSet (fun _ => {}) s.aud.tdm n x }
def tdmCfg (s : State) (n : Nat) : Nat := regN s (entryKey 0x2415 n)

/-- The rates of TDM_CFG.RATE in Hz. -/
def tdmRate (c : Nat) : Nat := ([8000, 12000, 16000, 24000, 32000, 48000, 64000, 96000][bits c 3 3]?).getD 48000

/-- Whether a port runs: enabled, past its restart, with FS. -/
def tdmRuns (s : State) (n : Nat) : Bool :=
  let x := tdmOf s n
  bitAt (tdmCfg s n) 0 && x.wait == 0 && (bitAt (tdmCfg s n) 2 || !x.lost)

/-- A write to TDM_CFG: the port stops for two frames and restarts at the next boundary (R391). -/
def tdmWritten (s : State) (n v : Nat) : State :=
  if tdmCfg s n = v then s
  else
    let rate := if bitAt v 2 then tdmRate v else (tdmOf s n).rate
    setTdm (setN s (entryKey 0x2415 n) v) n { tdmOf s n with wait := (2 * 48000 + rate - 1) / rate + 1 }

/-- A slave port sees no FS for two frames (R383). -/
def tdmLoss (s : State) (n : Nat) : State :=
  if audOn s && bitAt (tdmCfg s n) 0 && !(bitAt (tdmCfg s n) 2) && !(tdmOf s n).lost then
    setFlag (setTdm s n { tdmOf s n with lost := true }) kAudFlags 4
  else s

/-- FS returns: the rate is measured anew and the input slots deliver again (R383). -/
def tdmReturn (s : State) (n rate : Nat) : State :=
  if audOn s && (tdmOf s n).lost && decide (8000 ≤ rate) && decide (rate ≤ 96000) then
    setTdm s n { tdmOf s n with lost := false, rate := rate }
  else s

/-- An input slot's sample: what the outside sends is free (DESIGN CHOICE, log 14); a data input that is frozen repeats its level in every bit (R363). -/
def tdmIn (s : State) (i : Nat) : Int × State :=
  let n := i / 8
  if tdmRuns s n && !(bitAt (tdmCfg s n) 1) then
    if funcOwns s (3 * n + 2) then
      let (f, s1) := drawFree s
      (toSigned 24 f, s1)
    else (if funcIn s (3 * n + 2) then -1 else 0, s)
  else (0, s)

/-! ### The mix (R385 to R387) -/

/-- What source i delivers at boundary k. -/
def sourcePlay (s : State) (i k : Nat) : Int × State :=
  if i < 64 then (if i < voiceCount s.variant then voiceFade s i else (0, s))
  else if i < 80 then tonePlay s (i - 64)
  else if i < 96 then tdmIn s (i - 80)
  else pagePlay s (i - 96) k

/-- Adds to the accumulator of a bus. -/
def busAdd (acc : List Int) (b : Nat) (x : Int) : List Int := acc.zipIdx.map (fun e => if e.2 = b then e.1 + x else e.1)

/-- One source into the buses, in units of 1/32 (R385, R389). -/
def mixSource (k : Nat) (a : List Int × State) (i : Nat) : List Int × State :=
  let (x, s1) := sourcePlay a.2 i k
  let (g, s2) := gainStep s1 i k x
  let (ws, s3) := muxStep s2 i
  let y := x * (g : Int) / 128
  (ws.foldl (fun acc w => if w.1 < 8 then busAdd acc w.1 (y * (w.2 : Int)) else acc) a.1, s3)

/-- The bus's compressor (R386): its gain, 32768 as 1.0. -/
def busGain (s : State) (b : Nat) (x : Int) : Nat × State :=
  let cfg := regN s (entryKey 0x2410 b) + regN s (entryKey 0x2411 b) * 2 ^ 32
  if bits cfg 6 4 = 0 then (32768, s)
  else
    let w := mapGet (fun _ => 0) s.aud.comp b
    (Config.dynamicsGain cfg w x, setAud s { s.aud with comp := mapSet (fun _ => 0) s.aud.comp b (Config.dynamicsNext cfg w x) })

/-- The compressed buses, in units of 2^-20. -/
def compress (s : State) (acc : List Int) : List Int × State :=
  acc.zipIdx.foldl (fun (r : List Int × State) e =>
    let (g, s1) := busGain r.2 e.2 (e.1 / 32)
    (r.1 ++ [e.1 * (g : Int)], s1)) ([], s)

/-- Channel c of pair p before its limiter (R387): the sum of the buses, the pair gain, saturation. -/
def mixOut (s : State) (p c k : Nat) (buses : List Int) : Int × State :=
  let (sum, s1) := buses.zipIdx.foldl (fun (r : Int × State) e =>
    let (g, t) := gainStep r.2 (128 + 16 * p + 8 * c + e.2) k e.1
    (r.1 + e.1 * (g : Int), t)) (0, s)
  let (g, s2) := gainStep s1 (192 + 2 * p + c) k sum
  let (x, s3) := roundFree s2 (sum * (g : Int)) (2 ^ 50)
  let top : Int := 2 ^ 39 - 1
  if x < -top ∨ top < x then (clampInt (-top) top x, perfEvent (setFlag (bump s3 (entryKey 0x2400 0x0A)) kAudFlags 2) 16 0x22 1)
  else (x, s3)

/-- The ceilings of CEIL 0 to 12 dB below 24-bit full scale, rounded down (R387). -/
def ceilings : List Nat := [8388607, 7476353, 6663307, 5938678, 5292853, 4717260, 4204262, 3747053, 3339564, 2976390, 2652710, 2364230, 2107122]

def pairOf (s : State) (p : Nat) : AudPair := mapGet (fun _ => {}) s.aud.pairs p

/-- A sample after the limiter's gain: 24 bits rounded to the nearest, a tie either way, clamped to the ceiling (R387). -/
def limited (s : State) (x : Int) (gain ceil : Nat) : Int × State :=
  let y := x * (gain : Int)
  let (r, s1) := if y % 8388608 = 4194304 then roundFree s y 8388608 else ((y + 4194304) / 8388608, s)
  (clampInt (-(ceil : Int)) ceil r, s1)

/-- The limiter of pair p (R387): a linked gain over the look-ahead of 32 samples; the gain is 1 when nothing exceeded the ceiling within RELEASE. -/
def limitPair (s : State) (p : Nat) (x : Int × Int) : (Int × Int) × State :=
  let a := pairOf s p
  let cfg := regN s (entryKey 0x2413 p)
  let ceil := (ceilings[bits cfg 0 4]?).getD 8388607
  let win := a.ahead ++ [x]
  let loud := win.any (fun e => decide (ceil * 256 < e.1.natAbs) || decide (ceil * 256 < e.2.natAbs))
  let dyn := if loud then bits cfg 8 8 * 48 else a.dyn - 1
  let y := if 32 < win.length then win.headD (0, 0) else (0, 0)
  let gain := if dyn = 0 then 32768 else min 32768 (Config.dynamicsGain cfg dyn y.1)
  let (l, s1) := limited s y.1 gain ceil
  let (r, s2) := limited s1 y.2 gain ceil
  let a1 : AudPair := { dyn := dyn, ahead := win.drop (win.length - 32), out := (a.out ++ [(l, r)]).drop ((a.out.length + 1) - 5) }
  ((l, r), setAud s2 { s2.aud with pairs := mapSet (fun _ => {}) s2.aud.pairs p a1 })

/-- The weight of every output during a resynchronisation, of 32 (R372). -/
def resyncWeight (s : State) : Nat := match s.aud.resync with
  | none => 32
  | some i => if i ≤ 32 then 32 - i else i - 32

/-- The sample of pair p that leaves in the frame of this boundary (R390). -/
def pairLeaves (s : State) (p : Nat) : Int × Int := let o := (pairOf s p).out; if o.length < 5 then (0, 0) else o.headD (0, 0)

/-- What a slot selects (R391). -/
def slotSelect (s : State) (sel : Nat) : Int :=
  if sel = 0 then 0 else let o := pairLeaves s ((sel - 1) / 2); if (sel - 1) % 2 = 0 then o.1 else o.2

/-- The output slots of the TDM ports in the frame of this boundary (R383, R389, R390). -/
def slotOut (s : State) (i : Nat) : State :=
  let n := i / 8
  let (ws, s1) := muxStep s (128 + i)
  let sum := ws.foldl (fun a w => a + slotSelect s1 w.1 * (w.2 : Int)) 0
  let (x, s2) := roundFree s1 (sum * (resyncWeight s1 : Int)) 1024
  let rate := if bitAt (tdmCfg s n) 2 then tdmRate (tdmCfg s n) else (tdmOf s n).rate
  let y := if tdmRuns s n && bitAt (tdmCfg s n) 1 then (if rate = 48000 then x else Config.filterSample rate x) else 0
  setAud s2 { s2.aud with slots := mapSet (fun _ => 0) s2.aud.slots i y }

/-- DP audio (R390): the selected pair while DP_EN is 1 and Head P sends video. -/
def dpOut (s : State) : State :=
  let (ws, s1) := muxStep s 160
  let sum (f : Int × Int → Int) : Int := ws.foldl (fun a w => a + f (pairLeaves s1 w.1) * (w.2 : Int)) 0 * (resyncWeight s1 : Int)
  if flag s1 (entryKey 0x2400 1) 10 && engineOn s1 13 && s1.hp.video then
    let (l, s2) := roundFree s1 (sum Prod.fst) 1024
    let (r, s3) := roundFree s2 (sum Prod.snd) 1024
    setAud s3 { s3.aud with dp := some (l, r) }
  else setAud s1 { s1.aud with dp := none }

/-! ### Commands and the boundary (R373 to R375) -/

/-- Sets CFG_ERROR of the audio block. -/
def audCfgError (s : State) : State := setFlag s kAudFlags 5

/-- A source of the graph that the variant has (R370). -/
def sourceExists (s : State) (i : Nat) : Bool := decide (i < 100) && (decide (64 ≤ i) || decide (i < voiceCount s.variant))

/-- The reserved bits of a command's ARG. -/
def cmdRsvd (code arg : Nat) : Bool :=
  !((if code = 1 ∨ code = 2 then arg / 64 else if code = 3 then maskClear arg 0x13F else if code = 4 ∨ code = 5 then arg / 16
    else if code = 6 then maskClear arg 0xFFFF007F else if code = 7 then maskClear arg 0xF7F else arg / 65536) == 0)

/-- The action of a command at its boundary (R374). -/
def cmdAct (s : State) (c : AudCmd) : State :=
  let v := bits c.arg 0 6
  let x := voiceOf s v
  let src := bits c.arg 0 7
  if c.code = 1 then
    if !(decide (v < voiceCount s.variant)) || (x.st == 0 && !(voiceCfgOk (voiceCfg s v))) then audCfgError s
    else if x.st = 0 then setVoice s v (voiceFresh (voiceCfg s v) 1)
    else s
  else if c.code = 2 then
    if !(decide (v < voiceCount s.variant)) || !(voiceCfgOk (voiceCfg s v)) then audCfgError s
    else if x.st < 2 then voiceBegin s v (voiceCfg s v) (x.st == 1 && decide (x.cfg = voiceCfg s v)) (decide (c.accepted + 50000 ≤ s.tb.ns))
    else setVoice s v { x with st := 3, fade := some (x.fade.getD 0), again := some (voiceCfg s v, c.accepted) }
  else if c.code = 3 then
    if !(decide (v < voiceCount s.variant)) then audCfgError s
    else if bitAt c.arg 8 then
      (if x.st = 2 then
        let wrapped := decide (x.cfg.len - x.i < x.buf.length) || decide (x.fLoops < x.loops)
        setVoice s v { x with loops := 0, fLoops := 0, buf := x.buf.take (x.cfg.len - x.i), fIdx := if wrapped then x.cfg.len else x.fIdx }
      else s)
    else if x.st = 1 then setVoice s v { x with st := 0, buf := [] }
    else if x.st = 2 then setVoice s v { x with st := 3, fade := some 0 }
    else if x.st = 3 then setVoice s v { x with again := none }
    else s
  else if c.code = 4 then toneStart s (bits c.arg 0 4)
  else if c.code = 5 then
    let t := toneOf s (bits c.arg 0 4)
    if t.on && t.fade.isNone then setTone s (bits c.arg 0 4) { t with fade := some 0 }
    else s
  else if c.code = 6 then
    if sourceExists s src then setN s (entryKey 0x2408 src) (bits c.arg 16 16) else audCfgError s
  else if c.code = 7 then
    if sourceExists s src && (decide (bits c.arg 8 4 < 8) || bits c.arg 8 4 == 15) then setN s (entryKey 0x2409 src) (bits c.arg 8 4) else audCfgError s
  else icAssert (setN s (entryKey 0x2400 6) (bits c.arg 0 16)) 264

/-- Whether the queue is full (R373). -/
def audFull (s : State) : Bool := decide (64 ≤ s.aud.queue.length)

/-- A push of a defined code into a queue with room (R373). -/
def audPush (s : State) (stamp arg code : Nat) : State :=
  let s1 := if cmdRsvd code arg then bump s (entryKey 0x2400 0x0D) else s
  setAud s1 { s1.aud with queue := s1.aud.queue ++ [⟨if stamp = 0 then none else some (dueBoundary stamp), arg, code, s.tb.ns⟩] }

/-- A command is due at boundary k (R372, R373). -/
def cmdDue (s : State) (k : Nat) (c : AudCmd) : Bool := match c.due with
  | none => true
  | some d => engineOn s 7 && (s.tb.sync || s.tb.gm) && decide (d ≤ k)

/-- The commands due act in push order; one whose boundary has passed is late (R372, R375). -/
def cmdsAct (s : State) (k : Nat) : State :=
  let due := s.aud.queue.filter (cmdDue s k)
  let s1 := setAud s { s.aud with queue := s.aud.queue.filter (fun c => !(cmdDue s k c)) }
  due.foldl (fun t c =>
    let t1 := match c.due with
      | some d => if d < k then setFlag (bump t (entryKey 0x2400 9)) kAudFlags 1 else t
      | none => t
    cmdAct t1 c) s1

/-- One sample boundary (R371 to R390). -/
def sampleBoundary (s : State) : State :=
  if !(audOn s) then s
  else
    let k := match s.aud.resync, s.aud.k with
      | some 32, _ => dueBoundary s.tb.ns
      | _, some k => k + 1
      | _, none => dueBoundary s.tb.ns
    let s1 := setPair (setAud s { s.aud with k := some k }) (entryKey 0x2400 4) (entryKey 0x2400 5) k
    let s2 := cmdsAct (perfEvent s1 16 0x20 1) k
    let s3 := (List.range 2).foldl (fun t n => setTdm t n { tdmOf t n with wait := (tdmOf t n).wait - 1 }) s2
    let (acc, s4) := (List.range 100).foldl (mixSource k) (List.replicate 8 0, s3)
    let (buses, s5) := compress s4 acc
    let s6 := (List.range 4).foldl (fun t p =>
      let (l, t1) := mixOut t p 0 k buses
      let (r, t2) := mixOut t1 p 1 k buses
      (limitPair t2 p (l, r)).2) s5
    let s7 := dpOut ((List.range 16).foldl slotOut s6)
    match s7.aud.resync with
    | none => s7
    | some i => if 63 ≤ i then setFlag (setAud s7 { s7.aud with resync := none }) kAudFlags 8 else setAud s7 { s7.aud with resync := some (i + 1) }

/-- The time base is synchronised again and differs from the sample clock by more than one sample (R372). -/
def audioResync (s : State) : State :=
  let d := dueBoundary s.tb.ns
  match s.aud.k with
  | none => s
  | some k => if audOn s && engineOn s 7 && (s.tb.sync || s.tb.gm) && s.aud.resync.isNone && (decide (k + 1 < d) || decide (d + 1 < k)) then
      setAud s { s.aud with resync := some 0 } else s

end Sys2Proof.Machine
end

