-- ==== Sys2Proof/Machine/Crypto.lean ====
section
/-! DEFINITION. The algorithms the spec names: CRC-32 (R207), CRC-16 (R247), SHA-256, HMAC-SHA-256 (R415) and ECDSA P-256 verification (R447, R453),
as functions of bytes. -/
namespace Sys2Proof.Machine

/-! ### Cyclic redundancy checks -/

/-- Eight steps of the reflected CRC-32 register. -/
def crc32Step : Nat → Nat → Nat
  | 0, c => c
  | n + 1, c => crc32Step n (if c % 2 = 1 then (c / 2) ^^^ 0xEDB88320 else c / 2)

/-- One byte into the CRC-32 register. -/
def crc32Byte (c : Nat) (b : Byte) : Nat := crc32Step 8 (c ^^^ b.toNat)

/-- CRC-32 of the IEEE 802.3 polynomial 0x04C11DB7, reflected, initial value and final XOR 0xFFFFFFFF (R207). -/
def crc32 (bs : List Byte) : Nat := (bs.foldl crc32Byte 0xFFFFFFFF) ^^^ 0xFFFFFFFF

/-- Eight steps of the unreflected CRC-16 register of polynomial 0x1021. -/
def crc16Step : Nat → Nat → Nat
  | 0, c => c
  | n + 1, c => crc16Step n (if 0x8000 ≤ c then (c * 2 % 65536) ^^^ 0x1021 else c * 2)

/-- CRC-16, polynomial 0x1021, initial value 0xFFFF, unreflected (R247). -/
def crc16 (bs : List Byte) : Nat := bs.foldl (fun c b => crc16Step 8 (c ^^^ (b.toNat * 256))) 0xFFFF

/-! ### SHA-256 -/

/-- The round constants of SHA-256. -/
def shaK : List Nat :=
  [0x428a2f98, 0x71374491, 0xb5c0fbcf, 0xe9b5dba5, 0x3956c25b, 0x59f111f1, 0x923f82a4, 0xab1c5ed5] ++
  [0xd807aa98, 0x12835b01, 0x243185be, 0x550c7dc3, 0x72be5d74, 0x80deb1fe, 0x9bdc06a7, 0xc19bf174] ++
  [0xe49b69c1, 0xefbe4786, 0x0fc19dc6, 0x240ca1cc, 0x2de92c6f, 0x4a7484aa, 0x5cb0a9dc, 0x76f988da] ++
  [0x983e5152, 0xa831c66d, 0xb00327c8, 0xbf597fc7, 0xc6e00bf3, 0xd5a79147, 0x06ca6351, 0x14292967] ++
  [0x27b70a85, 0x2e1b2138, 0x4d2c6dfc, 0x53380d13, 0x650a7354, 0x766a0abb, 0x81c2c92e, 0x92722c85] ++
  [0xa2bfe8a1, 0xa81a664b, 0xc24b8b70, 0xc76c51a3, 0xd192e819, 0xd6990624, 0xf40e3585, 0x106aa070] ++
  [0x19a4c116, 0x1e376c08, 0x2748774c, 0x34b0bcb5, 0x391c0cb3, 0x4ed8aa4a, 0x5b9cca4f, 0x682e6ff3] ++
  [0x748f82ee, 0x78a5636f, 0x84c87814, 0x8cc70208, 0x90befffa, 0xa4506ceb, 0xbef9a3f7, 0xc67178f2]

/-- The initial hash words of SHA-256. -/
def shaInit : List Nat := [0x6a09e667, 0xbb67ae85, 0x3c6ef372, 0xa54ff53a, 0x510e527f, 0x9b05688c, 0x1f83d9ab, 0x5be0cd19]

/-- Rotation of a 32-bit word to the right. -/
def rotr (n x : Nat) : Nat := x / 2 ^ n ||| x * 2 ^ (32 - n) % 2 ^ 32

def shaS0 (x : Nat) : Nat := rotr 7 x ^^^ rotr 18 x ^^^ (x / 8)
def shaS1 (x : Nat) : Nat := rotr 17 x ^^^ rotr 19 x ^^^ (x / 1024)
def shaB0 (x : Nat) : Nat := rotr 2 x ^^^ rotr 13 x ^^^ rotr 22 x
def shaB1 (x : Nat) : Nat := rotr 6 x ^^^ rotr 11 x ^^^ rotr 25 x

/-- The last element but `i` of a list of words. -/
def backWord (l : List Nat) (i : Nat) : Nat := (l[i - 1]?).getD 0

/-- The message schedule, newest word first, extended by `n` words. -/
def shaExtend : Nat → List Nat → List Nat
  | 0, l => l
  | n + 1, l => shaExtend n (((shaS1 (backWord l 2) + backWord l 7 + shaS0 (backWord l 15) + backWord l 16) % 2 ^ 32) :: l)

/-- The eight working words of SHA-256. -/
structure ShaRegs where
  a : Nat
  b : Nat
  c : Nat
  d : Nat
  e : Nat
  f : Nat
  g : Nat
  h : Nat
  deriving DecidableEq, Repr

/-- One round. -/
def shaRound (r : ShaRegs) (kw : Nat × Nat) : ShaRegs :=
  let ch := (r.e &&& r.f) ^^^ ((0xFFFFFFFF ^^^ r.e) &&& r.g)
  let t1 := r.h + shaB1 r.e + ch + kw.1 + kw.2
  let maj := (r.a &&& r.b) ^^^ (r.a &&& r.c) ^^^ (r.b &&& r.c)
  ⟨(t1 + shaB0 r.a + maj) % 2 ^ 32, r.a, r.b, r.c, (r.d + t1) % 2 ^ 32, r.e, r.f, r.g⟩

/-- One 64-byte block. -/
def shaBlock (h : List Nat) (block : List Byte) : List Nat :=
  let w := (shaExtend 48 ((chunksOf 4 16 block).map ofBytesBE).reverse).reverse
  match h with
  | [a, b, c, d, e, f, g, hh] =>
    let r := (shaK.zip w).foldl shaRound ⟨a, b, c, d, e, f, g, hh⟩
    [(a + r.a) % 2 ^ 32, (b + r.b) % 2 ^ 32, (c + r.c) % 2 ^ 32, (d + r.d) % 2 ^ 32,
      (e + r.e) % 2 ^ 32, (f + r.f) % 2 ^ 32, (g + r.g) % 2 ^ 32, (hh + r.h) % 2 ^ 32]
  | _ => h

/-- The SHA-256 digest of a message, 32 bytes. -/
def sha256 (m : List Byte) : List Byte :=
  let n := m.length
  let padded := m ++ [0x80#8] ++ List.replicate ((119 - n % 64) % 64) 0#8 ++ toBytesBE 8 (8 * n)
  ((chunksOf 64 (n / 64 + 2) padded).foldl shaBlock shaInit).flatMap (toBytesBE 4)

/-- HMAC-SHA-256 with a key of at most 64 bytes. -/
def hmacSha256 (key m : List Byte) : List Byte :=
  let k := key ++ List.replicate (64 - key.length) 0#8
  sha256 (k.map (· ^^^ 0x5C#8) ++ sha256 (k.map (· ^^^ 0x36#8) ++ m))

/-! ### ECDSA P-256 -/

def p256P : Nat := 0xffffffff00000001000000000000000000000000ffffffffffffffffffffffff
def p256N : Nat := 0xffffffff00000000ffffffffffffffffbce6faada7179e84f3b9cac2fc632551
def p256B : Nat := 0x5ac635d8aa3a93e7b3ebbd55769886bc651d06b0cc53b0f63bce3c3e27d2604b
def p256G : Nat × Nat := (0x6b17d1f2e12c4247f8bce6e563a440f277037d812deb33a0f4a13945d898c296, 0x4fe342e2fe1a7f9b8ee7eb4a7c0f9e162bce33576b315ececbb6406837bf51f5)

/-- Modular exponentiation, `fuel` bits of the exponent. -/
def powMod (m : Nat) : Nat → Nat → Nat → Nat
  | 0, _, _ => 1
  | fuel + 1, x, e =>
    let r := powMod m fuel (x * x % m) (e / 2)
    if e % 2 = 1 then r * x % m else r

/-- The inverse modulo a prime. -/
def invMod (m x : Nat) : Nat := powMod m 256 (x % m) (m - 2)

/-- Subtraction modulo m of reduced values. -/
def subMod (m a b : Nat) : Nat := (a + m - b % m) % m

/-- Addition of points of the curve; `none` is the point at infinity. -/
def ecAdd : Option (Nat × Nat) → Option (Nat × Nat) → Option (Nat × Nat)
  | none, q => q
  | p, none => p
  | some (x1, y1), some (x2, y2) =>
    if x1 = x2 ∧ (y1 + y2) % p256P = 0 then none
    else
      let l := if x1 = x2 then subMod p256P (3 * x1 * x1) 3 * invMod p256P (2 * y1) % p256P
        else subMod p256P y2 y1 * invMod p256P (subMod p256P x2 x1) % p256P
      let x := subMod p256P (subMod p256P (l * l) x1) x2
      some (x, subMod p256P (l * subMod p256P x1 x) y1)

/-- Scalar multiplication, `fuel` bits of the scalar. -/
def ecMul : Nat → Nat → Option (Nat × Nat) → Option (Nat × Nat)
  | 0, _, _ => none
  | fuel + 1, k, p =>
    let r := ecMul fuel (k / 2) (ecAdd p p)
    if k % 2 = 1 then ecAdd p r else r

/-- ECDSA P-256 verification of a 64-byte signature over a digest under a 64-byte public key, all big-endian (R447). -/
def ecdsaVerify (key sig digest : List Byte) : Bool :=
  let x := ofBytesBE (key.take 32)
  let y := ofBytesBE ((key.drop 32).take 32)
  let r := ofBytesBE (sig.take 32)
  let s := ofBytesBE ((sig.drop 32).take 32)
  let z := ofBytesBE (digest.take 32)
  if x < p256P ∧ y < p256P ∧ y * y % p256P = (x * x * x + (p256P - 3) * x + p256B) % p256P ∧
      0 < r ∧ r < p256N ∧ 0 < s ∧ s < p256N then
    let w := invMod p256N s
    match ecAdd (ecMul 256 (z * w % p256N) (some p256G)) (ecMul 256 (r * w % p256N) (some (x, y))) with
    | none => false
    | some (px, _) => px % p256N == r
  else false

/-- The codes of a verification (R450). -/
def verifyImage (hash keyAndSig digest : List Byte) : Nat :=
  if hash.all (· == 0#8) then 2
  else if !(sha256 (keyAndSig.take 64) == hash) then 3
  else if ecdsaVerify (keyAndSig.take 64) (keyAndSig.drop 64) digest then 0 else 4

end Sys2Proof.Machine
end

