-- ==== Sys2Proof/Machine/LegalPlane.lean ====
section
/-! DEFINITION. The legal plane of Bellmetal (09): tile-store banks, the bank check, the windows of the frame, legal pixels with the error pattern,
the seal-broken mark and the identification, and what the commit instant changes. -/
namespace Sys2Proof.Machine

/-- Replaces the partition's state. -/
def setBm (s : State) (b : Bellmetal) : State := { s with bm := b }

/-- Raises one of the partition's interrupt slots 23 to 28 until it is claimed (R223). -/
def bmLatch (s : State) (slot : Nat) : State :=
  if s.bm.latched.contains slot then s else setBm s { s.bm with latched := slot :: s.bm.latched }

/-- Partition states (R220). -/
def bmOff : Nat := 0
def bmBooting : Nat := 1
def bmRunning : Nat := 2
def bmHalted : Nat := 3
def bmRestarting : Nat := 4

/-- Whether the legal core runs. -/
def legalRuns (s : State) : Bool := s.bm.state == bmRunning

/-- The error pattern starts, asserting source 308 (R240). -/
def errStart (s : State) : State :=
  if s.bm.err then s else icAssert (setBm s { s.bm with err := true, errRelease := false }) 308

/-- The partition changes state: source 304 (R220, R256); every state but OFF and RUNNING shows the error pattern (R240). -/
def bmEnter (s : State) (st : Nat) : State :=
  if s.bm.state = st then s
  else
    let s1 := icAssert (setBm s { s.bm with state := st }) 304
    if st = bmBooting ∨ st = bmHalted ∨ st = bmRestarting then errStart s1 else s1

/-! ### Tile-store banks (R236, R237) -/

/-- A byte, halfword and word of a bank. -/
def tileByte (s : State) (bank off : Nat) : Nat := (byteAt s.bm.tile (bank * 131072 + off)).toNat
def tileHalf (s : State) (bank off : Nat) : Nat := tileByte s bank off + 256 * tileByte s bank (off + 1)
def tileWord (s : State) (bank off : Nat) : Nat := tileHalf s bank off + 65536 * tileHalf s bank (off + 2)

/-- Descriptor word `i` of window k. -/
def winWord (s : State) (bank k i : Nat) : Nat := tileWord s bank (0x100 + 16 * k + 4 * i)

/-- Whether a bank enables window k. -/
def winEnabled (s : State) (bank k : Nat) : Bool := bitAt (winWord s bank k 1) 31

/-- A window as a bank describes it. -/
def bankWin (s : State) (bank k : Nat) : LegalWin :=
  let w0 := winWord s bank k 0
  let w1 := winWord s bank k 1
  ⟨k, bits w0 0 13, bits w0 16 13, bits w1 0 7, bits w1 8 7, bits (winWord s bank k 2) 0 13⟩

/-- The enabled windows of a bank. -/
def bankWins (s : State) (bank : Nat) : List LegalWin := ((List.range 4).filter (winEnabled s bank)).map (bankWin s bank)

/-- Reserved bits or values in an enabled window (R237). -/
def winReserved (s : State) (bank : Nat) (w : LegalWin) : Bool :=
  !(maskClear (winWord s bank w.k 0) 0x1FFF1FFF == 0) || !(maskClear (winWord s bank w.k 1) 0x80007F7F == 0) ||
  !(maskClear (winWord s bank w.k 2) 0x1FFF == 0) || !(winWord s bank w.k 3 == 0) ||
  w.w == 0 || decide (64 < w.w) || w.h == 0 || decide (64 < w.h) ||
  (List.range 16).any (fun i => !(bits (tileWord s bank (0x40 * w.k + 4 * i)) 30 2 == 0)) ||
  (List.range (w.w * w.h)).any (fun i => decide (w.map + i < 7680) && decide (896 ≤ tileHalf s bank (0x400 + 2 * (w.map + i))))

/-- Whether two windows overlap. -/
def winsOverlap (a b : LegalWin) : Bool :=
  decide (a.x < b.x + 16 * b.w) && decide (b.x < a.x + 16 * a.w) && decide (a.y < b.y + 16 * b.h) && decide (b.y < a.y + 16 * a.h)

/-- The pixels of a list of windows on a line. -/
def winLinePixels (ws : List LegalWin) (y : Nat) : Nat :=
  ws.foldl (fun n w => if w.y ≤ y ∧ y < w.y + 16 * w.h then n + 16 * w.w else n) 0

/-- The check of a named bank (R237): whether it is refused. -/
def bankRefusal (s : State) (bank : Nat) : Bool :=
  let ws := bankWins s bank
  ws.any (winReserved s bank) ||
  ws.any (fun a => ws.any (fun b => decide (a.k < b.k) && winsOverlap a b)) ||
  ws.any (fun w => decide (7680 < w.map + w.w * w.h)) ||
  ws.any (fun w => decide (1024 < winLinePixels ws w.y)) ||
  decide (262144 < ws.foldl (fun n w => n + 256 * w.w * w.h) 0)

/-- Whether a store to a bank is allowed (R221, R237): inactive, and not named by a BM_BANK write that is checked or waits. -/
def bankWritable (s : State) (bank : Nat) : Bool :=
  !(s.bm.bankActive == bank) && !(s.bm.bankPending == some bank) && !(s.bm.bankChecking == some bank)

/-- A write to BM_BANK (R237): ignored while CHECKING. -/
def bankRequest (s : State) (v : Nat) : State :=
  if legalRuns s && s.bm.bankChecking.isNone then setBm s { s.bm with bankChecking := some (v % 2) } else s

/-- The bank check ends (R237). -/
def bankChecked (s : State) : State :=
  match s.bm.bankChecking with
  | none => s
  | some bank =>
    if bankRefusal s bank then setBm s { s.bm with bankChecking := none, bankRefused := true }
    else setBm s { s.bm with bankChecking := none, bankRefused := false, bankPending := some bank }

/-! ### Legal pixels (R239 to R241) -/

/-- A Nat in decimal digits, as characters. -/
def decimalDigits : Nat → Nat → List Nat
  | 0, _ => []
  | fuel + 1, n => if n < 10 then [48 + n] else decimalDigits fuel (n / 10) ++ [48 + n % 10]

/-- A hexadecimal digit as an upper-case character. -/
def hexDigit (d : Nat) : Nat := if d < 10 then 48 + d else 55 + d

/-- The identification text (R241). -/
def idText (s : State) (counter : Nat) : List Nat :=
  [83, 87, 32] ++ (List.range 16).map (fun i => ((s.bm.swId[i]?).getD 0#8).toNat) ++ [32] ++
  (List.range 8).map (fun i => hexDigit (bits s.bm.checksum (4 * (7 - i)) 4)) ++ [32, 69, 67, 32] ++ decimalDigits 10 counter

/-- The window that the identification fills (R241): window 0, else the lowest-numbered shown. -/
def idWindow (s : State) : Option LegalWin := s.bm.wins.head?

/-- A pixel of a legal window as 12-bit colours (R239 to R241): the mark above all, then the identification, the error pattern, the tiles. -/
def legalWinPixel (s : State) (counter : Nat) (w : LegalWin) (dx dy : Nat) : Nat × Nat × Nat :=
  let white := (4095, 4095, 4095)
  let cell := dy / 16 * w.w + dx / 16
  if s.bm.mark && dy < 16 && dx < 32 then
    if bitAt (Config.glyphWord (65536 + dx / 16 * 16 + dy)) (dx % 16) then (0, 0, 0) else (4095, 4095, 0)
  else if s.bm.idShowing && (idWindow s).map LegalWin.k == some w.k then
    match (idText s counter)[cell]? with
    | some ch => if bitAt (Config.glyphWord (ch * 16 + dy % 16)) (dx % 16) then (0, 0, 0) else white
    | none => white
  else if s.bm.err then (if (dx + dy) / 8 % 2 = 0 then (4095, 0, 0) else white)
  else
    let pat := bits (tileHalf s s.bm.bankActive (0x400 + 2 * (w.map + cell))) 0 10
    let i := dy % 16 * 16 + dx % 16
    let v := bits (tileByte s s.bm.bankActive (0x4000 + 128 * pat + i / 2)) (4 * (i % 2)) 4
    let c := tileWord s s.bm.bankActive (0x40 * w.k + 4 * v)
    let e (n : Nat) : Nat := n * 4 + n / 256
    (e (bits c 20 10), e (bits c 10 10), e (bits c 0 10))

/-- The event counter as it stands (R243): the larger valid copy. -/
def ctrValid (c : Nat × Nat) : Bool := c.1 + c.2 == 0xFFFFFFFF
def eventCounter (s : State) : Nat :=
  let c := s.bm.ctl
  if ctrValid c.ctrA then (if ctrValid c.ctrB then max c.ctrA.1 c.ctrB.1 else c.ctrA.1) else c.ctrB.1

/-- The shown window that holds a composition pixel. -/
def legalWinAt (s : State) (x y : Nat) : Option LegalWin :=
  s.bm.wins.find? (fun w => decide (w.x ≤ x) && decide (x < w.x + 16 * w.w) && decide (w.y ≤ y) && decide (y < w.y + 16 * w.h))

/-- The legal pixel at a composition pixel and its window, if a window is shown there: what both renderers of R217 draw. -/
def legalPixel (s : State) (x y : Nat) : Option (Nat × Nat × Nat × Nat) :=
  if s.bm.state = bmOff then none
  else (legalWinAt s x y).map (fun w =>
    let (r, g, b) := legalWinPixel s (eventCounter s) w (x - w.x) (y - w.y)
    (w.k, r, g, b))

/-- The windows shown for a composition size, and whether one was left out (R238). -/
def frameWins (s : State) (bank w h : Nat) : List LegalWin × Bool :=
  let ws := bankWins s bank
  let fit (a : LegalWin) : Bool := decide (a.x + 16 * a.w ≤ w) && decide (a.y + 16 * a.h ≤ h)
  (ws.filter fit, !(ws.all fit))

/-- Starts the identification display of a request (R241). -/
def idStart (s : State) : State :=
  if s.bm.idRequest then
    let cut := match idWindow s with
      | some w => decide (w.w * w.h < (idText s (eventCounter s)).length)
      | none => true
    setBm s { s.bm with idRequest := false, idShowing := true, idTruncated := cut }
  else s

end Sys2Proof.Machine
end

