-- ==== Sys2Proof/Machine/SignalStore.lean ====
section
/-! DEFINITION. The signal store, engine 8 (02): staging, owner bits and precedence, the ingest queues, the commit walk, ageing, holds and clears. -/
namespace Sys2Proof.Machine

/-- Reset values of a signal's words and attribute byte (R46, R48). -/
def sigReset (_ : Nat) : Nat := 0x30000
def attrReset (_ : Nat) : Nat := 0xC0

/-- Staging word, display word, dirty bit and attribute byte of a signal. -/
def stagOf (s : State) (n : Nat) : Nat := mapGet sigReset s.ss.stag n
def dispOf (s : State) (n : Nat) : Nat := mapGet sigReset s.ss.disp n
def dirtyOf (s : State) (n : Nat) : Bool := mapGet (fun _ => false) s.ss.dirty n
def attrOf (s : State) (n : Nat) : Nat := mapGet attrReset s.ss.attr n

/-- Fields of a signal word (R46). -/
def sigValue (w : Nat) : Nat := bits w 0 16
def sigQuality (w : Nat) : Nat := bits w 16 3
def sigAlarm (w : Nat) : Nat := bits w 19 4
def sigUnack (w : Nat) : Bool := bitAt w 23
def sigShelved (w : Nat) : Bool := bitAt w 24
def sigAge (w : Nat) : Nat := bits w 25 7

/-- Fields of an attribute byte (R48). -/
def attrClass (a : Nat) : Nat := bits a 0 5
def attrAgeEn (a : Nat) : Bool := bitAt a 5
def attrOwner (a : Nat) : Nat := bits a 6 2

def kSsFlags : Nat := entryKey 0x2200 3
def kSsStatus : Nat := entryKey 0x2200 2

/-- The writer code of R59. -/
def writerCode : Writer → Nat
  | .proc p => p.val
  | .cop (.port k) => 9 + k.val
  | .cop .spi => 11
  | .cop (.proc p) => p.val
  | .bellmetal => 12

/-- The owner class a writer code belongs to (R48): 0 local, 1 network, 2 SPI host. -/
def ownerClass (code : Nat) : Nat := if code < 9 then 0 else if code < 11 then 1 else 2

/-- Whether the mirror signals of engine 19 hold this number (R51). -/
def isMirror (n : Nat) : Bool := decide (262080 ≤ n)

/-- Whether a write of a writer code to a signal's staging word passes the owner check (R57, R51). -/
def ownerOk (s : State) (n code : Nat) : Bool :=
  if code = 12 then isMirror n
  else !(isMirror n) && (attrOwner (attrOf s n) == 3 || attrOwner (attrOf s n) == ownerClass code)

/-- The record of a discarded write (R59). -/
def discardWord (n code : Nat) : Nat := n % 2 ^ 18 + code * 2 ^ 18 + 2 ^ 31

/-- An owner refusal: counted, flagged and recorded (R57). -/
def sigRefused (s : State) (n code : Nat) : State :=
  setFlag (setN (perfEvent (bump s (entryKey 0x2200 0x14)) 8 0x23 1) (entryKey 0x2200 0x0B) (discardWord n code)) kSsFlags 2

/-- A lost arbitration: counted, flagged and recorded (R58). -/
def sigSuperseded (s : State) (n code : Nat) : State :=
  setFlag (setN (perfEvent (bump s (entryKey 0x2200 0x13)) 8 0x22 1) (entryKey 0x2200 0x0A) (discardWord n code)) kSsFlags 1

/-- The staging word after an update's selected fields are replaced (R53); the age is never written (R47). -/
def mergeUpdate (old : Nat) (u : Update) : Nat :=
  let pick (b lo n w : Nat) : Nat := if bitAt u.fields b then putBits w lo n (bits u.word lo n) else w
  pick 4 24 1 (pick 3 23 1 (pick 2 19 4 (pick 1 16 3 (pick 0 0 16 old)))) % 2 ^ 25

/-- Writes an accepted update into staging and sets the dirty bit (R53). -/
def stageWrite (s : State) (u : Update) : State :=
  { s with ss := { s.ss with
      stag := mapSet sigReset s.ss.stag u.signal (mergeUpdate (stagOf s u.signal) u),
      dirty := mapSet (fun _ => false) s.ss.dirty u.signal true } }

/-- The update counter of a writer code: SS_CNT_NET, SS_CNT_SPI or SS_CNT_LOCAL; the mirror path has none. -/
def countWritten (s : State) (code : Nat) : State :=
  if code < 9 then bump s (entryKey 0x2200 0x12)
  else if code < 11 then bump s (entryKey 0x2200 0x10)
  else if code = 11 then bump s (entryKey 0x2200 0x11) else s

/-- Whether a selected quality or alarm field holds a reserved value (R46). -/
def badQuality (u : Update) : Bool := bitAt u.fields 1 && decide (5 < sigQuality u.word)
def badAlarm (u : Update) : Bool := bitAt u.fields 2 && decide (7 < sigAlarm u.word)

/-- The update that a record of R52 carries. -/
def decodeUpdate (r : UpdateRec) : Update :=
  { signal := bits r.control.toNat 0 18, word := r.word.toNat, fields := bits r.control.toNat 24 5 }

/-- Whether the control word has nonzero reserved bits (R52). -/
def controlReserved (r : UpdateRec) : Bool := !(bits r.control.toNat 18 6 == 0 && bits r.control.toNat 29 3 == 0)

/-- A local update with its reserved content handled (R54): a reserved quality or alarm value leaves that field unchanged and sets CFG_ERROR. -/
def cleanLocal (s : State) (u : Update) : Update × State :=
  let f1 := if badQuality u then putBits u.fields 1 1 0 else u.fields
  let f2 := if badAlarm u then putBits f1 2 1 0 else f1
  ({ u with fields := f2 }, if badQuality u || badAlarm u then setFlag s kSsFlags 4 else s)

/-- One write into staging by a writer code: the owner check, then the store, its counter. Answers the status of R407. -/
def stageBy (s : State) (u : Update) (code : Nat) : State × Nat :=
  if ownerOk s u.signal code then (perfEvent (countWritten (stageWrite s u) code) 8 0x20 1, 0)
  else (sigRefused s u.signal code, 4)

/-- A local update (R53, R54, R57): the staging view, the coprocessor port. Its reserved content is counted and flagged also when the owner check then
refuses it (DESIGN CHOICE, log 109). -/
def localUpdate (s : State) (r : UpdateRec) (code : Nat) : State :=
  let s1 := if controlReserved r then bump s (entryKey 0x2200 0x17) else s
  let (u, s2) := cleanLocal s1 (decodeUpdate r)
  (stageBy s2 u code).1

/-- A store of a word to the staging view selects all five fields (R53). -/
def stagingStore (s : State) (n : Nat) (w : Word) (code : Nat) : State :=
  let (u, s1) := cleanLocal s { signal := n, word := w.toNat, fields := 31 }
  (stageBy s1 u code).1

/-! ### Attribute bytes (R48, R51, R60) -/

/-- A local write of an attribute byte: refused only for the mirror signals. -/
def attrWrite (s : State) (n : Nat) (b : Nat) (code : Nat) : State :=
  if isMirror n && !(code == 12) then sigRefused s n code
  else { s with ss := { s.ss with attr := mapSet attrReset s.ss.attr n (b % 256) } }

/-! ### The ingest queues (R55, R56, R410) -/

/-- Notes the outcome of one record of a signal frame, if its reply is owed. -/
def noteRecord (s : State) (fr record status : Nat) : State :=
  { s with ss := { s.ss with replies := s.ss.replies.map (fun r =>
      if r.frame = fr then { r with left := r.left - 1, fails := if status = 0 then r.fails else r.fails ++ [(record, status)] } else r) } }

/-- The body of a signal frame's reply (R410). -/
def frameReplyBody (r : FrameReply) : List Byte :=
  toBytes 2 r.total ++ toBytes 2 r.fails.length ++ (r.fails.flatMap (fun f => toBytes 1 f.1 ++ toBytes 1 f.2 ++ toBytes 2 0))

/-- Sends the replies whose records have all been written or discarded (R410). -/
def finishReplies (s : State) : State :=
  let ready := s.ss.replies.filter (fun r => r.left == 0)
  { s with
    ss := { s.ss with replies := s.ss.replies.filter (fun r => !(r.left == 0)) },
    net := { s.net with replies := s.net.replies ++ ready.map (fun r => ⟨r.path, 0, r.src, 3, true, r.tag, r.key, 0, 0, frameReplyBody r⟩) } }

/-- The queue of a path, and its capacity (R56). -/
def queueFull (s : State) (spi : Bool) : Bool := if spi then decide (64 ≤ s.ss.spiQ.length) else decide (4096 ≤ s.ss.netQ.length)

/-- Appends an update to its path's queue. -/
def enqueue (s : State) (spi : Bool) (q : Queued) : State :=
  if spi then { s with ss := { s.ss with spiQ := s.ss.spiQ ++ [q] } } else { s with ss := { s.ss with netQ := s.ss.netQ ++ [q] } }

/-- Arrival of one record of a signal frame: discarded when domain 13 is off (DEPENDENCY), dropped when the queue is full (BUSY),
rejected for reserved content (BAD_VALUE), else queued: in this order, and reserved content is examined before the owner (DESIGN CHOICE, log 108). A
local frame is written at once as its processor's updates (R410). -/
def arrive (s : State) (path : CopPath) (fr record : Nat) (r : UpdateRec) : State :=
  if !(engineOn s 8) then noteRecord s fr record 6
  else match path with
    | .proc p =>
      let s1 := if controlReserved r then bump s (entryKey 0x2200 0x17) else s
      let (u, s2) := cleanLocal s1 (decodeUpdate r)
      let (s3, st) := stageBy s2 u p.val
      noteRecord s3 fr record st
    | _ =>
      let spi := path == .spi
      let u := decodeUpdate r
      let code := writerCode (.cop path)
      if queueFull s spi then noteRecord (healthEvent (setFlag (perfEvent (bump s (entryKey 0x2200 0x15)) 8 0x24 1) kSsFlags 0) 12) fr record 3
      else if controlReserved r || badQuality u || badAlarm u then
        noteRecord (healthEvent (setFlag (bump s (entryKey 0x2200 0x16)) kSsFlags 5) 12) fr record 2
      else enqueue s spi { upd := u, writer := code, frame := fr, record := record }

/-- A signal frame (R410): its records enter in message order, and a reply is owed when one was asked for. -/
def signalFrame (s : State) (h : CopHdr) (records : List UpdateRec) : State :=
  let fr := s.ss.nextFrame
  let s1 := { s with ss := { s.ss with
    nextFrame := fr + 1,
    replies := if h.replyReq then s.ss.replies ++ [⟨fr, h.path, h.src, h.tag, h.key, records.length, records.length, []⟩] else s.ss.replies } }
  finishReplies ((records.zipIdx).foldl (fun t r => arrive t h.path fr r.2 r.1) s1)

/-- Writes of one engine clock that target one signal: the highest precedence takes effect, the others are superseded (R58). -/
structure Contender where
  upd : Update
  code : Nat
  from_ : Option (Nat × Nat)
  deriving DecidableEq, Repr

/-- Precedence of a writer code, highest last: local, network, SPI host, Bellmetal. -/
def precedence (code : Nat) : Nat := if code < 9 then 0 else if code < 11 then 1 else if code = 11 then 2 else 3

/-- Notes a contender's status to its signal frame. -/
def noteContender (s : State) (c : Contender) (status : Nat) : State :=
  match c.from_ with
  | some (fr, rec) => noteRecord s fr rec status
  | none => s

/-- One contender among those that passed the owner check. -/
def contend (passed : List Contender) (s : State) (c : Contender) : State :=
  if passed.any (fun d => d.upd.signal == c.upd.signal && decide (precedence c.code < precedence d.code)) then
    noteContender (sigSuperseded s c.upd.signal c.code) c 5
  else noteContender (countWritten (stageWrite s c.upd) c.code) c 0

/-- The staging writes of one engine clock (R57, R58): refused ones never compete. They are handled in the order of the list, network, SPI host, local,
and the last refused and the last superseded stay in their records (R59; DESIGN CHOICE, log 110). -/
def stageClock (s : State) (cs : List Contender) : State :=
  let passed := cs.filter (fun c => ownerOk s c.upd.signal c.code)
  let refused := cs.filter (fun c => !(ownerOk s c.upd.signal c.code))
  let s1 := refused.foldl (fun t c => noteContender (sigRefused t c.upd.signal c.code) c 4) s
  finishReplies (passed.foldl (contend passed) s1)

/-- The head of an ingest queue as a contender. -/
def headOf (q : List Queued) : List Contender :=
  match q with
  | [] => []
  | h :: _ => [{ upd := h.upd, code := h.writer, from_ := some (h.frame, h.record) }]

/-- The rivals' updates with their reserved content handled (R54). -/
def cleanRivals (s : State) : List LocalUpdate → State × List Contender
  | [] => (s, [])
  | r :: rs =>
    let s1 := if controlReserved r.update then bump s (entryKey 0x2200 0x17) else s
    let (u, s2) := cleanLocal s1 (decodeUpdate r.update)
    let (s3, cs) := cleanRivals s2 rs
    (s3, { upd := u, code := writerCode r.writer, from_ := none } :: cs)

/-- The oldest queued updates of the named paths, and any rivals of the same clock, reach staging. -/
def stageUpdate (s : State) (fromNet fromSpi : Bool) (rivals : List LocalUpdate) : State :=
  if !(engineOn s 8) then s
  else
    let net := if fromNet then headOf s.ss.netQ else []
    let spi := if fromSpi then headOf s.ss.spiQ else []
    let s1 := { s with ss := { s.ss with
      netQ := if fromNet then s.ss.netQ.drop 1 else s.ss.netQ, spiQ := if fromSpi then s.ss.spiQ.drop 1 else s.ss.spiQ } }
    let (s2, loc) := cleanRivals s1 rivals
    stageClock s2 (net ++ spi ++ loc)

/-- Every queued update is discarded with a status, and the replies that waited for them are owed (R56, R410): DEPENDENCY at a switch-off, BUSY where
step 2 of the recovery ladder discards them (DESIGN CHOICE, log 115). -/
def discardQueued (s : State) (status : Nat) : State :=
  finishReplies ((s.ss.netQ ++ s.ss.spiQ).foldl (fun t q => noteRecord t q.frame q.record status) { s with ss := { s.ss with netQ := [], spiQ := [] } })

/-! ### The commit walk (R61 to R68) -/

/-- Processing of one signal in the walk: R62, or the clear of R68. -/
def walkSignal (w : Walk) (s : State) (n : Nat) : State :=
  let a := attrOf s n
  if dirtyOf s n && !w.held then
    { s with ss := { s.ss with
      disp := mapSet sigReset s.ss.disp n (stagOf s n % 2 ^ 25),
      dirty := mapSet (fun _ => false) s.ss.dirty n false,
      walk := s.ss.walk.map (fun x => { x with copied := x.copied + 1 }) } }
  else if attrAgeEn a && w.frame % 2 ^ (fld s (entryKey 0x2202 (attrClass a)) 1 3) == 0 then
    { s with ss := { s.ss with disp := mapSet sigReset s.ss.disp n (putBits (dispOf s n) 25 7 (min (sigAge (dispOf s n) + 1) 127)) } }
  else s

/-- The listed keys of a map in a range of groups. -/
def keysIn {α : Type} (m : SMap α) (lo hi : Nat) : List Nat := (m.map Prod.fst).filter (fun n => decide (lo ≤ n / 8) && decide (n / 8 < hi))

/-- Clears the words or attributes of a range of groups (R68); the mirror signals keep their attribute bytes. -/
def clearGroups (w : Walk) (s : State) (lo hi : Nat) : State :=
  let inR (n : Nat) : Bool := decide (lo ≤ n / 8) && decide (n / 8 < hi)
  let ss1 := if w.clearSig then { s.ss with stag := mapDrop inR s.ss.stag, disp := mapDrop inR s.ss.disp, dirty := mapDrop inR s.ss.dirty }
    else s.ss
  { s with ss := if w.clearAttr then { ss1 with attr := mapDrop (fun n => inR n && !(isMirror n)) ss1.attr } else ss1 }

/-- The clear of step 10 of a start, as that of R68 (R69): it spares the attribute bytes of the mirror signals. -/
def startClear (s : State) : State :=
  { s with ss := { s.ss with stag := [], disp := [], dirty := [], heldRun := 0, attr := mapDrop (fun n => !(isMirror n)) s.ss.attr } }

/-- Processes groups `lo` to `hi - 1` of the walk: only signals that are dirty or age change, and both are listed. -/
def walkGroups (w : Walk) (s : State) (lo hi : Nat) : State :=
  let s1 :=
    if w.clearSig then s
    else ((keysIn s.ss.dirty lo hi ++ (keysIn s.ss.attr lo hi).filter (fun n => !(dirtyOf s n)))).foldl (walkSignal w) s
  clearGroups w s1 lo hi

/-- The walk completes: the counts and frame are published and source 128 asserts (R62, R68). -/
def walkDone (s : State) : State :=
  match s.ss.walk with
  | none => s
  | some w =>
    let s1 := perfEvent { s with ss := { s.ss with walk := none } } 8 0x21 w.copied
    let s2 := setN (setN s1 (entryKey 0x2200 9) (if w.clearSig || w.clearAttr then 0 else w.copied)) (entryKey 0x2200 8) w.frame
    icAssert (setFld s2 kSsStatus 0 1 0) 128

/-- Runs the walk from its next group through `hi`. -/
def walkTo (s : State) (hi : Nat) : State :=
  match s.ss.walk with
  | none => s
  | some w =>
    let s1 := walkGroups w s w.group hi
    { s1 with ss := { s1.ss with walk := s1.ss.walk.map (fun x => { x with group := hi }) } }

/-- Number of groups of the walk (R61). -/
def walkGroupsAll : Nat := 32768

/-- The rest of the walk runs and completes. -/
def walkFinish (s : State) : State := walkDone (walkTo s walkGroupsAll)

/-- One engine clock of the walk. -/
def walkTick (s : State) : State :=
  match s.ss.walk with
  | none => s
  | some w => if w.group + 1 < walkGroupsAll then walkTo s (w.group + 1) else walkFinish s

/-- The commit instant of the signal store for frame f (R61, R65, R68): the class latch, the hold decision, the start of the walk. A walk that is not
finished is completed first (DESIGN CHOICE, log 112). -/
def ssCommit (s : State) (f : Nat) : State :=
  if !(engineOn s 8) then s
  else
    let s0 := walkFinish s
    let s1 := (List.range 32).foldl (fun t c => regSet t (entryKey 0x2202 c) (regGet t (entryKey 0x2201 c))) s0
    let clear := s1.ss.clearReq
    let hold := flag s1 (entryKey 0x2200 1) 0
    let limit := regN s1 (entryKey 0x2200 5)
    let held := clear == 0 && hold && decide (s1.ss.heldRun < limit)
    let expired := clear == 0 && hold && !(decide (s1.ss.heldRun < limit))
    let s2 := { s1 with ss := { s1.ss with
      clearReq := 0,
      heldRun := if held then s1.ss.heldRun + 1 else 0,
      walk := some { frame := f, group := 0, held := held, clearSig := bitAt clear 0, clearAttr := bitAt clear 1, copied := 0 } } }
    let s3 := setN s2 kSsStatus (1 + (if held then 2 else 0))
    let s4 := if expired then setFlag s3 kSsFlags 3 else s3
    if held then icAssert s4 129 else s4

/-- A write to SS_CLEAR (R68): pending until the next commit instant. -/
def ssClearReq (s : State) (v : Nat) : State :=
  if maskAnd v 3 == 0 then s
  else setFld { s with ss := { s.ss with clearReq := s.ss.clearReq ||| maskAnd v 3 } } kSsStatus 2 1 1

/-- A mirror write by engine 19 (R51). -/
def mirrorWrite (s : State) (n w : Nat) : State := if engineOn s 8 then (stageBy s { signal := n, word := w, fields := 31 } 12).1 else s

end Sys2Proof.Machine
end

