-- ==== Sys2Proof/Machine/Bellmetal.lean ====
section
/-! DEFINITION. Bellmetal, engine 19 (09): start and restart, records and the event counter, sessions, the legal commit, re-verification, compaction,
watchdog, the identification and its mirror entries. -/
namespace Sys2Proof.Machine

/-! ### MRAM, audit records and the event counter (R228, R243, R244) -/

/-- Bytes of the MRAM. -/
def mramBytes (s : State) (a n : Nat) : List Byte := readBytes 1048576 s.bm.mram a n
def mramWord (s : State) (a : Nat) : Nat := ofBytes (mramBytes s a 4)
def mramPut (s : State) (a : Nat) (b : List Byte) : State := setBm s { s.bm with mram := writeBytes 1048576 s.bm.mram a b }

/-- What the control rows hold (R228): both copies of the counter and of the slot pointer, the session marker, the commit intent, the ring pointers,
SEAL_BROKEN, the seal generation. -/
def controlRows (s : State) : List Nat :=
  let c := s.bm.ctl
  let ptr (p : Option SlotPtr) : List Nat := match p with
    | some q => [1, q.slot, q.gen]
    | none => [0, 0, 0]
  [c.ctrA.1, c.ctrA.2, c.ctrB.1, c.ctrB.2] ++ ptr c.ptrA ++ ptr c.ptrB ++ (match c.marker with
    | some (t, w) => [1, t, if w then 1 else 0]
    | none => [0, 0, 0]) ++ (match c.intent with
    | some (n, o) => [1, n, o]
    | none => [0, 0, 0]) ++ [c.head, c.tail, if c.broken then 1 else 0, c.sealGen]

/-- Bytes as the legal core loads them: the control rows are held apart. -/
def mramLoad (s : State) (a n : Nat) : List Byte := (List.range n).map (fun i =>
  let x := (a + i) % 1048576
  if 0xC0000 ≤ x ∧ x < 0xC1000 then Config.controlByte (controlRows s) (x - 0xC0000) else byteAt s.bm.mram x)

/-- Replaces the control rows. -/
def setCtl (s : State) (c : BmControl) : State := setBm s { s.bm with ctl := c }

/-- The offset of the record with a sequence number (R228, R245). -/
def recordAt (seq : Nat) : Nat := 0x60000 + seq % 4096 * 64

/-- Free records of the ring. -/
def auditFree (s : State) : Nat := 4096 - (s.bm.ctl.head - s.bm.ctl.tail)

/-- The FLAGS byte of a record (R244). -/
def recordFlags (s : State) : Nat :=
  (if s.tb.sync then 1 else 0) + (if s.bm.sealClosed then 2 else 0) + (if s.bm.ctl.broken then 4 else 0) +
    8 * s.sec.fuses.lifecycle

/-- The bytes of a record: byte 18 counts as zero in the CRC (R244). -/
def recordBytes (s : State) (seq ec typ source status : Nat) (payload : List Byte) : List Byte :=
  let front (st : Nat) := toBytes 4 seq ++ toBytes 4 ec ++ toBytes 8 s.tb.ns ++ toBytes 1 typ ++ toBytes 1 source ++ toBytes 1 st ++
    toBytes 1 (recordFlags s) ++ toBytes 4 s.bm.checksum ++ (payload ++ List.replicate 32 0#8).take 32 ++ toBytes 4 0
  front status ++ toBytes 4 (crc32 (front 0))

/-- Writes an audit record, or sets AUDIT_LOST when none is free (R245). -/
def auditWrite (s : State) (ec typ source status : Nat) (payload : List Byte) : State :=
  if auditFree s = 0 then setBm s { s.bm with auditLost := true }
  else
    let seq := s.bm.ctl.head
    let s1 := mramPut s (recordAt seq) (recordBytes s seq ec typ source status payload)
    setCtl s1 { s1.bm.ctl with head := seq + 1 }

/-- A hardware record that does not count. -/
def hwRecord (s : State) (typ : Nat) (payload : List Byte) : State := auditWrite s (eventCounter s) typ 0 0 payload

/-- Advances the seal generation (R227). -/
def sealGenUp (s : State) : State := setCtl s { s.bm.ctl with sealGen := (s.bm.ctl.sealGen + 1) % 2 ^ 32 }

/-- Sets both copies of the event counter, A and then B; source 307 (R243). -/
def setCounter (s : State) (n : Nat) : State :=
  icAssert (setCtl s { s.bm.ctl with ctrA := (n, 0xFFFFFFFF - n), ctrB := (n, 0xFFFFFFFF - n) }) 307

/-- The event counter after one more event; it is never reset and does not pass its last value (R243). -/
def nextCount (s : State) : Nat := min (eventCounter s + 1) 0xFFFFFFFF

/-- An event that increments the counter: seal generation and source 307 (R227, R243). -/
def countEvent (s : State) : State := sealGenUp (setCounter s (nextCount s))

/-! ### The hardware parameter block (R229) -/

/-- Whether the block's CRC is good and none of its words is reserved. -/
def paramsOk (s : State) : Bool :=
  let w (i : Nat) : Nat := mramWord s (0xB0000 + 4 * i)
  w 15 == crc32 (mramBytes s 0xB0000 60) && !(bits (w 0) 0 4 == 0) && decide (w 0 < 16) && decide (1 ≤ w 1) && decide (w 1 ≤ 60) &&
    decide (w 2 < 8) && (List.range 12).all (fun i => w (3 + i) == 0)

/-- LEGAL_N of the block, or its default while the block is not good. -/
def legalN (s : State) : Nat := if paramsOk s then bits (mramWord s 0xB0000) 0 4 else 3

/-! ### Mirror entries (R254) -/

/-- A load-cell channel. -/
def chanOf (s : State) (n : Nat) : LoadChan := mapGet (fun _ => {}) s.bm.chans n

/-- A calibration of any channel, or a sweep, is running (R235). -/
def calBusy (s : State) : Bool := s.bm.lop == 3 || s.bm.chans.any (fun e => e.2.calibrating)

/-- BM_CHn_STATUS (R235). -/
def chanStatus (s : State) (n : Nat) : Nat :=
  let c := chanOf s n
  let b (x : Bool) (k : Nat) : Nat := if x then 2 ^ k else 0
  c.cfg % 256 + b (calBusy s) 8 + c.sticky + b c.refLow 11 + b (s.bm.fallback || c.supplyLow) 12 + b c.calibrating 13

/-- The entries of 24C0 and 24C1 that copy a number of the partition while domain 4 is on (R254). -/
def lglCopy (s : State) (idx sub : Nat) : Option Nat :=
  if idx = 0x24C1 then some (chanStatus s (sub - 1) % 8192)
  else if idx = 0x24C0 then
    (if sub = 3 then some s.bm.checksum else if sub = 4 then some s.bm.version else if sub = 5 then some (eventCounter s)
    else if sub = 6 then some s.bm.ctl.sealGen else if sub = 7 then s.bm.ctl.ptrA.map (fun p => p.slot) else if sub = 8 then some s.bm.ctl.head
    else if sub = 9 then some s.bm.ctl.tail else if sub = 0xD then some (ofSigned 32 s.bm.temp) else none)
  else none

/-- Publishes the entries of 24C0 that keep their values when domain 4 goes off. -/
def bmPublish (s : State) : State :=
  if domainOn s 8 && domainOn s 4 then
    let put (idx : Nat) (t : State) (sub : Nat) : State := match lglCopy s idx sub with
      | some v => setN t (entryKey idx sub) v
      | none => t
    [1, 2, 3, 4].foldl (put 0x24C1) ([3, 4, 5, 6, 7, 8, 9, 0xD].foldl (put 0x24C0) (blobSet s (entryKey 0x24C0 2) s.bm.swId))
  else s

/-- LGL_STATE (R254): while domain 4 is off it reads 0. -/
def lglState (s : State) : Nat :=
  if s.bm.state = bmOff then 0
  else
    let b (x : Bool) (n : Nat) : Nat := if x then 2 ^ n else 0
    s.bm.state + b s.bm.sealClosed 3 + b s.bm.ctl.broken 4 + b s.bm.err 5 + b s.bm.idShowing 6 + b (!(s.bm.sessionType == 0)) 7 +
      b s.bm.ctl.intent.isSome 8 + b s.tb.sync 9 + b s.bm.fallback 10 + b s.bm.clipped 11 + b (decide (auditFree s ≤ 17)) 12 +
      b s.bm.auditLost 13 + b (!(paramsOk s)) 14 + b s.bm.idTruncated 15

/-- LGL_WINk_POS and LGL_WINk_SIZE (R254). -/
def lglWin (s : State) (k : Nat) (size : Bool) : Nat :=
  match s.bm.wins.find? (fun w => w.k == k) with
  | some _ => if s.bm.state = bmOff then 0 else winWord s s.bm.bankActive k (if size then 1 else 0)
  | none => 0

/-- Progress of a long operation: unit, value, operation (R254). -/
def bmProgress (s : State) (unit value op : Nat) : State :=
  if domainOn s 8 then setN (setN (setN s (entryKey 0x24C0 0xA) unit) (entryKey 0x24C0 0xB) value) (entryKey 0x24C0 0xC) op else s

/-- A long operation starts. -/
def bmLongStart (s : State) (op arg : Nat) : State :=
  bmProgress (setBm s { s.bm with lop := op, lopArg := arg }) (if op = 4 then 2 else 1) 0 op

/-- A long operation ends: source 310 and slot 27 (28 for a calibration sweep) (R223, R256). -/
def bmLongEnd (s : State) : State :=
  let op := s.bm.lop
  bmLatch (icAssert (bmProgress (setBm s { s.bm with lop := 0, lopArg := 0 }) 0 0 op) 310) (if op = 3 then 28 else 27)

/-! ### Firmware images (R230, R447, R448, R450) -/

/-- The base of a firmware slot. -/
def slotBase (slot : Nat) : Nat := slot % 2 * 0x30000

/-- Code and data lengths of a slot's image. -/
def imgCode (s : State) (slot : Nat) : Nat := mramWord s (slotBase slot)
def imgData (s : State) (slot : Nat) : Nat := mramWord s (slotBase slot + 4)

/-- Whether an image's header keeps R230. -/
def imgHeaderOk (s : State) (slot : Nat) : Bool :=
  let c := imgCode s slot
  let d := imgData s slot
  c % 4 == 0 && decide (c ≤ 131072) && d % 4 == 0 && decide (d ≤ 65536) && decide (64 + c + d + 128 ≤ 196608) &&
    (mramBytes s (slotBase slot + 8) 16).all (fun b => decide (0x20 ≤ b.toNat) && decide (b.toNat ≤ 0x7E)) &&
    (mramBytes s (slotBase slot + 28) 36).all (· == 0#8)

/-- The digest of header, code and data. -/
def imgDigest (s : State) (slot : Nat) : List Byte := sha256 (mramBytes s (slotBase slot) (64 + imgCode s slot + imgData s slot))

/-- The software checksum (R230): bytes 0 to 3 of the digest, big-endian. -/
def imgChecksum (s : State) (slot : Nat) : Nat := ofBytesBE ((imgDigest s slot).take 4)

/-- The result of verifying a slot, a code of R450. -/
def imgVerify (s : State) (slot : Nat) : Nat :=
  if imgHeaderOk s slot then
    verifyImage s.sec.fuses.legalHash (mramBytes s (slotBase slot + 64 + imgCode s slot + imgData s slot) 128) (imgDigest s slot)
  else 1

/-- Records the last legal verification in SEC_BOOT_STATUS while engine 36 is on. -/
def noteVerify (s : State) (code : Nat) : State := if domainOn s 8 then setFld s (entryKey 0x2900 4) 4 4 code else s

/-- The active slot: the valid copy of the pointer with the higher generation (R243). -/
def activePtr (s : State) : Option SlotPtr :=
  match s.bm.ctl.ptrA, s.bm.ctl.ptrB with
  | some a, some b => if a.gen < b.gen then some b else some a
  | some a, none => some a
  | none, b => b

def activeSlot (s : State) : Nat := match activePtr s with
  | some p => p.slot
  | none => 0

/-- Points both copies at a slot with a new generation (R251, R252). -/
def pointTo (s : State) (slot : Nat) : State :=
  let g := match activePtr s with
    | some p => p.gen + 1
    | none => 1
  setCtl s { s.bm.ctl with ptrA := some ⟨slot, g⟩, ptrB := some ⟨slot, g⟩ }

/-- The identification of the active image: SW_ID, checksum, VERSION (R230). -/
def readIdentity (s : State) : State :=
  let b := slotBase (activeSlot s)
  setBm s { s.bm with swId := mramBytes s (b + 8) 16, checksum := imgChecksum s (activeSlot s), version := mramWord s (b + 24) }

/-! ### The legal commit (R251, R252) -/

/-- Payload of an FW_COMMIT record: old and new checksum, new SW_ID, old and new VERSION. -/
def commitPayload (s : State) (slot oldSum : Nat) : List Byte :=
  toBytes 4 oldSum ++ toBytes 4 (imgChecksum s slot) ++ mramBytes s (slotBase slot + 8) 16 ++
    mramBytes s (slotBase (1 - slot % 2) + 24) 4 ++ mramBytes s (slotBase slot + 24) 4

/-- Changes the STATUS byte of the newest record. -/
def newestStatus (s : State) (st : Nat) : State := mramPut s (recordAt (s.bm.ctl.head - 1) + 18) (toBytes 1 st)

/-- Whether the newest record is an FW_COMMIT that reads PENDING. -/
def commitPending (s : State) : Bool :=
  decide (s.bm.ctl.tail < s.bm.ctl.head) &&
    (mramBytes s (recordAt (s.bm.ctl.head - 1) + 16) 1 == [3#8]) && (mramBytes s (recordAt (s.bm.ctl.head - 1) + 18) 1 == [1#8])

/-- A re-verification or a completed commit clears SEAL_BROKEN and writes a REVERIFIED record; not in RETURNED (R240, R446). -/
def sealMended (s : State) : State :=
  if s.sec.fuses.lifecycle = 3 then s
  else hwRecord (if s.bm.ctl.broken then sealGenUp (setCtl s { s.bm.ctl with broken := false }) else s) 6 []

/-- Steps 3 to 5 of a commit that are missing: the record and the counter, the pointers, the final status, the intent cleared. -/
def commitFinish (s : State) (slot oldSum status : Nat) : State :=
  let s1 := if commitPending s then s
    else countEvent (auditWrite s (nextCount s) 3 0 1 (commitPayload s slot oldSum))
  let s2 := if activeSlot s1 = slot then
      setCtl s1 { s1.bm.ctl with ptrA := activePtr s1, ptrB := activePtr s1 }
    else pointTo s1 slot
  let s3 := newestStatus s2 status
  sealMended (setCtl s3 { s3.bm.ctl with intent := none })

/-- A commit that rolls back at step 2 or at start (R251, R252): a record written at start counts (R244). -/
def commitRollBack (s : State) (slot oldSum : Nat) (atStart : Bool) : State :=
  let s1 := if commitPending s then newestStatus s 3
    else if atStart then countEvent (auditWrite s (nextCount s) 3 0 3 (commitPayload s slot oldSum))
    else auditWrite s (eventCounter s) 3 0 3 (commitPayload s slot oldSum)
  let s2 := if atStart then pointTo s1 (1 - slot % 2) else s1
  setCtl s2 { s2.bm.ctl with intent := none }

/-! ### Sessions (R242) -/

/-- Why a session or a commit cannot begin: 0 OK, else the RESULT code of BM_SESSION. -/
def sessionBar (s : State) : Nat :=
  if !s.bm.sealClosed then 1
  else if !(s.bm.sessionType == 0) || s.bm.ctl.intent.isSome then 4
  else if auditFree s < 17 then 2
  else if eventCounter s = 0xFFFFFFFF then 3 else 0

/-- Opens a session of type 1 PARAM or 2 CALIBRATION; another value is reserved and opens nothing. -/
def sessionOpen (s : State) (typ : Nat) : State :=
  if !(legalRuns s) || !(typ == 1 || typ == 2) then s
  else
    let r := sessionBar s
    if r = 0 then
      setBm s { s.bm with sessionType := typ, sessionWritten := false, sessionResult := 0, ctl := { s.bm.ctl with marker := some (typ, false) } }
    else setBm s { s.bm with sessionResult := r }

/-- The payload registers as bytes. -/
def sessionPayload (s : State) : List Byte := (List.range 8).flatMap (fun i => toBytes 4 (mapGet (fun _ => 0#32) s.bm.payload i).toNat)

/-- Closes the open session with a status: when written, the record, the counter copies, then the marker. -/
def sessionEnd (s : State) (status : Nat) : State :=
  match s.bm.ctl.marker with
  | none => s
  | some (typ, written) =>
    let s1 := if written then countEvent (auditWrite s (nextCount s) typ 1 status (sessionPayload s)) else s
    bmLatch (setBm s1 { s1.bm with sessionType := 0, sessionWritten := false, ctl := { s1.bm.ctl with marker := none } }) 27

/-- A write of 0 to BM_SESSION. -/
def sessionClose (s : State) : State := if legalRuns s && !(s.bm.sessionType == 0) then sessionEnd s 0 else s

/-! ### Start (R225 to R227) -/

/-- What domain 4 loses or a restart clears: the partition registers at their reset values, long operations, display requests, the serial buffers. -/
def bmClear (b : Bellmetal) : Bellmetal :=
  { b with
    sessionType := 0, sessionWritten := false, sessionResult := 0, payload := [], lop := 0, lopArg := 0, bankPending := none, bankChecking := none,
    bankRefused := false, errRelease := false, escalated := false, idRequest := false, idShowing := false, grant := false, watchdog := 0,
    wdHalf := false, irqEn := 0, latched := [], mirrorSel := 0, inFull := false, inLen := 0, inBox := [], outValid := false, outLen := 0,
    outBox := [], hwFrames := false, bootFail := 0,
    chans := b.chans.map (fun e => (e.1, { e.2 with cfg := 0x8010E, sticky := 0, calibrating := false, fifo := [], since := 0, settle := 0 })),
    ser := { b.ser with rx := [], rxRead := 0, txBuf := [], txReady := true, queued := none, flags := 0, txDone := false } }

/-- Resolves the event counter copies at step 2 (R243); `none` when neither copy decides. -/
def resolveCounter (s : State) : Option Nat :=
  let a := s.bm.ctl.ctrA
  let b := s.bm.ctl.ctrB
  let base :=
    if ctrValid a && ctrValid b then
      (if a.1 = b.1 then some a.1 else if a.1 + 1 = b.1 then some b.1 else if b.1 + 1 = a.1 then some a.1 else none)
    else if ctrValid a then some a.1 else if ctrValid b then some b.1 else none
  base.map (fun n =>
    let r := mramBytes s (recordAt (s.bm.ctl.head - 1)) 64
    let good := decide (s.bm.ctl.tail < s.bm.ctl.head) && ofBytes (r.drop 60) == crc32 (r.take 18 ++ [0#8] ++ (r.drop 19).take 41)
    if good && ofBytes ((r.drop 4).take 4) == n + 1 then n + 1 else n)

/-- Steps 1 to 3 of R225 from OFF or RESTARTING: the reset, the control rows, an interrupted session, a commit intent. -/
def bmStart (s : State) : State :=
  if !(domainOn s 4 && domainOn s 6) || !(s.bm.state == bmOff || s.bm.state == bmRestarting) then s
  else
    let s0 := if s.bm.inFull then icAssert s 306 else s
    let s1 := bmEnter (setBm (resetCore s0 9 0) (bmClear s0.bm)) bmBooting
    let s2 := setBm s1 { s1.bm with
      fallback := s1.bm.fallback && !(flag s1 (entryKey 0x2040 0x0C) 6) }
    match resolveCounter s2, activePtr s2 with
    | some n, some p =>
      let s3 := setCtl s2 { s2.bm.ctl with ctrA := (n, 0xFFFFFFFF - n), ctrB := (n, 0xFFFFFFFF - n), ptrA := some p, ptrB := some p }
      let s4 := if n = eventCounter s2 then s3 else icAssert (sealGenUp s3) 307
      let s5 := readIdentity s4
      let s6 := sessionEnd (setBm s5 { s5.bm with hwFrames := true }) 5
      let s7 := setBm s6 { s6.bm with latched := [] }
      match s7.bm.ctl.intent with
      | none => bmPublish s7
      | some (slot, oldSum) =>
        let s8 := bmLongStart s7 2 slot
        let s9 := if imgVerify s8 slot = 0 then commitFinish s8 slot oldSum 2 else commitRollBack s8 slot oldSum true
        bmPublish (readIdentity (bmLongEnd s9))
    | _, _ => setBm s2 { s2.bm with bootFail := 2, hwFrames := true }

/-- Step 4 (R225): the active image's code and data are copied, as far as the RAMs hold (DESIGN CHOICE, log 102). -/
def imgCopy (s : State) (slot : Nat) : State :=
  let c := min (imgCode s slot) 131072
  loadDram (loadIram s 9 0 (mramBytes s (slotBase slot + 64) c)) 9 0 (mramBytes s (slotBase slot + 64 + imgCode s slot) (min (imgData s slot) 65536))

/-- Steps 4 to 7: the image is copied and verified, the parameter block checked, the legal core released; or LEGAL_HALT (R225, R226). -/
def bmBootDone (s : State) : State :=
  if !(s.bm.state == bmBooting) then s
  else
    let slot := activeSlot s
    let code := imgVerify s slot
    let s0 := if s.bm.bootFail = 0 then noteVerify (imgCopy s slot) code else s
    let failed := if s.bm.bootFail = 0 then (if code = 0 then 0 else 5) else s.bm.bootFail
    let note (t : State) : State := if domainOn t 8 then setN t (entryKey 0x24C0 0xE) failed else t
    if failed = 0 then
      let s2 := sealGenUp s0
      let s3 := setCore s2 9 (freshCore (coreOf s2 9) 1)
      bmPublish (note (bmEnter s3 bmRunning))
    else bmPublish (note (bmEnter (hwRecord s0 9 (toBytes 1 failed)) bmHalted))

/-- A restart from step 1 (R225): the legal core is held, hardware frames are still answered from the state resolved before. -/
def bmRestart (s : State) : State :=
  let s1 := setBm (resetCore s 9 0) { s.bm with hwFrames := s.bm.hwFrames, watchdog := 0, wdHalf := false }
  bmEnter s1 bmRestarting

/-- BM_RESTART (R222): the legal core restarts the partition. -/
def bmRestartReq (s : State) : State := if legalRuns s then bmRestart s else s

/-- BM_WATCHDOG (R222). -/
def bmWatchdogWrite (s : State) (v : Nat) : State :=
  if legalRuns s then setBm s { s.bm with watchdog := v % 256, wdHalf := false } else s

/-- The watchdog reaches half its period (R223). -/
def bmWatchdogHalf (s : State) : State :=
  if legalRuns s && !(s.bm.watchdog == 0) then setBm s { s.bm with wdHalf := true } else s

/-- The watchdog expires (R224): a WATCHDOG record and a restart. -/
def bmWatchdogExpire (s : State) : State :=
  if legalRuns s && !(s.bm.watchdog == 0) then bmPublish (bmRestart (hwRecord s 0xC [])) else s

/-! ### SEAL_SW, commit, re-verification, compaction -/

/-- The debounced SEAL_SW changes (R246): slot 24, source 309; opening it aborts a session (R242). -/
def sealSwitch (s : State) (closed : Bool) : State :=
  if !(domainOn s 4) || s.bm.sealClosed == closed then s
  else
    let s1 := bmLatch (icAssert (setBm s { s.bm with sealClosed := closed }) 309) 24
    bmPublish (if !closed && !(s.bm.sessionType == 0) then sessionEnd s1 4 else s1)

/-- BM_FW_COMMIT.GO (R251): step 1, or refused with a RESULT. -/
def fwCommit (s : State) : State :=
  if !(legalRuns s) then s
  else
    let r := sessionBar s
    if r = 0 ∧ s.bm.lop = 0 then
      bmLongStart (setCtl s { s.bm.ctl with intent := some (1 - activeSlot s % 2, s.bm.checksum) }) 2 0
    else setBm s { s.bm with sessionResult := if r = 0 then 4 else r }

/-- The verification of the new slot ends (R251): roll back at step 2, or steps 3 to 5 and the restart into the new slot. -/
def fwVerified (s : State) : State :=
  match s.bm.ctl.intent with
  | none => s
  | some (slot, oldSum) =>
    if !(legalRuns s) then s
    else
      let code := imgVerify s slot
      let s1 := noteVerify s code
      if code = 0 then bmPublish (bmRestart (bmLongEnd (commitFinish s1 slot oldSum 0)))
      else bmPublish (bmLongEnd (commitRollBack s1 slot oldSum false))

/-- BM_REVERIFY (R240): a long operation, with SEAL_SW closed and no other in progress. -/
def reverify (s : State) : State := if legalRuns s && s.bm.sealClosed && s.bm.lop == 0 then bmLongStart s 1 0 else s

/-- Re-verification ends (R240). -/
def reverified (s : State) : State :=
  if !(s.bm.lop == 1) then s
  else
    let code := imgVerify s (activeSlot s)
    let s1 := noteVerify s code
    let s2 := if code = 0 ∧ paramsOk s1 then sealMended s1 else s1
    bmPublish (bmLongEnd s2)

/-- BM_AUDIT_FREE (R245). -/
def auditFreeReq (s : State) (seq : Nat) : State := if legalRuns s && s.bm.lop == 0 then bmLongStart s 4 seq else s

/-- Zeroes the records from `tail` on, `n` of them. -/
def zeroRecords : Nat → Nat → State → State
  | 0, _, s => s
  | n + 1, t, s => zeroRecords n (t + 1) (mramPut s (recordAt t) (List.replicate 64 0#8))

/-- Compaction ends (R245): the held records below the sequence number are zeroed, TAIL advances, AUDIT_FREED is written. -/
def compacted (s : State) : State :=
  if !(s.bm.lop == 4) then s
  else
    let t := s.bm.ctl.tail
    let e := max t (min s.bm.lopArg s.bm.ctl.head)
    let s1 := zeroRecords (e - t) t s
    let s2 := setCtl s1 { s1.bm.ctl with tail := e }
    bmPublish (bmLongEnd (hwRecord s2 0xA (toBytes 4 t ++ toBytes 4 (e - 1))))

/-! ### Display, wake, power, escalation, debug -/

/-- BM_ERR.RELEASE (R240), in RUNNING. -/
def errReleaseReq (s : State) : State := if legalRuns s then setBm s { s.bm with errRelease := true } else s

/-- A request for the identification, from BM_ID_SHOW or LGL_ID_REQUEST (R241). -/
def idRequest (s : State) : State := if s.bm.state = bmOff then s else setBm s { s.bm with idRequest := true }

/-- ID_TIME has elapsed (R241): the display ends unless a request restarted it. -/
def idExpire (s : State) : State := if s.bm.idRequest then s else setBm s { s.bm with idShowing := false }

/-- A legal escalation (R212, R240): the record, slot 26, the error pattern from the next commit instant. -/
def escalate (s : State) (region frame : Nat) : State :=
  if s.bm.state = bmOff then s
  else
    let s1 := hwRecord s 7 (toBytes 4 region ++ toBytes 8 frame)
    let s2 := match s.raster.lastFrame with
      | some n => if frame < n then errStart s1 else setBm s1 { s1.bm with escalated := true }
      | none => setBm s1 { s1.bm with escalated := true }
    bmPublish (bmLatch s2 26)

/-! ### What engine 19 keeps in engine 12 (R201, R213) -/

/-- Writes an entry that differs. -/
def keepN (s : State) (k v : Nat) : State := if regN s k = v then s else setN s k v

/-- Engine 19 keeps regions 0 to 3 equal to the legal windows (R201); while domains 4 to 6 are off the entries keep their values. -/
def legalRegions (s : State) : State :=
  if s.bm.state = bmOff || !(engineOn s 12) then s
  else (List.range 4).foldl (fun t k =>
    let w := bankWin s s.bm.bankActive k
    let shown := s.bm.wins.any (fun v => v.k == k)
    let put (u : State) (i v : Nat) : State := keepN u (entryKey 0x2300 (4 * k + i)) (if s.bm.bankShown then v else 0)
    put (put (put t 0 (w.x % 8192 + (w.x + 16 * w.w) % 8192 * 65536)) 1 (w.y % 8192 + (w.y + 16 * w.h) % 8192 * 65536)) 2
      (4 + (if shown then 1 else 0))) s

/-- The mirror of the legal run limit (R213): engine 19 keeps it while it is on. -/
def legalParam (s : State) : State := if s.bm.state = bmOff || !(engineOn s 12) then s else keepN s (entryKey 0x2302 2) (legalN s)

/-- The commit instant in the partition (R237 to R241): release then escalation, bank switch, windows of the frame, mark, identification, slot 25. -/
def legalCommit (s : State) (frame w h : Nat) : State :=
  if s.bm.state = bmOff then setBm s { s.bm with wins := [], clipped := false }
  else
    let s1 := if s.bm.errRelease && legalRuns s then
        hwRecord (setBm s { s.bm with errRelease := false, err := false }) 8 (toBytes 8 frame)
      else s
    let s2 := if s1.bm.escalated then errStart (setBm s1 { s1.bm with escalated := false }) else s1
    let bank := match s2.bm.bankPending with
      | some b => b
      | none => s2.bm.bankActive
    let (ws, clip) := frameWins s2 bank w h
    let s3 := setBm s2 { s2.bm with
      bankActive := bank, bankPending := none,
      bankShown := s2.bm.bankShown || s2.bm.bankPending.isSome, wins := ws, clipped := clip, mark := s2.bm.ctl.broken }
    legalRegions (bmPublish (bmLatch (idStart s3) 25))

/-- SEAL_BROKEN is set by forcing debug into the partition (R240, R456): the record, the counter and the seal generation once. -/
def debugForced (s : State) (perm state : Nat) : State :=
  let s1 := setCtl s { s.bm.ctl with broken := true }
  bmPublish (haltCore (countEvent (auditWrite s1 (nextCount s1) 5 0 0 (toBytes 1 perm ++ toBytes 1 state))) 9)

/-- Entry to RETURNED (R446): SEAL_BROKEN and a RETURNED record. -/
def bmReturned (s : State) : State :=
  if s.bm.state = bmOff then s
  else
    let s1 := if s.bm.ctl.broken then s else sealGenUp (setCtl s { s.bm.ctl with broken := true })
    bmPublish (hwRecord s1 0xB [])

/-- Clock fallback (R219). -/
def clockFallback (s : State) : State := if domainOn s 4 then setBm s { s.bm with fallback := true } else s

/-- Whether the partition lets its domains be switched off (R219). -/
def bmPowerOk (s : State) : Bool := s.bm.state == bmOff || s.bm.state == bmHalted || s.bm.grant

/-- Domain 4 switches off: the tile store, the registers and the counters of the serial port are lost; the MRAM keeps its contents (R236, R249). -/
def bmPowerOff (s0 : State) : State :=
  let s := bmPublish s0
  let s1 := bmEnter s bmOff
  let b := bmClear s1.bm
  setCore (setBm s1 { b with
    tile := [], bankActive := 0, bankShown := false, wins := [], clipped := false, err := false, mark := false, sealClosed := false, chans := [], ser := {},
    fallback := false, idTruncated := false, auditLost := false, mirrored := [] }) 9 {}

end Sys2Proof.Machine
end

