-- ==== Sys2Proof/Machine/BellmetalPort.lean ====
section
/-! DEFINITION. Bellmetal's ports (09): load-cell channels, the sealed serial port, the mailboxes, the mirror signals, the partition registers that
the legal core sees, and its interrupt slots. -/
namespace Sys2Proof.Machine

/-! ### Load-cell channels (R231 to R235) -/

def setChan (s : State) (n : Nat) (c : LoadChan) : State := setBm s { s.bm with chans := mapSet (fun _ => {}) s.bm.chans n c }

/-- The front end is present and on (R217). -/
def frontEnd (s : State) (n : Nat) : Bool := decide (n < loadCells s.variant) && domainOn s 4 && domainOn s 5

/-- FIR coefficient j (R235). -/
def firCoef (c : LoadChan) (j : Nat) : Int := mapGet (fun j => if j = 31 then 65536 else 0) c.coefs j

/-- The FIR sum over the 64 taps in units of 2^-17. -/
def firSum (c : LoadChan) (hist : List Int) : Int :=
  (List.range 64).foldl (fun a t => a + firCoef c (min t (63 - t)) * (hist[t]?).getD 0) 0

/-- Sets a sticky bit of BM_CHn_STATUS. -/
def chanFlag (c : LoadChan) (bit : Nat) : LoadChan := { c with sticky := c.sticky ||| 2 ^ bit }

/-- Places a sample in the FIFO (R232). -/
def chanPush (c : LoadChan) (w : Nat) : LoadChan :=
  if 16 ≤ c.fifo.length then chanFlag { c with fifo := c.fifo.drop 1 ++ [w], last := w } 10 else { c with fifo := c.fifo ++ [w], last := w }

/-- Samples for which the filter holds older input after a calibration (R234). -/
def filterSpan (c : LoadChan) : Nat := (if bitAt c.cfg 8 then 4 else 3) + (if bitAt c.cfg 9 then 63 else 0)

/-- The flags of a sample word (R232). -/
def sampleFlags (s : State) (c : LoadChan) (ovr : Bool) : Nat :=
  let b (x : Bool) (k : Nat) : Nat := if x then 2 ^ k else 0
  b c.calibrating 25 + b (!(c.settle == 0)) 26 + b ovr 27 + b c.refLow 28 + b (s.bm.fallback || c.supplyLow) 29 + b c.reversed 30

/-- The value of a sample: the filter's output, rounded to one of the neighbouring integers where it is not one (free, DESIGN CHOICE, log 20). -/
def sampleValue (s : State) (c : LoadChan) (hist : List Int) : Int × State :=
  if bitAt c.cfg 9 then
    let y := firSum c hist
    if y % 131072 = 0 then (y / 131072, s)
    else
      let (f, s1) := drawFree s
      (y / 131072 + (f % 2 : Nat), s1)
  else (hist.headD 0, s)

/-- The next enabled channel above `n`. -/
def nextEnabled (s : State) (from_ : Nat) : Option Nat :=
  (List.range (loadCells s.variant)).find? (fun k => decide (from_ ≤ k) && bitAt (chanOf s k).cfg 0)

/-- A calibration of channel n ends or stops (R234); a sweep goes on to the next enabled channel. -/
def calEnd (s : State) (n : Nat) (ok : Bool) : State :=
  let c := chanOf s n
  if !c.calibrating then s
  else
    let c1 := { c with calibrating := false, settle := max c.settle (filterSpan c) }
    let s1 := bmLatch (setChan s n (if ok then c1 else chanFlag c1 9)) 28
    if s1.bm.lop = 3 then
      match nextEnabled s1 (n + 1) with
      | some k => setChan (bmProgress s1 1 (100 * (n + 1) / 4) 3) k { chanOf s1 k with calibrating := true }
      | none => bmLongEnd s1
    else s1

/-- A sample of channel n (R232): `dec` is the calibrated output of the decimator for the input at the terminals, input ÷ (reference ÷ gain) × 2^23. -/
def lcSample (s : State) (n : Nat) (dec : Int) (ovr refLow supplyLow : Bool) : State :=
  let c0 := { chanOf s n with refLow := refLow, supplyLow := supplyLow }
  if !(frontEnd s n) || !(bitAt c0.cfg 0) then s
  else if c0.calibrating then
    let c := { c0 with since := c0.since + 1 }
    let s1 := setChan s n (chanPush c (c.last % 2 ^ 24 + sampleFlags s c ovr))
    if refLow then calEnd s1 n false else s1
  else
    let hist := ((if c0.reversed then -dec else dec) :: c0.hist).take 64
    let (v, s1) := sampleValue s c0 hist
    let sat := decide (v < -8388608) || decide (8388607 < v)
    let w := ofSigned 24 (clampInt (-8388608) 8388607 v) + sampleFlags s1 c0 (ovr || sat)
    setChan s1 n (chanPush { c0 with hist := hist, since := c0.since + 1, settle := c0.settle - 1 } w)

/-- The excitation of channel n is reversed after REV_PERIOD samples; a reversal due in a calibration waits (R231, R234). -/
def lcReverse (s : State) (n : Nat) : State :=
  let c := chanOf s n
  let p := bits c.cfg 10 8
  if frontEnd s n && bitAt c.cfg 0 && !(p == 0) && decide (p ≤ c.since) && !c.calibrating then
    setChan s n { c with reversed := !c.reversed, since := 0, settle := max c.settle (bits c.cfg 18 4) }
  else s

/-- START of a calibration (R234). -/
def calStart (s : State) (n : Nat) : State :=
  if !(frontEnd s n) then s
  else if calBusy s then setChan s n (chanFlag (chanOf s n) 14)
  else setChan s n { chanOf s n with calibrating := true }

/-- SWEEP on channel n (R234); a sweep asked for while another long operation runs is refused (DESIGN CHOICE, log 21). -/
def calSweep (s : State) (n : Nat) : State :=
  if !(frontEnd s n) then s
  else if calBusy s || !(s.bm.lop == 0) then setChan s n (chanFlag (chanOf s n) 14)
  else
    let s1 := bmLongStart s 3 0
    match nextEnabled s1 0 with
    | some k => setChan s1 k { chanOf s1 k with calibrating := true }
    | none => bmLongEnd s1

/-- A coefficient write (R235). -/
def firWrite (s : State) (n v : Nat) : State :=
  let c := chanOf s n
  if !(frontEnd s n) then s
  else if !(bits v 18 6 == 0) || bitAt v 30 || decide (32 ≤ bits v 24 6) then setChan s n (chanFlag c 15)
  else
    setChan s n { c with
      tap := bits v 24 6, coefs := mapSet (fun j => if j = 31 then 65536 else 0) c.coefs (bits v 24 6) (toSigned 18 v) }

/-- A write to BM_CHn_CAL (R235). -/
def calWrite (s : State) (n v : Nat) : State :=
  if bitAt v 31 then firWrite s n v
  else if !(bits v 2 29 == 0) then setChan s n (chanFlag (chanOf s n) 15)
  else
    let s1 := if bitAt v 0 then calStart s n else s
    if bitAt v 1 then calSweep s1 n else s1

/-- A write to BM_CHn_CFG (R231, R235). -/
def chanCfgWrite (s : State) (n v : Nat) : State :=
  if !(bits v 22 10 == 0) || decide (13 ≤ bits v 4 4) then setChan s n (chanFlag (chanOf s n) 15)
  else setChan s n { chanOf s n with cfg := v }

/-- A read of BM_CHn_SAMPLE (R232): the oldest sample with NEW, or the last with NEW = 0. -/
def samplePop (s : State) (n : Nat) : State × Nat :=
  let c := chanOf s n
  match c.fifo with
  | [] => (s, c.last)
  | w :: ws => (setChan s n { c with fifo := ws }, w + 2 ^ 24)

/-! ### The sealed serial port (R247 to R249) -/

def setSer (s : State) (p : SerPort) : State := setBm s { s.bm with ser := p }

/-- Removes the escapes of a frame's content. -/
def unescape : List Byte → List Byte
  | [] => []
  | b :: bs => if b = 0x7D#8 then (match bs with
      | [] => []
      | c :: cs => (c ^^^ 0x20#8) :: unescape cs)
    else b :: unescape bs

/-- Bytes a frame takes in the receive FIFO. -/
def fifoBytes (f : SerFrame) : Nat := 4 + (f.payload.length + 3) / 4 * 4

/-- RX_LEVEL. -/
def rxLevel (p : SerPort) : Nat := p.rx.foldl (fun n f => n + fifoBytes f) 0

/-- A received frame is dropped. -/
def serDrop (s : State) : State := setSer s { s.bm.ser with flags := s.bm.ser.flags ||| 2, dropped := (s.bm.ser.dropped + 1) % 2 ^ 32 }

/-- A frame between two 0x7E, still escaped (R247, R249): a bad CRC counts before a bad LEN (DESIGN CHOICE, log 22). -/
def serFrameRx (s : State) (content : List Byte) : State :=
  if s.bm.state = bmOff then s
  else
    let b := unescape content
    let n := b.length
    let p := s.bm.ser
    if n < 5 then setSer s { p with badLen := (p.badLen + 1) % 2 ^ 32 }
    else if !(ofBytesBE (b.drop (n - 2)) == crc16 (b.take (n - 2))) then setSer s { p with badCrc := (p.badCrc + 1) % 2 ^ 32 }
    else
      let len := ((b[2]?).getD 0#8).toNat
      if 248 < len ∨ ¬ len + 5 = n then setSer s { p with badLen := (p.badLen + 1) % 2 ^ 32 }
      else
        let f : SerFrame := ⟨((b[0]?).getD 0#8).toNat, ((b[1]?).getD 0#8).toNat, (b.drop 3).take len⟩
        if 0xF0 ≤ f.typ then (if s.bm.hwFrames then setSer s { p with requests := p.requests ++ [f] } else s)
        else if !(legalRuns s) || decide (512 < rxLevel p + fifoBytes f) then serDrop s
        else setSer s { p with rx := p.rx ++ [f] }

/-- Escapes a frame's content (R247). -/
def escape (b : List Byte) : List Byte := b.flatMap (fun x => if x = 0x7E#8 ∨ x = 0x7D#8 then [0x7D#8, x ^^^ 0x20#8] else [x])

/-- The bytes of a frame on LGL_TX (R247): the delimiters, and between them the escaped content with LEN and the CRC-16, high byte first. -/
def serWire (f : SerFrame) : List Byte :=
  let body := toBytes 1 f.typ ++ toBytes 1 f.seq ++ toBytes 1 f.payload.length ++ f.payload
  let c := crc16 body
  [0x7E#8] ++ escape (body ++ toBytes 1 (c / 256) ++ toBytes 1 c) ++ [0x7E#8]

/-- A frame starts when the line is idle, a hardware reply first. -/
def serStart (s : State) : State :=
  let p := s.bm.ser
  if p.line.isSome then s
  else match p.replies with
    | f :: fs => setSer s { p with replies := fs, line := some (false, serWire f) }
    | [] => match p.queued with
      | some f => setSer s { p with queued := none, line := some (true, serWire f), txReady := true }
      | none => s

/-- The hardware's answer to a frame (R248). -/
def serAnswer (s : State) (f : SerFrame) : List Byte :=
  if f.typ = 0xF0 then
    s.bm.swId ++ toBytes 4 s.bm.checksum ++ toBytes 4 (eventCounter s) ++ toBytes 1 s.bm.state ++ toBytes 1 (if s.bm.ctl.broken then 1 else 0)
  else if f.typ = 0xF1 then
    let n := ofBytes f.payload
    if f.payload.length = 4 ∧ s.bm.ctl.tail ≤ n ∧ n < s.bm.ctl.head then mramBytes s (recordAt n) 64 else [1#8]
  else if f.typ = 0xF2 then toBytes 4 s.bm.ctl.tail ++ toBytes 4 s.bm.ctl.head
  else [2#8]

/-- Answers the oldest hardware request when its TYPE lies in the range (R248). -/
def serReply (s : State) (lo hi : Nat) : State :=
  match s.bm.ser.requests with
  | [] => s
  | f :: fs =>
    if lo ≤ f.typ ∧ f.typ ≤ hi then
      serStart (setSer s { s.bm.ser with requests := fs, replies := s.bm.ser.replies ++ [⟨f.typ, f.seq, serAnswer s f⟩] })
    else s

/-- SER_RX_POP. -/
def serPop (s : State) : State := if legalRuns s then setSer s { s.bm.ser with rx := s.bm.ser.rx.drop 1, rxRead := 0 } else s

/-- SER_TX_DATA. -/
def serTxData (s : State) (w : Nat) : State :=
  let p := s.bm.ser
  if !(legalRuns s) then s
  else if !p.txReady then setSer s { p with flags := p.flags ||| 1 }
  else if 248 ≤ p.txBuf.length then setSer s { p with txBuf := [], flags := p.flags ||| 1 }
  else setSer s { p with txBuf := p.txBuf ++ toBytes 4 w }

/-- SER_TX_SEND. -/
def serTxSend (s : State) (v : Nat) : State :=
  let p := s.bm.ser
  let len := bits v 16 8
  if !(legalRuns s) then s
  else if !p.txReady || decide (0xF0 ≤ v % 256) || decide (248 < len) || decide (p.txBuf.length < len) then
    setSer s { p with txBuf := [], flags := p.flags ||| 1, txDone := false }
  else serStart (setSer s { p with
    txBuf := [], txReady := false, txDone := false, queued := some ⟨v % 256, bits v 8 8, p.txBuf.take len⟩ })

/-- A frame finishes on the line. -/
def serTxDone (s : State) : State :=
  match s.bm.ser.line with
  | none => s
  | some (fw, _) =>
    let p := s.bm.ser
    serStart (setSer s (if fw then { p with line := none, txDone := true } else { p with line := none, hwReplies := (p.hwReplies + 1) % 2 ^ 32 }))

/-- A read of a serial register (R249). -/
def serRead (s : State) (off : Nat) : State × Nat :=
  let p := s.bm.ser
  let b (x : Bool) (k : Nat) : Nat := if x then 2 ^ k else 0
  if off = 0x100 then (s, b (!p.rx.isEmpty) 0 + b p.txReady 1 + b p.line.isSome 2 + b (!p.replies.isEmpty) 3 + 16 * rxLevel p)
  else if off = 0x104 then (s, match p.rx with
    | f :: _ => f.typ + 256 * f.seq + 65536 * f.payload.length + 2 ^ 31
    | [] => 0)
  else if off = 0x108 then
    (match p.rx with
    | f :: _ => (setSer s { p with rxRead := p.rxRead + 1 }, ofBytes ((f.payload.drop (4 * p.rxRead)).take 4))
    | [] => (s, 0))
  else if off = 0x118 then (s, p.flags) else if off = 0x11C then (s, p.badCrc) else if off = 0x120 then (s, p.badLen)
  else if off = 0x124 then (s, p.dropped) else if off = 0x128 then (s, p.hwReplies) else (s, 0)

/-! ### Mailboxes (R250) -/

/-- The inbound mailbox takes a message of 1 to 256 bytes while it is free. -/
def msgIn (s : State) (m : List Byte) : State :=
  if s.bm.inFull || s.bm.state == bmOff then s
  else setBm (perfEvent s 19 0x21 1) { s.bm with inFull := true, inLen := m.length, inBox := mapSetMany memReset s.bm.inBox 0 m }

/-- IN_DONE: source 306. -/
def inDone (s : State) : State := if legalRuns s && s.bm.inFull then icAssert (setBm s { s.bm with inFull := false }) 306 else s

/-- OUT_SEND with its length: source 305. -/
def outSend (s : State) (len : Nat) : State :=
  if legalRuns s then icAssert (setBm (perfEvent s 19 0x21 1) { s.bm with outValid := true, outLen := len % 512 }) 305 else s

/-- LGL_MSG_OUT_ACK: slot 23. -/
def outAck (s : State) : State := if s.bm.outValid then bmLatch (setBm s { s.bm with outValid := false }) 23 else s

/-- LGL_MSG_STATUS (R254). -/
def msgStatus (s : State) : Nat := (if s.bm.inFull then 1 else 0) + (if s.bm.outValid then 2 else 0) + 65536 * (s.bm.outLen % 512)

/-! ### Mirror signals (R51, R255) -/

/-- A mirror signal's word with its attribute byte: age_en 1 and its class. -/
def mirrorPut (s : State) (n w cls : Nat) : State :=
  if engineOn s 8 then
    let t := mirrorWrite (perfEvent s 19 0x20 1) n w
    { t with ss := { t.ss with attr := mapSet attrReset t.ss.attr n (0xE0 + cls % 32) } }
  else s

/-- BM_MIRROR_DATA (R222): a firmware signal 0 to 47. -/
def mirrorData (s : State) (w : Nat) : State :=
  let n := bits s.bm.mirrorSel 0 6
  if legalRuns s && decide (n < 48) then mirrorPut s (262096 + n) w (bits s.bm.mirrorSel 8 5) else s

/-- The word of a load-cell mirror signal: quality 2 on FAULT or REF_LOW, else 1 while calibrating (R255). -/
def chanMirror (s : State) (n : Nat) : Nat :=
  let st := chanStatus s n
  bits st 0 13 + 65536 * (if bitAt st 11 || bitAt st 12 then 2 else if bitAt st 13 then 1 else 0)

/-- The hardware mirror signals: number, word, class (R255). -/
def mirrorWords (s : State) : List (Nat × Nat × Nat) :=
  [(262080, lglState s, 30), (262081, eventCounter s % 65536, 30), (262082, eventCounter s / 65536, 30), (262083, ofSigned 16 s.bm.temp, 31)] ++
  (List.range (loadCells s.variant)).map (fun n => (262084 + n, chanMirror s n, 30))

/-- Writes one hardware mirror signal. -/
def mirrorOne (s : State) (m : Nat × Nat × Nat) : State :=
  let t := mirrorPut s m.1 m.2.1 m.2.2
  setBm t { t.bm with mirrored := mapSet (fun _ => 0) t.bm.mirrored m.1 (m.2.1 + 1) }

/-- The hardware mirror signals are written (R255); `temp` is the die temperature measured. -/
def mirrorRefresh (s : State) (temp : Int) : State :=
  if !(domainOn s 4) then s
  else
    let s0 := bmPublish (setBm s { s.bm with temp := temp })
    (mirrorWords s0).foldl mirrorOne s0

/-- What engine 19 keeps up at every change (R201, R213, R255): its regions and the run limit in engine 12, and the mirror signals that changed. -/
def bmSync (s : State) : State :=
  if !(domainOn s 4) then s
  else
    let s1 := legalParam (legalRegions s)
    if engineOn s1 8 then ((mirrorWords s1).filter (fun m => !(mapGet (fun _ => 0) s1.bm.mirrored m.1 == m.2.1 + 1))).foldl mirrorOne s1 else s1

/-! ### The partition registers (R222) and the slots of the legal core (R223) -/

/-- Whether an offset belongs to the front end. -/
def isFrontReg (off : Nat) : Bool := (decide (0x80 ≤ off) && decide (off < 0xC0)) || off == 0xC0

/-- A word load from a partition register. -/
def bmRegRead (s : State) (off : Nat) : State × Nat :=
  let b := s.bm
  let f (x : Bool) (k : Nat) : Nat := if x then 2 ^ k else 0
  if off = 0 then (s, lglState s)
  else if off = 4 then (s, b.sessionType + f b.sessionWritten 4 + 32 * b.sessionResult)
  else if off = 0xC then
    (s, (match b.bankPending with
      | some k => k
      | none => b.bankActive) + f b.bankChecking.isSome 8 + f b.bankRefused 9)
  else if off = 0x10 then (s, f b.err 1)
  else if off = 0x1C then (s, f b.grant 0)
  else if off = 0x24 then (s, b.watchdog)
  else if off = 0x30 then (s, b.mirrorSel)
  else if off = 0x3C then (s, b.irqEn)
  else if 0x40 ≤ off ∧ off < 0x60 then (s, (mapGet (fun _ => 0#32) b.payload ((off - 0x40) / 4)).toNat)
  else if off = 0x60 then (s, f b.inFull 0 + f b.outValid 1 + 65536 * (b.inLen % 512))
  else if 0x80 ≤ off ∧ off < 0xC0 then
    let n := (off - 0x80) / 16
    let c := chanOf s n
    if off % 16 = 0 then (s, c.cfg) else if off % 16 = 4 then samplePop s n
    else if off % 16 = 8 then (s, 2 ^ 31 + c.tap * 2 ^ 24 + ofSigned 18 (firCoef c c.tap)) else (s, chanStatus s n)
  else if off = 0xC0 then (s, ofSigned 16 b.temp)
  else if 0x100 ≤ off ∧ off < 0x200 then serRead s off
  else if 0x200 ≤ off ∧ off < 0x300 then (s, ofBytes (mapGetMany memReset b.inBox (off - 0x200) 4))
  else if 0x300 ≤ off ∧ off < 0x400 then (s, ofBytes (mapGetMany memReset b.outBox (off - 0x300) 4))
  else (s, 0)

/-- A write to BM_MSG. -/
def msgWrite (s : State) (v : Nat) : State :=
  let s1 := if bitAt v 2 then inDone s else s
  if bitAt v 3 then outSend s1 (bits v 4 9) else s1

/-- BM_WAKE wakes the Warden, cause 4 of R431, and asserts source 311 (R222, R256). -/
def wakeSource (s : State) : State := icAssert { s with woken := s.woken ++ [4] } 311

/-- A word store to a partition register (R222). -/
def bmRegWrite (s : State) (off v : Nat) : State :=
  let b := s.bm
  if off = 4 then (if v = 0 then sessionClose s else sessionOpen s v)
  else if off = 8 then (if bitAt v 0 then fwCommit s else s)
  else if off = 0xC then bankRequest s v
  else if off = 0x10 then (if bitAt v 0 then errReleaseReq s else s)
  else if off = 0x14 then (if bitAt v 0 then idRequest s else s)
  else if off = 0x18 then (if bitAt v 0 then wakeSource s else s)
  else if off = 0x1C then setBm s { b with grant := bitAt v 0 }
  else if off = 0x20 then (if bitAt v 0 then bmRestartReq s else s)
  else if off = 0x24 then bmWatchdogWrite s v
  else if off = 0x28 then (if bitAt v 0 then reverify s else s)
  else if off = 0x2C then auditFreeReq s v
  else if off = 0x30 then setBm s { b with mirrorSel := maskAnd v 0x1F3F }
  else if off = 0x34 then mirrorData s v
  else if off = 0x3C then setBm s { b with irqEn := maskAnd v 0x3FFF0000 }
  else if 0x40 ≤ off ∧ off < 0x60 then setBm s { b with payload := mapSet (fun _ => 0#32) b.payload ((off - 0x40) / 4) (natWord v) }
  else if off = 0x60 then msgWrite s v
  else if 0x80 ≤ off ∧ off < 0xC0 then
    let n := (off - 0x80) / 16
    if off % 16 = 0 then chanCfgWrite s n v else if off % 16 = 8 then calWrite s n v
    else if off % 16 = 12 then setChan s n { chanOf s n with sticky := maskClear (chanOf s n).sticky (maskAnd v 0xC600) } else s
  else if off = 0x10C then (if bitAt v 0 then serPop s else s)
  else if off = 0x110 then serTxData s v
  else if off = 0x114 then serTxSend s v
  else if off = 0x118 then setSer s { b.ser with flags := maskClear b.ser.flags (v % 4) }
  else if 0x300 ≤ off ∧ off < 0x400 then setBm s { b with outBox := mapSetMany memReset b.outBox (off - 0x300) (toBytes 4 v) }
  else s

/-- Whether a slot of the legal core stands (R223). -/
def lglSlot (s : State) (slot : Nat) : Bool :=
  if 16 ≤ slot ∧ slot < 20 then !(chanOf s (slot - 16)).fifo.isEmpty
  else if slot = 20 then !s.bm.ser.rx.isEmpty
  else if slot = 21 then s.bm.ser.txDone
  else if slot = 22 then s.bm.inFull
  else if slot = 29 then s.bm.wdHalf
  else s.bm.latched.contains slot

/-- The slot the legal core may take: the highest that stands and is enabled. -/
def lglPresented (s : State) : Option Nat :=
  ((List.range 14).map (29 - ·)).find? (fun k => lglSlot s k && bitAt s.bm.irqEn k)

/-- The legal core claims a slot: an event slot falls (DESIGN CHOICE, log 23). -/
def lglClaim (s : State) (slot : Nat) : State := setBm s { s.bm with latched := s.bm.latched.filter (fun k => !(k == slot)) }

end Sys2Proof.Machine
end

