-- ==== Sys2Proof/Machine/Blitter.lean ====
section
/-! DEFINITION. The blitter, engine 6 (13): command lists, the check of a command, the six operations span by span, the watermark. -/
namespace Sys2Proof.Machine

def kBltStatus : Nat := entryKey 0x2182 1
def kBltFlags : Nat := entryKey 0x2182 2

/-- Replaces the blitter's working state. -/
def setBlt (s : State) (b : Blitter) : State := { s with blt := b }

/-- Whether a list runs. -/
def bltRuns (s : State) : Bool := fld s kBltStatus 0 2 == 1

/-- The blitter stops with a cause (R338, R344): causes 2 to 4 set ERROR. -/
def bltStop (s : State) (cause : Nat) : State :=
  let s1 := setFld (setFld (setBlt (requestsDone s reqBlitter) { s.blt with phase := .idle, out := [], abort := false }) kBltStatus 0 2 2) kBltStatus 2 4 cause
  if 2 ≤ cause then setFlag s1 kBltFlags 0 else s1

/-- The current command's address. -/
def bltAddr (s : State) : Nat := pairN s (entryKey 0x2182 3) (entryKey 0x2182 4)

/-- A word of the command. -/
def bltWord (s : State) (i : Nat) : Nat := match s.blt.words[i]? with
  | some w => w
  | none => 0

/-- Fields of the command (R339). -/
def bltOp (s : State) : Nat := bits (bltWord s 0) 0 4
def bltDstFmt (s : State) : Nat := bits (bltWord s 0) 8 2
def bltSrcFmt (s : State) : Nat := bits (bltWord s 0) 10 2
def bltW (s : State) : Nat := bits (bltWord s 1) 0 12 + 1
def bltH (s : State) : Nat := bits (bltWord s 1) 16 12 + 1
def bltWmEn (s : State) : Bool := bitAt (bltWord s 0) 6
def bltMaskEn (s : State) : Bool := bltOp s == 5 && bitAt (bltWord s 0) 7
def bltIndex (s : State) : Nat := fld s kBltStatus 16 16

/-- Address and pitch of an operand whose first word is `i` (2 DST, 4 SRC, 6 AUX). -/
def bltBase (s : State) (i : Nat) : Nat := bltWord s i + bits (bltWord s (i + 1)) 0 8 * 2 ^ 32
def bltPitch (s : State) (i : Nat) : Nat := bits (bltWord s (i + 1)) 16 16

/-- Whether an operand breaks the rule of its format (R340). -/
def badOperand (s : State) (i fmt : Nat) : Bool :=
  let a := bltBase s i
  let p := bltPitch s i
  let w := bltW s
  if fmt = 0 then decide (p < (w + 7) / 8)
  else if fmt = 1 then decide (p < w)
  else if fmt = 2 then !(a % 2 == 0) || !(p % 2 == 0) || decide (p < 2 * w)
  else !(a % 4 == 0) || !(p % 4 == 0) || decide (p < 4 * w)

/-- Whether the operation reads the source, the mask, the table (R341). -/
def readsSrc (s : State) : Bool := decide (bltOp s ≠ 2)
def readsTable (s : State) : Bool := bltOp s == 6 && bltSrcFmt s == 1

/-- An operand that breaks its rule (R340). -/
def bltMisaligned (s : State) : Bool :=
  badOperand s 2 (bltDstFmt s) || (readsSrc s && badOperand s 4 (bltSrcFmt s)) || (bltMaskEn s && badOperand s 6 0) ||
  (readsTable s && !(bltBase s 6 % 4 == 0))

/-- The format pair of an operation (R341). -/
def bltFormatsOk (s : State) : Bool :=
  let d := bltDstFmt s
  let c := bltSrcFmt s
  let op := bltOp s
  if op = 2 then true
  else if op = 4 then c == 3 && decide (2 ≤ d)
  else if op = 6 then (c == 2 && d == 3) || (c == 3 && d == 2) || (c == 0 && decide (1 ≤ d)) || (c == 1 && decide (2 ≤ d))
  else c == d

/-- Reserved content (R339). -/
def bltReserved (s : State) : Bool :=
  decide (6 < bltOp s) || !(bits (bltWord s 0) 13 19 == 0) || !(bits (bltWord s 1) 12 4 == 0) || !(bits (bltWord s 1) 28 4 == 0) ||
  !(bits (bltWord s 3) 8 8 == 0) || !(bits (bltWord s 5) 8 8 == 0) || !(bits (bltWord s 7) 8 8 == 0) ||
  !(bits (bltWord s 10) 12 4 == 0) || !(bits (bltWord s 10) 29 3 == 0) || (List.range 5).any (fun i => !(bltWord s (11 + i) == 0))

/-! ### Pixels -/

/-- Bits per pixel of a format. -/
def fmtBits (f : Nat) : Nat := if f = 0 then 1 else if f = 1 then 8 else if f = 2 then 16 else 32

/-- Pixels of a span (R342). -/
def spanPixels (f : Nat) : Nat := 2048 / fmtBits f

/-- The address and length of the bytes that hold pixel x of row r of an operand, and the bit of an M1 pixel. -/
def pixelAddr (base pitch fmt x r : Nat) : Nat × Nat × Nat :=
  let a := base + r * pitch
  if fmt = 0 then ((a + x / 8) % 2 ^ 40, 1, x % 8) else ((a + x * (fmtBits fmt / 8)) % 2 ^ 40, fmtBits fmt / 8, 0)

/-- A pixel of an operand, or the address that answers with an error. -/
def readPixel (s : State) (i fmt x r : Nat) : Except Nat Nat :=
  let (a, n, b) := pixelAddr (bltBase s i) (bltPitch s i) fmt x r
  match busRead s a n with
  | none => .error a
  | some bs => .ok (if fmt = 0 then bits (ofBytes bs) b 1 else ofBytes bs)

/-- Expansions to 8 bits (R341). -/
def x5 (c : Nat) : Nat := c * 8 + c / 4
def x6 (c : Nat) : Nat := c * 4 + c / 16

/-- A pixel as A, R, G, B of 8 bits, from RGB565 or ARGB8888. -/
def argb (fmt v : Nat) : List Nat :=
  if fmt = 2 then [255, x5 (bits v 11 5), x6 (bits v 5 6), x5 (bits v 0 5)] else [bits v 24 8, bits v 16 8, bits v 8 8, bits v 0 8]

/-- A, R, G, B of 8 bits as a pixel of a format. -/
def ofArgb (fmt : Nat) : List Nat → Nat
  | [a, r, g, b] => if fmt = 2 then r / 8 * 2048 + g / 4 * 32 + b / 8 else a * 2 ^ 24 + r * 65536 + g * 256 + b
  | _ => 0

/-- BLEND of a pixel (R341). -/
def blendPixel (s : State) (sv dv : Nat) : Nat :=
  let ca := bits (bltWord s 9) 0 8
  let sa := bits sv 24 8
  let a := if bitAt (bltWord s 0) 12 then (2 * sa * ca + 255) / 510 else ca
  let src := match argb 3 sv with
    | _ :: rest => 255 :: rest
    | [] => []
  ofArgb (bltDstFmt s) ((src.zip (argb (bltDstFmt s) dv)).map (fun p => (a * p.1 + (255 - a) * p.2 + 127) / 255))

/-- ROP of a pixel: bit by bit by the table ROP4 (R341). -/
def ropPixel (s : State) (m sv dv : Nat) : Nat :=
  (List.range (fmtBits (bltDstFmt s))).foldl (fun v b =>
    if bitAt (bltWord s 9) (8 * m + 4 * bits (bltWord s 8) b 1 + 2 * bits sv b 1 + bits dv b 1) then v + 2 ^ b else v) 0

/-- The value of destination pixel (x, r), none where CKEY writes nothing, or the address that answers with an error (R341). -/
def bltPixel (s : State) (x r : Nat) : Except Nat (Option Nat) := do
  let d := bltDstFmt s
  let c := bltSrcFmt s
  let colour := bits (bltWord s 8) 0 (fmtBits d)
  let sv ← if readsSrc s then readPixel s 4 c x r else .ok 0
  match bltOp s with
  | 1 => .ok (some sv)
  | 2 => .ok (some colour)
  | 3 => .ok (if maskAnd sv (bltWord s 9) = maskAnd colour (bltWord s 9) then none else some sv)
  | 4 =>
    let dv ← readPixel s 2 d x r
    .ok (some (blendPixel s sv dv))
  | 5 =>
    let dv ← readPixel s 2 d x r
    let m ← if bltMaskEn s then readPixel s 6 0 x r else .ok 1
    .ok (some (ropPixel s m sv dv))
  | _ =>
    if c = 0 then .ok (some (if sv = 1 then colour else bits (bltWord s 9) 0 (fmtBits d)))
    else if c = 1 then
      let a := (bltBase s 6 + 4 * sv) % 2 ^ 40
      match busRead s a 4 with
      | none => .error a
      | some b => .ok (some (ofArgb d (argb 3 (ofBytes b))))
    else .ok (some (ofArgb d (argb c sv)))

/-- The destination row and the pixels of the current span, in processing order (R342). -/
def spanRow (s : State) : Nat := if bitAt (bltWord s 0) 5 then bltH s - 1 - s.blt.row else s.blt.row
def spanCols (s : State) : List Nat :=
  let n := spanPixels (bltDstFmt s)
  ((List.range n).map (fun i => s.blt.span * n + i)).filterMap (fun k =>
    if k < bltW s then some (if bitAt (bltWord s 0) 4 then bltW s - 1 - k else k) else none)

/-- Puts a pixel's value among the bytes to write; an M1 pixel replaces one bit of its byte. -/
def putPixel (s : State) (out : List (Nat × Byte)) (x r v : Nat) : Except Nat (List (Nat × Byte)) :=
  let (a, n, b) := pixelAddr (bltBase s 2) (bltPitch s 2) (bltDstFmt s) x r
  if bltDstFmt s = 0 then
    match out.lookup a with
    | some old => .ok (out.map (fun e => if e.1 = a then (a, BitVec.ofNat 8 (putBits old.toNat b 1 v)) else e))
    | none => match busRead s a 1 with
      | none => .error a
      | some bs => .ok (out ++ [(a, BitVec.ofNat 8 (putBits (ofBytes bs) b 1 v))])
  else .ok (out ++ ((toBytes n v).zipIdx).map (fun q => ((a + q.2) % 2 ^ 40, q.1)))

/-- The bytes that the current span writes, or the address that answers with an error. -/
def spanOut (s : State) : Except Nat (List (Nat × Byte)) :=
  (spanCols s).foldl (fun (acc : Except Nat (List (Nat × Byte))) x => do
    let out ← acc
    let v ← bltPixel s x (spanRow s)
    match v with
    | none => .ok out
    | some p => putPixel s out x (spanRow s) p) (.ok [])

/-! ### Requests (R35, R342) -/

/-- Requests of 64 bytes that a row of byte addresses takes; neighbours share one, and only external memory counts. -/
def bltRuns64 (as : List Nat) : Nat := accessRuns ((as.filter (fun a => decide (a < 0x200000000))).map (· / 64))

/-- The requests of an operand's pixels in the current span. -/
def operandRequests (s : State) (i fmt : Nat) : Nat :=
  bltRuns64 ((spanCols s).map (fun x => (pixelAddr (bltBase s i) (bltPitch s i) fmt x (spanRow s)).1))

/-- The requests of what the blitter now waits for: the command, the reads of a span (one per table entry), or its writes. -/
def bltRequests (s : State) : Nat := match s.blt.phase with
  | .idle => 0
  | .command => granules (bltAddr s) 64
  | .reads => (if readsSrc s then operandRequests s 4 (bltSrcFmt s) else 0) +
      (if bltOp s = 4 ∨ bltOp s = 5 ∨ bltDstFmt s = 0 then operandRequests s 2 (bltDstFmt s) else 0) +
      (if bltMaskEn s then operandRequests s 6 0 else 0) + (if readsTable s ∧ bltBase s 6 < 0x200000000 then (spanCols s).length else 0)
  | .writes => bltRuns64 (s.blt.out.map Prod.fst)

/-- The blitter goes on to what it waits for next, and issues the requests of that. -/
def bltNext (s : State) (b : Blitter) : State := requestsNext (setBlt s b) reqBlitter (bltRequests (setBlt s b))

/-! ### The command list -/

/-- RUN at an address (R338). -/
def bltRun (s : State) (addr : Nat) (cop : Bool) : State :=
  if !(engineOn s 6) then s
  else if bltRuns s then (if cop then s else setFlag s kBltFlags 2)
  else
    let s1 := setPair (setN s kBltStatus 1) (entryKey 0x2182 3) (entryKey 0x2182 4) addr
    if addr % 64 = 0 then bltNext s1 { phase := .command } else bltStop s1 2

/-- The list address of BLT_LIST. -/
def bltList (s : State) : Nat := bits (regN s (entryKey 0x2180 2)) 6 26 * 64 + fld s (entryKey 0x2180 3) 0 8 * 2 ^ 32

/-- ABORT (R338): taken when the current span has finished its writes. -/
def bltAbort (s : State) : State := if engineOn s 6 && bltRuns s then setBlt s { s.blt with abort := true } else s

/-- A command read returns and is checked; END ends the list (R338, R340). -/
def bltCmdRead (s : State) : State :=
  if !(engineOn s 6) || !(s.blt.phase == .command) then s
  else if s.blt.abort then bltStop s 1
  else match busRead s (bltAddr s) 64 with
    | none => bltStop (setPair s (entryKey 0x2182 5) (entryKey 0x2182 6) (bltAddr s)) 4
    | some b =>
      let s1 := setBlt s { phase := .reads, words := (List.range 16).map (fun i => ofBytes ((b.drop (4 * i)).take 4)), wmDone := false }
      if bltReserved s1 then bltStop s1 3
      else if bltOp s1 = 0 then
        icAssert (setFld (setBlt (requestsDone s1 reqBlitter) {}) kBltStatus 0 6 0) 96
      else if bltMisaligned s1 then bltStop s1 2
      else if !(bltFormatsOk s1) || (bltWmEn s1 && decide (bltH s1 - 1 < bits (bltWord s1 10) 0 12)) then bltStop s1 3
      else bltNext s1 s1.blt

/-- The span in progress may be partly written when an error stops the list (R344): a free value says which of its bytes are
(DESIGN CHOICE, log 19). -/
def spanPart (s : State) : State :=
  if !(s.blt.phase == .writes) then s
  else
    let (f, s1) := drawFree s
    s.blt.out.zipIdx.foldl (fun t q => if bitAt f q.2 then (busWrite t q.1.1 [q.1.2]).getD t else t) s1

/-- A bus error stops the list (R344). -/
def bltFault (s : State) (a : Nat) : State := bltStop (setPair (busAddrError (spanPart s) a) (entryKey 0x2182 5) (entryKey 0x2182 6) (a % 2 ^ 40)) 4

/-- All reads of a span return; the span is computed (R342). -/
def bltReadsDone (s : State) : State :=
  if !(engineOn s 6) || !(s.blt.phase == .reads) then s
  else match spanOut s with
    | .error a => bltFault s a
    | .ok out => bltNext s { s.blt with phase := .writes, out := out }

/-- Writes the bytes of a span, up to one that answers with an error. -/
def writeSpan : State → List (Nat × Byte) → State × Option Nat
  | s, [] => (s, none)
  | s, (a, b) :: rest => match busWrite s a [b] with
    | none => (s, some a)
    | some s1 => writeSpan s1 rest

/-- The watermark of a row that completes (R343). -/
def watermark (s : State) : State :=
  if bltWmEn s && spanRow s == bits (bltWord s 10) 0 12 then
    perfEvent (icAssert (setN (setBlt s { s.blt with wmDone := true }) (entryKey 0x2182 7) (bltIndex s)) 97) 6 0x22 1
  else s

/-- All writes of a span complete: the next span, row or command, or the abort (R338, R342). -/
def bltWritesDone (s : State) : State :=
  if !(engineOn s 6) || !(s.blt.phase == .writes) then s
  else match writeSpan s s.blt.out with
    | (_, some a) => bltFault s a
    | (s1, none) =>
      let s2 := perfEvent s1 6 0x20 1
      let n := spanPixels (bltDstFmt s)
      let rowEnd := decide (bltW s ≤ (s.blt.span + 1) * n)
      let s3 := if rowEnd then watermark s2 else s2
      let cmdEnd := rowEnd && s.blt.row + 1 == bltH s
      let s4 := if cmdEnd then perfEvent (bump s3 (entryKey 0x2182 0x0A)) 6 0x21 1 else s3
      if s.blt.abort then bltStop s4 1
      else if cmdEnd then
        let s5 := setFld s4 kBltStatus 16 16 (bltIndex s + 1)
        bltNext (setPair s5 (entryKey 0x2182 3) (entryKey 0x2182 4) ((bltAddr s + 64) % 2 ^ 40)) { phase := .command }
      else if rowEnd then bltNext s4 { s4.blt with phase := .reads, out := [], row := s.blt.row + 1, span := 0 }
      else bltNext s4 { s4.blt with phase := .reads, out := [], span := s.blt.span + 1 }

/-- An error response to an access of the blitter (R344). -/
def bltError (s : State) (a : Nat) : State := if engineOn s 6 && bltRuns s then bltFault s a else s

/-- The latch point L(y) passes: a watermark whose line it is and whose row is not complete is late (R343). -/
def bltLatch (s : State) (y : Nat) : State :=
  if engineOn s 6 && (s.blt.phase == .reads || s.blt.phase == .writes) && bltWmEn s && !s.blt.wmDone && !s.blt.latched &&
      bits (bltWord s 10) 16 13 == y && decide (y < compH s) && s.raster.running then
    let s1 := bump (setBlt s { s.blt with latched := true }) (entryKey 0x2182 0x0B)
    let s2 := if flag s kBltFlags 1 then s1
      else setN (setN s1 (entryKey 0x2182 8) (bltIndex s + y * 65536 + 2 ^ 31)) (entryKey 0x2182 9) (match s.raster.lastFrame with
        | some f => f
        | none => 0)
    setFlag s2 kBltFlags 1
  else s

end Sys2Proof.Machine
end

