-- ==== Sys2Proof/Machine/Pins.lean ====
section
/-! DEFINITION. The pins, engine 4 (14): ownership, handover, the pin port, detectors and pattern units. -/
namespace Sys2Proof.Machine

/-- PIN_MUX and PIN_CFG of pin k, an entry of pattern unit u. -/
def muxKey (k : Nat) : Nat := entryKey 0x2101 k
def pinKey (k : Nat) : Nat := entryKey 0x2102 k
def patKey (u sub : Nat) : Nat := entryKey 0x2103 (16 * u + sub)

/-- The processor a pin's PIN_MUX names, and the processor granted a pattern unit. -/
def pinOwner (s : State) (k : Nat) : Nat := fld s (muxKey k) 3 4
def patOwner (s : State) (u : Nat) : Nat := fld s (entryKey 0x2100 3) (4 * u) 4

/-! ### Detectors (R365, R366) -/

/-- Detector k between two states: an edge of DET 3 to 5 asserts its source, a level follows its signal; a detection with WAKE is a wake cause. -/
def detect (old : State) (s : State) (k : Nat) : State :=
  let cfg := regN s (pinKey k)
  let det := bits cfg 4 3
  let a := padLevel old k
  let b := padLevel s k
  let edge := (det == 3 && !a && b) || (det == 4 && a && !b) || (det == 5 && !(a == b))
  let rise := !(pinSignal old k) && pinSignal s k
  let hit := perfEvent (icAssert s (592 + k)) 4 0x20 1
  if edge || rise then (if bitAt cfg 7 then { hit with woken := hit.woken ++ [1] } else hit)
  else if pinSignal old k && !(pinSignal s k) then icFall s (592 + k)
  else s

/-! ### Pattern units (R367) -/

/-- The eight levels of a unit as a vector. -/
def patVector (s : State) (u : Nat) : Nat :=
  (List.range 8).foldl (fun v i =>
    let pin := fld s (patKey u (2 + i / 4)) (8 * (i % 4)) 6
    if padLevel s pin then v + 2 ^ i else v) 0

/-- M of a unit. -/
def patM (s : State) (u : Nat) : Bool :=
  let c := regN s (patKey u 1)
  maskAnd (patVector s u) (bits c 8 8) == maskAnd (bits c 16 8) (bits c 8 8)

/-- Whether a unit is watching: EN 1 and a mask. -/
def patOn (s : State) (u : Nat) : Bool := let c := regN s (patKey u 1); bitAt c 0 && !(bits c 8 8 == 0)

/-- MATCHED rises (R367): counted, and its source asserts while the routing entry names the granted processor. -/
def patRise (s : State) (u : Nat) : State :=
  let t := perfEvent (bump (setFld s (patKey u 5) 0 1 1) (patKey u 6)) 4 0x21 1
  if !(patSignal s u) && patSignal t u then icAssert t (640 + u) else t

/-- MATCHED falls. -/
def patFall (s : State) (u : Nat) : State :=
  let t := setFld s (patKey u 5) 0 1 0
  if patSignal s u then icFall t (640 + u) else t

/-- A unit after its pins or entries changed: M follows; MATCHED falls with M, and with STABLE 0 rises with it. -/
def patRefresh (s : State) (u : Nat) : State :=
  let m := patM s u
  let s1 := setFld s (patKey u 5) 1 1 (if m then 1 else 0)
  let matched := flag s1 (patKey u 5) 0
  if !(patOn s1 u) || !m then (if matched then patFall s1 u else s1)
  else if fld s1 (patKey u 4) 0 24 == 0 && !matched then patRise s1 u
  else s1

/-- MATCHED rises after STABLE pin clocks of M = 1. -/
def patternMatch (s : State) (u : Nat) : State :=
  if domainOn s 8 && patOn s u && patM s u && !(flag s (patKey u 5) 0) then patRise s u else s

/-- What follows a change of pads or detectors: every detector and pattern unit. Pattern units do not run in Calm (R366). -/
def pinsChanged (old s : State) : State :=
  let s1 := (List.range 48).foldl (fun t k => if padLevel old k == padLevel s k && pinSignal old k == pinSignal s k then t else detect old t k) s
  if domainOn s1 8 then (List.range 4).foldl patRefresh s1 else s1

/-! ### Pads -/

/-- The outside drives pad k to a level. -/
def pinDrive (s : State) (k : Nat) (level : Bool) : State :=
  pinsChanged s { s with pins := { s.pins with ext := putBits s.pins.ext k 1 (if level then 1 else 0) } }

/-- The PIN_MUX value whose ownership is in force: of several writes, that of the handover cycle in progress (R361, R363). -/
def muxNow (s : State) (k : Nat) : Nat := match mapGet (fun _ => none) s.pins.hand k with
  | some h => h.mux
  | none => regN s (muxKey k)

/-- The output values change for the pins that a processor owns as GPIO (R275, R361); `f` gives each pin's new value from its old. -/
def gpioWrite (s : State) (p : Nat) (f : Nat → Bool → Bool) : State :=
  let out := (List.range 48).foldl (fun v k =>
    if bits (muxNow s k) 0 3 == 0 && bits (muxNow s k) 3 4 == p && !(f k (bitAt v k) == bitAt v k) then putBits v k 1 (if f k (bitAt v k) then 1 else 0) else v)
    s.pins.out
  pinsChanged s { s with pins := { s.pins with out := out } }

/-- The pins that a mask of gpio.set, gpio.clr or gpio.tgl names (R275). -/
def gpioMask (t k : Nat) : Bool :=
  let base := if bitAt t 24 then 24 else 0
  decide (base ≤ k) && decide (k < base + 24) && bitAt t (k - base)

/-- A peripheral function's pad takes a level (R486). -/
def funcDrive (s : State) (k : Nat) (level : Bool) : State :=
  pinsChanged s { s with pins := { s.pins with func := putBits s.pins.func k 1 (if level then 1 else 0) } }

/-- A hold of a pad at what drives it. -/
def holdAt (drive : Option Bool) (mux : Nat) (next : List Nat) : PadHold := match drive with
  | some b => ⟨true, b, mux, next⟩
  | none => ⟨false, false, mux, next⟩

/-- Replaces the handover cycle of pin k. -/
def setHand (s : State) (k : Nat) (h : Option PadHold) : State :=
  { s with pins := { s.pins with hand := mapSet (fun _ => none) s.pins.hand k h } }

/-- Pin k switches to a PIN_MUX value in state t, which the write has made of s (R363): the pad keeps its driven value, the input of a function that owned it
freezes; during a cycle the switch waits for its own. -/
def handSwitch (s t : State) (k v : Nat) : State :=
  match mapGet (fun _ => none) s.pins.hand k with
  | some h => setHand t k (some { h with next := h.next ++ [v] })
  | none =>
    let u := setHand t k (some (holdAt (padDrive s k) v []))
    if funcOwns s k then { u with pins := { u.pins with frozen := putBits u.pins.frozen k 1 (if padLevel s k then 1 else 0) } } else u

/-- A PIN_MUX write takes effect (R361, R363). -/
def pinMuxWritten (s : State) (k v : Nat) : State :=
  let old := regN s (muxKey k)
  let t := setN s (muxKey k) v
  if bits old 0 3 = bits v 0 3 ∧ (bits v 0 3 ≠ 0 ∨ bits old 3 4 = bits v 3 4) then t
  else pinsChanged s (handSwitch s t k v)

/-- The handover cycle of pin k ends (R363): the new function drives the pad and its input is no longer frozen, or the cycle of a later write begins. -/
def handEnd (s : State) (k : Nat) : State :=
  match mapGet (fun _ => none) s.pins.hand k with
  | none => s
  | some h =>
    let t := match h.next with
      | v :: rest => setHand s k (some (holdAt (muxDrive s k h.mux) v rest))
      | [] =>
        let u := setHand s k none
        if bits h.mux 0 3 = 0 then u else { u with pins := { u.pins with frozen := putBits u.pins.frozen k 1 0 } }
    pinsChanged s (perfEvent t 4 0x22 1)

/-- TDM_CFG of port n is written, t being the state after it: a pin of the port whose direction it changes switches as between functions (R486). -/
def tdmPins (s t : State) (n : Nat) : State :=
  let c := regN s (entryKey 0x2415 n) ^^^ regN t (entryKey 0x2415 n)
  let ks := (if bitAt c 2 then [3 * n, 3 * n + 1] else []) ++ (if bitAt c 1 then [3 * n + 2] else [])
  pinsChanged s ((ks.filter (fun k => !(fld s (muxKey k) 0 3 == 0))).foldl (fun u k => handSwitch s u k (regN s (muxKey k))) t)

/-- PIN_CFG takes a value (R364). -/
def pinCfgWritten (s : State) (k v : Nat) : State := pinsChanged s (setN s (pinKey k) v)

/-- PAT_GRANT takes a value: a changed grant clears EN of its unit (R367). -/
def patGrantWritten (s : State) (v : Nat) : State :=
  let t := (List.range 4).foldl (fun t u =>
    if bits v (4 * u) 4 = patOwner s u then t else patFall (setFld t (patKey u 1) 0 1 0) u) s
  setN t (entryKey 0x2100 3) v

/-- An entry of a pattern unit takes a value. -/
def patWritten (s : State) (u key v : Nat) : State := patRefresh (setN s key v) u

end Sys2Proof.Machine
end

