-- ==== Sys2Proof/Machine/Rules.lean ====
section
/-! DEFINITION. Bound cells, rule tables, gauges and blink generators (04): the resolution of a bound cell by R102. -/
namespace Sys2Proof.Machine

/-- A word of a rule table (R104). -/
def ruleWord (rules : SMap Nat) (table word : Nat) : Nat := mapGet (fun _ => 0) rules (table * 64 + word)

/-- Bound k of a table (R104). -/
def ruleBound (rules : SMap Nat) (table k : Nat) : Nat := bits (ruleWord rules table (4 + k / 2)) (16 * (k % 2)) 16

/-- A 16-bit value read with the signal's signedness (R107). -/
def readSigned (signed : Bool) (v : Nat) : Int := if signed then toSigned 16 v else (v % 65536 : Nat)

/-- The band of a value (R107): the highest k in 1 to B - 1 whose bound is at or below it, else 0. -/
def selectBand (rules : SMap Nat) (table : Nat) (value : Int) (signed : Bool) : Nat :=
  let nb := bits (ruleWord rules table 0) 8 4
  ((List.range (nb + 1)).filter (fun k => decide (0 < k) && decide (readSigned signed (ruleBound rules table k) ≤ value))).foldl max 0

/-- Whether the gauge ramp of a table is in use; a reserved STEPS acts as EN = 0 (R105, R116). -/
def gaugeOn (g : Nat) : Bool := bitAt g 0 && decide (0 < bits g 16 5) && decide (bits g 16 5 ≤ 16)

/-- The fill of a gauge (R110). -/
def gaugeFill (value lo hi : Int) (cells steps : Nat) : Nat :=
  if value ≤ lo then 0 else if hi ≤ value then cells * steps
  else (((value - lo) * (cells * steps : Nat)) / (hi - lo)).toNat

/-- The band-stage tile of a cell at offset o (R109, R110). -/
def bandTile (rules : SMap Nat) (table app : Nat) (value : Int) (signed : Bool) (o : Nat) : Nat :=
  let g := ruleWord rules table 1
  let n := bits g 8 8 + 1
  let st := bits g 16 5
  if !(gaugeOn g) then bits app 0 14 + o
  else if n ≤ o then bits app 0 14 + (o - n)
  else
    let r := ruleWord rules table 48
    let fill := gaugeFill value (readSigned signed (bits r 0 16)) (readSigned signed (bits r 16 16)) n st
    let p := if bitAt g 21 then n - 1 - o else o
    bits (ruleWord rules table 49) 0 14 + min st (fill - p * st)

/-- The selector of an alarm (R105, R108). -/
def alarmSel (m alarm : Nat) (unack : Bool) : Nat :=
  if 1 ≤ alarm ∧ alarm ≤ 7 then bits m (3 * alarm - 3) 3
  else if alarm = 0 ∧ unack then bits m 21 3 else 0

/-- A selector names an appearance when it is 1 to 4; reserved values act as 0 (R116). -/
def selOk (v : Nat) : Bool := decide (1 ≤ v) && decide (v ≤ 4)

/-- Where the final appearance came from. -/
inductive Cand where
  | band | stale | quality | alarm
  deriving DecidableEq, Repr

/-- The final appearance of a signal word in a table: its origin and its word (R102, R108). -/
def finalApp (rules : SMap Nat) (table w : Nat) (signed : Bool) : Cand × Nat :=
  let ctl := ruleWord rules table 0
  let am := ruleWord rules table 2
  let q := sigQuality w
  let qs := if 1 ≤ q ∧ q ≤ 5 then bits (ruleWord rules table 3) (3 * q - 3) 3 else 0
  let as_ := if sigShelved w && bitAt am 25 then 0 else alarmSel am (sigAlarm w) (sigUnack w)
  let stale := !(bits ctl 0 7 == 0) && decide (bits ctl 0 7 ≤ sigAge w)
  let alarm := (Cand.alarm, ruleWord rules table (32 + (as_ - 1)))
  let quality := (Cand.quality, ruleWord rules table (36 + (qs - 1)))
  let rest := if stale then (Cand.stale, ruleWord rules table 40)
    else (Cand.band, ruleWord rules table (16 + selectBand rules table (readSigned signed (sigValue w)) signed))
  if bitAt ctl 12 then (if selOk qs then quality else if selOk as_ then alarm else rest)
  else (if selOk as_ then alarm else if selOk qs then quality else rest)

/-- The tile and the palette, or transparency, that a bound cell resolves to (R102, R109, R112). -/
def resolveCell (rules : SMap Nat) (blink cell w : Nat) (signed : Bool) : Nat × Option Nat :=
  let table := bits cell 26 5
  let o := bits cell 0 8
  let (c, app) := finalApp rules table w signed
  let value := readSigned signed (sigValue w)
  let bandApp := ruleWord rules table (16 + selectBand rules table value signed)
  let tile := if c = .band ∨ bitAt app 30 then bandTile rules table bandApp value signed o else bits app 0 14 + o
  let b := bits app 20 3
  let steady := b == 0 || decide (4 < b) || (c == .alarm && bitAt (ruleWord rules table 2) 24 && !(sigUnack w))
  let pal := if steady || bitAt blink (b - 1) then some (bits app 14 6)
    else if bitAt app 29 then none else some (bits app 23 6)
  (tile % 16384, pal)

/-- Whether a signal's class is signed, from the class parameters latched at the commit instant (R49, R107). -/
def sigSigned (s : State) (n : Nat) : Bool := flag s (entryKey 0x2202 (attrClass (attrOf s n))) 0

/-! ### Blink generators (R111, R113) -/

/-- The phase of generator g in frame f, from the current settings. -/
def blinkOn (s : State) (g f : Nat) : Bool :=
  let w := regN s (entryKey 0x22F1 (0x10 + g))
  if g = 3 then bitAt (bits w 0 16) (f / bits w 16 8 % 16) else decide ((f + bits w 16 8) % bits w 0 8 < bits w 8 8)

/-- BLINK_STATE of a frame. -/
def blinkWord (s : State) (f : Nat) : Nat := (List.range 4).foldl (fun a g => if blinkOn s g f then a + 2 ^ g else a) 0

/-! ### Rule load checks (R116) -/

/-- Whether an appearance word holds reserved content. -/
def appReserved (a : Nat) : Bool := bitAt a 31 || decide (4 < bits a 20 3)

/-- Whether word `i` of a rule table holds reserved content. -/
def ruleReserved (i w : Nat) : Bool :=
  if i = 0 then bitAt w 7 || !(bits w 13 19 == 0)
  else if i = 1 then !(bits w 1 7 == 0) || !(bits w 22 10 == 0) || decide (16 < bits w 16 5) || (bitAt w 0 && bits w 16 5 == 0)
  else if i = 2 then !(bits w 26 6 == 0) || (List.range 8).any (fun c => decide (4 < bits w (3 * c) 3))
  else if i = 3 then !(bits w 15 17 == 0) || (List.range 5).any (fun c => decide (4 < bits w (3 * c) 3))
  else if i ≤ 11 ∨ i = 48 then false
  else if (16 ≤ i ∧ i ≤ 40) then appReserved w
  else if i = 49 then !(bits w 14 18 == 0)
  else !(w == 0)

end Sys2Proof.Machine
end

