-- ==== Sys2Proof/Machine/Planes.lean ====
section
/-! DEFINITION. The plane engines, engines 20 to 27 (03): coordinates, windows, tile and bitmap pixels, the line latch and fetch, underflow, fetch
errors and retirement. -/
namespace Sys2Proof.Machine

/-- Entry `sub` of plane n: staged at 0, current at 1, status at 2 (R73). -/
def planeKey (n i sub : Nat) : Nat := entryKey (0x2500 + 64 * n + i) sub

/-- The entries a plane samples at a latch point, by subindex (R89). -/
def samplePlane (s : State) (n : Nat) : List (Nat × Nat) := (List.range 18).map (fun i => (i + 1, regN s (planeKey n 1 (i + 1))))

/-- A sampled entry. -/
def samp (e : List (Nat × Nat)) (sub : Nat) : Nat := match e.lookup sub with
  | some v => v
  | none => 0

/-- Expansions to 12 bits (R82, R86). -/
def exp10 (c : Nat) : Nat := c * 4 + c / 256
def exp8 (c : Nat) : Nat := c * 16 + c / 16
def exp6 (c : Nat) : Nat := c * 64 + c
def exp5 (c : Nat) : Nat := c * 128 + c * 4 + c / 8

/-- A 30-bit colour as 12-bit components. -/
def colour30 (c : Nat) : Nat × Nat × Nat := (exp10 (bits c 20 10), exp10 (bits c 10 10), exp10 (bits c 0 10))

/-- A palette reference resolved through a palette RAM (R86): colour in bits [29:0], alpha in [37:30]. -/
def palPx (pal : SMap Nat) (p i prio : Nat) : Px :=
  let v := mapGet (fun _ => 0) pal (p * 256 + i)
  let (r, g, b) := colour30 v
  ⟨r, g, b, bits v 30 8, prio⟩

/-- An opaque pixel of a 30-bit colour. -/
def solidPx (c prio : Nat) : Px := let (r, g, b) := colour30 c; ⟨r, g, b, 255, prio⟩

/-- The RAM copies that a renderer resolves through: the composer's or the shadow renderer's (R86, R115, R205). -/
structure Rams where
  pal : SMap Nat
  rules : SMap Nat

def displayRams (s : State) : Rams := ⟨s.gfx.pal, s.gfx.rules⟩
def shadowRams (s : State) : Rams := ⟨s.gfx.palShadow, s.gfx.rulesShadow⟩

/-- Cells of a map dimension code (R97). -/
def mapCells (c : Nat) : Nat := 32 * 2 ^ c

/-- Whether a pixel is inside a window given by its X and Y entries (R77). -/
def inWindow (wx wy x y : Nat) : Bool :=
  decide (bits wx 0 13 ≤ x) && decide (x < bits wx 16 13) && decide (bits wy 0 13 ≤ y) && decide (y < bits wy 16 13)

/-- Whether a plane is visible at a pixel (R77). -/
def planeVisible (e : List (Nat × Nat)) (x y : Nat) : Bool :=
  let c := (if inWindow (samp e 9) (samp e 10) x y then 2 else 0) + (if inWindow (samp e 7) (samp e 8) x y then 1 else 0)
  bitAt (samp e 0x12) c

/-- The line scroll offsets of a line (R76). -/
def lineScroll (s : State) (e : List (Nat × Nat)) (y : Nat) : Int × Int :=
  if bitAt (samp e 1) 3 then
    let w := vsramWord s (bits (samp e 6) 0 17 * 64 + 4 * y)
    (toSigned 16 w, toSigned 16 (w / 65536))
  else (0, 0)

/-- Source coordinates of a screen pixel (R75). -/
def srcCoord (e : List (Nat × Nat)) (d : Int × Int) (x y : Nat) : Int × Int :=
  ((x : Int) + toSigned 16 (samp e 3) + d.1, (y : Int) + toSigned 16 (samp e 4) + d.2)

/-- Pixel `i` of row `r` of a tile pattern (R80). -/
def patternPixel (s : State) (base tile size bpp r i : Nat) : Nat :=
  let bit := (r * size + i) * bpp
  bits (byteAt s.mem.vsram ((base + tile * (size * size * bpp / 8) + bit / 8) % vsramSize)).toNat (bit % 8) bpp

/-- A pixel of a tile plane (R78 to R80, R101). -/
def tilePixel (s : State) (ram : Rams) (e : List (Nat × Nat)) (u v : Int) : Option Px :=
  let map := samp e 2
  let pat := samp e 5
  let size := if bitAt pat 17 then 16 else 8
  let bpp := 2 ^ bits pat 18 2
  let w := mapCells (bits map 17 3)
  let h := mapCells (bits map 20 3)
  let uu := (u % (w * size : Nat)).toNat
  let vv := (v % (h * size : Nat)).toNat
  let cell := vsramWord s (bits map 0 17 * 64 + 4 * (vv / size * w + uu / size))
  let px := uu % size
  let py := vv % size
  let bound := bitAt cell 31
  let sig := bits cell 8 18
  let (tile, pal) := if bound then resolveCell ram.rules s.gfx.blink cell (dispOf s sig) (sigSigned s sig)
    else (bits cell 0 14, some (bits cell 14 6))
  let i := if !bound && bitAt cell 20 then size - 1 - px else px
  let r := if !bound && bitAt cell 21 then size - 1 - py else py
  let idx := patternPixel s (bits pat 0 17 * 64) tile size bpp r i
  let prio := if bound then bits (samp e 1) 4 2 else bits cell 22 2
  match pal with
  | none => none
  | some p => if bitAt (samp e 1) 2 && idx == 0 then none else some (palPx ram.pal p idx prio)

/-- Bytes per pixel of a bitmap format (R82). -/
def bmpBytes (fmt : Nat) : Nat := if fmt = 0 then 1 else if fmt = 1 then 2 else 4

/-- Whether a bitmap plane's source is external memory (R83). -/
def bmpExternal (e : List (Nat × Nat)) : Bool := bitAt (samp e 1) 1 && bitAt (samp e 0x0B) 2

/-- The address of bitmap pixel (u, v) (R82, R83). -/
def bmpAddr (e : List (Nat × Nat)) (u v : Nat) : Nat :=
  let base := if bitAt (samp e 0x0B) 2 then bits (samp e 0x0C) 6 26 * 64 + bits (samp e 0x0D) 0 8 * 2 ^ 32
    else bits (samp e 0x0C) 6 17 * 64
  base + v * (bits (samp e 0x0F) 0 12) * 64 + u * bmpBytes (bits (samp e 0x0B) 0 2)

/-- Whether source coordinates lie inside the bitmap (R75). -/
def bmpInside (e : List (Nat × Nat)) (u v : Int) : Bool :=
  decide (0 ≤ u) && decide (u ≤ (bits (samp e 0x0E) 0 12 : Nat)) && decide (0 ≤ v) && decide (v ≤ (bits (samp e 0x0E) 16 12 : Nat))

/-- A pixel of a bitmap plane (R82). -/
def bmpPixel (s : State) (ram : Rams) (e : List (Nat × Nat)) (u v : Int) : Option Px :=
  if !(bmpInside e u v) then none
  else
    let a := bmpAddr e u.toNat v.toNat
    let fmt := bits (samp e 0x0B) 0 2
    let w := if bitAt (samp e 0x0B) 2 then ofBytes (extRead s a (bmpBytes fmt))
      else ofBytes (readBytes vsramSize s.mem.vsram a (bmpBytes fmt))
    let prio := bits (samp e 1) 4 2
    if fmt = 0 then
      (if bitAt (samp e 1) 2 && w == 0 then none else some (palPx ram.pal (bits (samp e 0x0B) 8 6) w prio))
    else if fmt = 1 then some ⟨exp5 (bits w 11 5), exp6 (bits w 5 6), exp5 (bits w 0 5), 255, prio⟩
    else if fmt = 2 then some ⟨exp8 (bits w 16 8), exp8 (bits w 8 8), exp8 (bits w 0 8), bits w 24 8, prio⟩
    else some ⟨exp10 (bits w 20 10), exp10 (bits w 10 10), exp10 (bits w 0 10), bits w 30 2 * 85, prio⟩

/-- A plane's pixel without culling or underflow, from sampled entries (R75, R77). -/
def planePixel (s : State) (ram : Rams) (e : List (Nat × Nat)) (d : Int × Int) (x y : Nat) : Option Px :=
  if !(bitAt (samp e 1) 0) || !(planeVisible e x y) then none
  else
    let (u, v) := srcCoord e d x y
    if bitAt (samp e 1) 1 then bmpPixel s ram e u v else tilePixel s ram e u v

/-- The occluder that culls a plane's tile at a pixel, if any (R148). -/
def cullAt (s : State) (n x y : Nat) : Option Nat :=
  (s.gfx.cull.find? (fun c => c.plane == n && decide (c.s0 ≤ x / 64) && decide (x / 64 < c.s1) && decide (c.b0 ≤ y / 16) &&
    decide (y / 16 < c.b1))).map CullRect.occluder

/-- Whether a plane fetches for a pixel: visible somewhere on the line is decided by the caller; not culled, and inside a bitmap (R84, R85). -/
def planeNeeds (s : State) (e : List (Nat × Nat)) (d : Int × Int) (n x y : Nat) : Bool :=
  (cullAt s n x y).isNone && (!(bitAt (samp e 1) 1) || (let (u, v) := srcCoord e d x y; bmpInside e u v))

/-- Whether some pixel of a plane is visible on a line (R85). -/
def lineVisible (s : State) (e : List (Nat × Nat)) (y : Nat) : Bool := (List.range (compW s)).any (fun x => planeVisible e x y)

/-- The pixels of a plane's line, culled spans transparent (R85), with the line's scroll word. -/
def planeLine (s : State) (e : List (Nat × Nat)) (d : Int × Int) (n y : Nat) : List (Option Px) :=
  (List.range (compW s)).map (fun x => if (cullAt s n x y).isSome then none else planePixel s (displayRams s) e d x y)

/-- The columns that a plane fetches on a line (R84, R85). -/
def neededCols (s : State) (e : List (Nat × Nat)) (d : Int × Int) (n y : Nat) : List Nat :=
  (List.range (compW s)).filter (fun x => planeNeeds s e d n x y)

/-! ### Accesses of a line (R84, R91) -/

/-- The cell address that a column of a tile plane reads (R78). -/
def cellAddr (e : List (Nat × Nat)) (d : Int × Int) (x y : Nat) : Nat :=
  let map := samp e 2
  let size := if bitAt (samp e 5) 17 then 16 else 8
  let w := mapCells (bits map 17 3)
  let h := mapCells (bits map 20 3)
  let (u, v) := srcCoord e d x y
  bits map 0 17 * 64 + 4 * ((v % (h * size : Nat)).toNat / size * w + (u % (w * size : Nat)).toNat / size)

/-- The bitmap byte address that a column reads. -/
def colAddr (e : List (Nat × Nat)) (d : Int × Int) (x y : Nat) : Nat := let (u, v) := srcCoord e d x y; bmpAddr e u.toNat v.toNat

/-- What fetching some columns of a line costs: bank-clocks of VSRAM (R91), bound cells, external granules of 64 bytes. A tile line reads each map
granule twice a clock and a pattern row for each cell; a bitmap in VSRAM is read in 32-byte accesses. -/
def fetchCost (s : State) (e : List (Nat × Nat)) (d : Int × Int) (y : Nat) (cols : List Nat) : Nat × Nat × Nat :=
  if bitAt (samp e 1) 1 then
    (if bmpExternal e then (0, 0, accessRuns (cols.map (fun x => colAddr e d x y / 64)))
     else (accessRuns (cols.map (fun x => colAddr e d x y / 32)), 0, 0))
  else
    let cells := runHeads (cols.map (fun x => cellAddr e d x y))
    (2 * accessRuns (cells.map (· / 64)) + cells.length, (cells.filter (fun a => bitAt (vsramWord s a) 31)).length, 0)

/-- The performance events of the columns fetched on a line (R465). -/
def fetchCounted (s : State) (e : List (Nat × Nat)) (d : Int × Int) (n y : Nat) (cols : List Nat) : State :=
  let (banks, bound, gran) := fetchCost s e d y cols
  perfEvent (perfEvent (perfEvent (perfEvent s (20 + n) 0x22 banks) (20 + n) 0x21 bound) (20 + n) 0x23 gran) 18 0x20 gran

/-- Plane n's engine state. -/
def planeOf (s : State) (n : Nat) : Plane := mapGet (fun _ => {}) s.gfx.planes n
def setPlane (s : State) (n : Nat) (p : Plane) : State := { s with gfx := { s.gfx with planes := mapSet (fun _ => {}) s.gfx.planes n p } }

/-- An external bitmap while engine 18 is off: it is never requested (R44, R94). -/
def unserved (s : State) (e : List (Nat × Nat)) : Bool := bmpExternal e && !(engineOn s 18)

/-- Whether a buffered line is still to be fetched. -/
def fetching (s : State) (b : LineBuf) : Bool := !b.done && !(unserved s b.entries)

/-- The fetch in progress of a plane: lines are fetched one after the other (R89). -/
def fetchRun (s : State) (n : Nat) : Option LineBuf := (planeOf s n).bufs.find? (fetching s)

/-- PLANE_STATUS.FETCHING follows whether a fetch is in progress (R98). -/
def fetchStatus (s : State) (n : Nat) : State := setFld s (planeKey n 2 1) 0 1 (if (fetchRun s n).isSome then 1 else 0)

/-- The granules of external memory that a line's fetch requests (R84). -/
def lineGranules (s : State) (n : Nat) (b : LineBuf) : Nat :=
  if bmpExternal b.entries then (fetchCost s b.entries b.scroll b.line (neededCols s b.entries b.scroll n b.line)).2.2 else 0

/-- The next fetch begins, or none is left: FETCHING, and the requests of an external bitmap (R35, R89, R98). -/
def fetchNext (s : State) (n : Nat) : State :=
  let s1 := fetchStatus s n
  match fetchRun s n with
  | none => requestsDone s1 n
  | some b => requestsIssue s1 n (lineGranules s n b)

/-- A plane engine at a latch point L(y) (R89): it samples its current entries and the line scroll word, notes the line, asserts LINE_MATCH, and
starts the fetch of a line that needs one, after the line before. -/
def planeLatch (s : State) (y n : Nat) : State :=
  if !(engineOn s (20 + n)) then s
  else
    let e := samplePlane s n
    let d := lineScroll s e y
    let shown := bitAt (samp e 1) 0 && lineVisible s e y
    let fetch := shown && (unserved s e || !(neededCols s e d n y).isEmpty)
    let p := planeOf s n
    let buf : LineBuf := ⟨y, !fetch, none, e, d, if fetch then [] else (List.range (compW s)).map (fun _ => none)⟩
    let kept := if y = 0 then [] else p.bufs.filter (fun b => decide (y ≤ b.line + 1) && !(b.line == y))
    let s1 := setPlane s n { p with bufs := kept ++ [buf] }
    let s2 := setFld s1 (planeKey n 2 1) 16 13 y
    let s3 := if kept.any (fetching s) then s2 else fetchNext s2 n
    let s4 := if bitAt (samp e 1) 0 && bitAt (samp e 1) 3 then perfEvent s3 (20 + n) 0x22 1 else s3
    let s5 := if shown then
        perfEvent s4 (20 + n) 0x25 (s.gfx.cull.filter (fun c => c.plane == n && decide (c.b0 ≤ y / 16) && decide (y / 16 < c.b1))).length
      else s4
    if bitAt (samp e 1) 0 && samp e 0x11 == y then icAssert s5 (320 + 16 * n + 4) else s5

/-- A line's buffer after its fetch ended, complete or not. -/
def endLine (s : State) (n y : Nat) (f : LineBuf → LineBuf) : State :=
  let p := planeOf s n
  setPlane s n { p with bufs := p.bufs.map (fun b => if b.line = y then { f b with done := true } else b) }

/-- A fetch error of line y at a granule (R94), while that line is fetched: counted once for the line, no further request of the line. Pixels of lower
granules are taken as written (DESIGN CHOICE, log 100). -/
def fetchError (s : State) (n y granule : Nat) : State :=
  match fetchRun s n with
  | none => s
  | some b =>
    if !(b.line == y) || !(bmpExternal b.entries) then s
    else
      let g := alignDown granule 64
      let px := planeLine s b.entries b.scroll n y
      let s1 := endLine s n y (fun c => { c with errAt := some g, px := px })
      let s2 := setPair (bump (mcAddrError s1 g) (planeKey n 2 6)) (planeKey n 2 7) (planeKey n 2 8) (g % 2 ^ 40)
      let s3 := fetchCounted s2 b.entries b.scroll n y
        ((neededCols s b.entries b.scroll n y).filter (fun x => decide (colAddr b.entries b.scroll x y < g)))
      fetchNext (setFlag s3 (planeKey n 2 2) 1) n

/-- The lowest granule of an external bitmap line that is answered with an error, if any (R39, R94): one at or above EXT_MEM_SIZE, or the first of a
controller that is not trained. -/
def lineBeyond (s : State) (n : Nat) (b : LineBuf) : Option Nat :=
  if !(bmpExternal b.entries) then none
  else
    match ((neededCols s b.entries b.scroll n b.line).map (fun x => colAddr b.entries b.scroll x b.line)).filter
      (fun a => !(extServes s) || decide (extFitted s ≤ a)) with
    | [] => none
    | a :: as_ => some (alignDown (as_.foldl min a) 64)

/-- A plane engine completes the fetch of line y, which is the one it fetches (R89, R94). -/
def lineFetched (s : State) (n y : Nat) : State :=
  match fetchRun s n with
  | none => s
  | some b =>
    if !(b.line == y) then s
    else match lineBeyond s n b with
      | some g => fetchError s n y g
      | none =>
        let px := planeLine s b.entries b.scroll n y
        let s1 := endLine s n y (fun c => { c with px := px })
        fetchNext (perfEvent (fetchCounted s1 b.entries b.scroll n y (neededCols s b.entries b.scroll n y)) (20 + n) 0x20 1) n

/-- Where plane n underflows on line y (R93, R94): the first needed pixel at or beyond what is written, the first pixel of an erroneous granule, or the
first visible pixel of an external bitmap while engine 18 is off. -/
def underflowAt (s : State) (n y written : Nat) (b : LineBuf) : Option Nat :=
  if !b.done then
    (if unserved s b.entries then (List.range (compW s)).find? (fun x => planeVisible b.entries x y && (cullAt s n x y).isNone)
      else (neededCols s b.entries b.scroll n y).find? (fun x => decide (written ≤ x)))
  else match b.errAt with
    | none => none
    | some g => (neededCols s b.entries b.scroll n y).find? (fun x => decide (g ≤ colAddr b.entries b.scroll x y))

/-- The flags and records of an underflow (R93). -/
def planeUnderflow (s : State) (n x y frame : Nat) : State :=
  let s1 := bump s (planeKey n 2 5)
  let s2 := if flag s (planeKey n 2 2) 0 then s1
    else setN (setN s1 (planeKey n 2 3) (x % 8192 + y % 8192 * 65536 + 2 ^ 31)) (planeKey n 2 4) frame
  healthEvent (setFlag (perfEvent s2 (20 + n) 0x24 1) (planeKey n 2 2) 0) 8

/-- What the composer reads of plane n on line y, and the state after an underflow. -/
def planeDelivers (s : State) (n y written frame : Nat) : State × List (Option Px) :=
  let none_ := (List.range (compW s)).map (fun _ => (none : Option Px))
  if !(engineOn s (20 + n)) || engineDark s (20 + n) then (s, none_)
  else match (planeOf s n).bufs.find? (fun b => b.line == y) with
  | none => (s, none_)
  | some b =>
    let px := if b.done then b.px else planeLine s b.entries b.scroll n y
    match underflowAt s n y written b with
    | none => (s, px)
    | some x =>
      let ufl := solidPx (bits (samp b.entries 0x10) 0 30) (bits (samp b.entries 1) 4 2)
      let out := (px.zipIdx).map (fun q => if q.2 < x then q.1
        else if planeVisible b.entries q.2 y && (cullAt s n q.2 y).isNone then some ufl else none)
      let s1 := endLine s n y id
      let s2 := if fetching s b then
          fetchNext (fetchCounted s1 b.entries b.scroll n y ((neededCols s b.entries b.scroll n y).filter (fun c => decide (c < written)))) n
        else s1
      (planeUnderflow s2 n x y frame, out)

/-- The retire event of a bitmap base at the commit instant of frame f + 1 (R95): `old` and `new` are the current entries before and after. -/
def planeRetire (s : State) (n f : Nat) (old new : List (Nat × Nat)) : State :=
  let used := bitAt (samp old 1) 0 && bitAt (samp old 1) 1
  let changed := !(samp old 0x0C == samp new 0x0C) || !(samp old 0x0D == samp new 0x0D) ||
    !(bitAt (samp old 0x0B) 2 == bitAt (samp new 0x0B) 2) || !(bitAt (samp new 1) 0) || !(bitAt (samp new 1) 1)
  if used && changed then icAssert (setN s (planeKey n 2 9) f) (320 + 16 * n + 3) else s

end Sys2Proof.Machine
end

