-- ==== Sys2Proof/Machine/LineSeq.lean ====
section
/-! DEFINITION. The line sequencer, engine 10 (05): the drizzle list, one command at a time. -/
namespace Sys2Proof.Machine

def kLsFlags : Nat := entryKey 0x2282 2

/-- The list command at index `i` (R129), four words from VSRAM. -/
def lsRead (s : State) (i : Nat) : List Nat := (List.range 4).map (fun w => vsramWord s (fld s (entryKey 0x2281 2) 0 17 * 64 + 16 * i + 4 * w))

/-- The list's length. -/
def lsLen (s : State) : Nat := regN s (entryKey 0x2281 3)

/-- Word `w` of the command at the sequencer's place: the head of the FIFO (R136). -/
def lsWord (s : State) (w : Nat) : Nat := match s.gfx.ls.fifo with
  | cmd :: _ => cmd[w]?.getD 0
  | [] => 0

/-- One access of R136, while the FIFO has room for two more commands and the list holds more; it costs a bank-clock. -/
def lsAccess (s : State) : State :=
  let l := s.gfx.ls
  let at_ := l.pc + l.fifo.length
  if decide (14 < l.fifo.length) || decide (lsLen s ≤ at_) then s
  else
    let got := ([at_, at_ + 1].filter (fun i => decide (i < lsLen s))).map (lsRead s)
    perfEvent { s with gfx := { s.gfx with ls := { l with fifo := l.fifo ++ got } } } 9 0x22 1

/-- The FIFO is filled: at most eight accesses. -/
def lsFill (s : State) : State := if s.gfx.ls.running then (List.range 8).foldl (fun t _ => lsAccess t) s else s

/-- LS_STATUS follows the sequencer (R138). -/
def lsStatus (s : State) : State :=
  setN s (entryKey 0x2282 1) ((if s.gfx.ls.running then 1 else 0) + (if s.gfx.ls.ended then 2 else 0) + s.gfx.ls.pc % 4096 * 65536)

/-- Replaces the sequencer's place. -/
def setLs (s : State) (l : LineSeq) : State := lsStatus { s with gfx := { s.gfx with ls := l } }

/-- The list is abandoned at a commit instant and the sequencer reset (R131); LS_LAST_EXEC takes the frame's executions. -/
def lsReset (s : State) : State := setLs (setN s (entryKey 0x2282 0x0A) (min s.gfx.ls.execs 65535)) {}

/-- From P the list runs while LS_CTRL.EN is 1 (R131). -/
def lsStart (s : State) : State :=
  if engineOn s 10 && flag s (entryKey 0x2281 1) 0 then lsFill (setLs s { running := true }) else s

/-- Records a list error (R135). -/
def lsError (s : State) (index cause : Nat) : State :=
  let s1 := if flag s kLsFlags 2 then s else setN s (entryKey 0x2282 5) (index % 4096 + cause * 4096 + 2 ^ 31)
  setFlag s1 kLsFlags 2

/-- Stops the list on an error or the budget: LIST_DONE is not asserted (R131). -/
def lsStop (s : State) : State := setLs s { s.gfx.ls with running := false }

/-- The entry a TARGET code names, as index and subindex of the current copy, with the engine it belongs to (R133). -/
def lsTarget (t : Nat) : Option (Nat × Nat × Nat) :=
  let n := t / 16
  let e := t % 16
  if t < 0x80 then
    (if e < 9 then some (0x2501 + 64 * n, ([2, 3, 4, 5, 7, 8, 9, 10, 0x12][e]?).getD 2, 20 + n) else none)
  else if t = 0x80 then some (0x2241, 2, 9)
  else if t = 0x81 then some (0x2241, 3, 9)
  else if t = 0x82 then some (0x2241, 4, 9)
  else if t = 0x90 then some (0x22C1, 2, 11)
  else if t = 0x91 then some (0x22C1, 3, 11)
  else if 0x98 ≤ t ∧ t < 0xA0 then some (0x22C1, 8 + (t - 0x98), 11)
  else none

/-- A WRITE to a current entry (R132): the masked value is checked as a local write of the staged entry. -/
def lsWriteEntry (s : State) (idx sub value mask : Nat) : State :=
  match dictRow? (idx - 1) sub with
  | none => s
  | some r =>
    let tm := 2 ^ typeBits r.typ - 1
    let old := regN s (entryKey idx sub)
    let v := maskClear old (maskAnd mask tm) ||| maskAnd value (maskAnd mask tm)
    let c := checkWrite s r (idx - 1) sub (extendType r.typ v)
    let s1 := if c.rsvd then bump s (entryKey 0x2282 0x0B) else s
    let s2 := if c.cfg then setFlag s1 kLsFlags 4 else s1
    setN s2 (entryKey idx sub) (applyChecked c old)

/-- The beam position of a command in pixel clocks from the first pixel of line 0 (R130). -/
def lsPosition (s : State) (c line : Nat) : Nat :=
  let m := compMode s
  let px := if bitAt c 14 then m.hAct else min (bits c 16 13) (m.hTot - 1)
  line * m.hTot + px

/-- The effective line of a command. -/
def lsLine (s : State) (c : Nat) : Nat := bits c 0 13 + (if bitAt c 13 then s.gfx.ls.d else 0)

/-- Whether a command has nonzero reserved bits (R129). -/
def lsRsvd (s : State) : Bool :=
  let w0 := lsWord s 0
  let op := bits w0 29 3
  bitAt w0 15 ||
  (if op = 1 then !(bits (lsWord s 1) 8 24 == 0)
   else if op = 3 then !(bits (lsWord s 1) 12 20 == 0) || !(bits (lsWord s 2) 13 19 == 0) || !(bits (lsWord s 3) 13 19 == 0)
   else !(lsWord s 1 == 0 && lsWord s 2 == 0 && lsWord s 3 == 0))

/-- A late execution (R134): counted, and recorded when LATE was 0. -/
def lsLate (s : State) (i line frame : Nat) : State :=
  let s1 := bump s (entryKey 0x2282 8)
  let s2 := if flag s kLsFlags 0 then s1
    else setN (setN s1 (entryKey 0x2282 3) (i % 4096 + line % 8192 * 65536 + 2 ^ 31)) (entryKey 0x2282 4) frame
  setFlag s2 kLsFlags 0

/-- What a positioned command does at its position: WRITE, WAIT or MARK (R132, R133). -/
def lsAct (s : State) (i op : Nat) : State :=
  if op = 1 then
    match lsTarget (bits (lsWord s 1) 0 8) with
    | none => lsError s i 3
    | some (idx, sub, e) =>
      if engineOn s e then lsWriteEntry s idx sub (lsWord s 2) (lsWord s 3)
      else perfEvent (setFlag (bump s (entryKey 0x2282 9)) kLsFlags 1) 10 0x22 1
  else if op = 4 then icAssert (setN s (entryKey 0x2282 6) (i % 4096)) 166
  else s

/-- A positioned command executes, `late` pixel clocks after its scheduled clock (R131). -/
def lsExecute (s : State) (i op late frame : Nat) : State :=
  let c := lsWord s 0
  let line := lsLine s c
  if compH s ≤ line then lsStop (lsError s i 7)
  else if 4096 ≤ s.gfx.ls.execs then lsStop (setFlag s kLsFlags 3)
  else
    let pos := lsPosition s c line
    let after := match s.gfx.ls.last with
      | some t => t + 1
      | none => 0
    let ordered := match s.gfx.ls.last with
      | some t => decide (t < pos)
      | none => true
    let s1 := if ordered then s else lsError s i 1
    let s2 := if late = 0 then s1 else lsLate s1 i line frame
    let s3 := perfEvent (bump (lsAct s2 i op) (entryKey 0x2282 7)) 10 0x20 1
    lsFill (setLs s3 { s3.gfx.ls with
      last := some (max pos after + late), execs := s.gfx.ls.execs + 1, pc := i + 1, fifo := s.gfx.ls.fifo.drop 1 })

/-- A LOOP command (R131); a jump back discards the commands held and fetches again from BACK (R136). -/
def lsLoop (s : State) (i : Nat) : State :=
  let l := s.gfx.ls
  let back := bits (lsWord s 1) 0 12
  if i ≤ back then lsStop (lsError s i 6)
  else if l.active && !(i == l.loopPc) then lsStop (lsError s i 5)
  else
    let k := if l.active then l.k else bits (lsWord s 2) 0 13
    if 0 < k then lsFill (setLs s { l with active := true, loopPc := i, k := k - 1, d := l.d + bits (lsWord s 3) 0 13, pc := back, fifo := [] })
    else lsFill (setLs s { l with active := false, loopPc := i, k := 0, d := 0, pc := i + 1, fifo := l.fifo.drop 1 })

/-- The list ends: LS_STATUS.ENDED and LIST_DONE (R131). -/
def lsEnd (s : State) : State := icAssert (setLs s { s.gfx.ls with running := false, ended := true }) 160

/-- The next command of the list, when its operation is the one named or a reserved one; index LS_LIST_LEN acts as END. -/
def lsStep (s : State) (op late frame : Nat) : State :=
  let i := s.gfx.ls.pc
  if !s.gfx.ls.running then s
  else if lsLen s ≤ i then (if op = 0 then lsEnd s else s)
  else
    let o := bits (lsWord s 0) 29 3
    let s1 := if lsRsvd s && (o == op || decide (4 < o)) then lsError s i 2 else s
    if 4 < o then lsStop (lsError s1 i 4)
    else if !(o == op) then s
    else if o = 0 then lsEnd s1
    else if o = 3 then lsLoop s1 i
    else lsExecute s1 i o late frame

end Sys2Proof.Machine
end

