-- ==== Sys2Proof/Machine/Sprites.lean ====
section
/-! DEFINITION. The sprite engine, engine 9 (05): attributes, bound positions, selection and drawing of a line. -/
namespace Sys2Proof.Machine

/-- A word of a sprite's attribute record (R119). -/
def sprWord (s : State) (n w : Nat) : Nat := mapGet (fun _ => 0) s.gfx.sprAttr (n * 8 + w)

/-- SPR_CTRL.EN of the current copy (R493). -/
def sprEnabled (s : State) : Bool := flag s (entryKey 0x2241 1) 0

/-- A size code in pixels (R119). -/
def sprSize (c : Nat) : Nat := 8 * 2 ^ c

/-- Whether a sprite is enabled: a reserved W or H disables it (R121). -/
def sprOn (s : State) (n : Nat) : Bool :=
  let w := sprWord s n 1
  bitAt w 29 && decide (bits w 17 3 ≤ 4) && decide (bits w 20 3 ≤ 4)

/-- A coordinate bound to a signal (R122): the sum saturates to 16 bits, the product is shifted towards minus infinity. -/
def boundCoord (s : State) (base : Int) (sig scaleWord : Nat) : Int :=
  let v := readSigned (sigSigned s sig) (sigValue (dispOf s sig))
  clampInt (-32768) 32767 (base + (v * toSigned 16 scaleWord) / (2 ^ bits scaleWord 16 4 : Nat))

/-- The position of a sprite in the frame (R122). -/
def sprPosition (s : State) (n : Nat) : SpritePos :=
  let w0 := sprWord s n 0
  let w2 := sprWord s n 2
  let sx := bits (sprWord s n 3) 0 18
  let sy := bits (sprWord s n 4) 0 18
  let x0 := toSigned 16 w0
  let y0 := toSigned 16 (w0 / 65536)
  let badq (sig : Nat) : Bool := sigQuality (dispOf s sig) == 2 || sigQuality (dispOf s sig) == 3
  ⟨n, if bitAt w2 8 then boundCoord s x0 sx (sprWord s n 5) else x0, if bitAt w2 9 then boundCoord s y0 sy (sprWord s n 6) else y0,
    bitAt w2 10 && ((bitAt w2 8 && badq sx) || (bitAt w2 9 && badq sy))⟩

/-- The sprites listed in the attribute RAM that are enabled, in ascending number. -/
def listedSprites (s : State) : List Nat := ((s.gfx.sprAttr.map (fun e => e.1 / 8)).eraseDups).filter (sprOn s)

/-- The positions of the frame (R122, R493). -/
def sprPositions (s : State) : List SpritePos := if sprEnabled s then (listedSprites s).map (sprPosition s) else []

/-- The screen column and line of a sprite's first pixel (R124). -/
def sprOrigin (p : SpritePos) (ox oy : Int) : Int × Int := (p.x - ox, p.y - oy)

/-- Whether a sprite is selected for line y (R124). -/
def sprCovers (s : State) (p : SpritePos) (ox oy : Int) (y : Nat) : Bool :=
  let (sx, sy) := sprOrigin p ox oy
  let w := sprWord s p.sprite 1
  !p.hidden && decide (sy ≤ y) && decide ((y : Int) < sy + (sprSize (bits w 20 3) : Nat)) &&
    decide (sx < (compW s : Nat)) && decide (0 < sx + (sprSize (bits w 17 3) : Nat))

/-- The byte address and the bit of a sprite's pixel at (x, y), if the column lies in the sprite (R125). -/
def sprAddr (s : State) (p : SpritePos) (ox oy : Int) (x y : Nat) : Option (Nat × Nat) :=
  let (sx, sy) := sprOrigin p ox oy
  let w := sprWord s p.sprite 1
  let wd := sprSize (bits w 17 3)
  let ht := sprSize (bits w 20 3)
  let i := (x : Int) - sx
  if i < 0 ∨ (wd : Int) ≤ i then none
  else
    let r0 := ((y : Int) - sy).toNat
    let r := if bitAt w 25 then ht - 1 - r0 else r0
    let c := if bitAt w 24 then wd - 1 - i.toNat else i.toNat
    let bit := (r * wd + c) * (if bitAt w 23 then 8 else 4)
    some ((bits w 0 17 * 64 + bit / 8) % vsramSize, bit % 8)

/-- A sprite's pixel at (x, y) (R125): value 0 is transparent. -/
def sprPixel (s : State) (ram : Rams) (p : SpritePos) (ox oy : Int) (x y : Nat) : Option Px :=
  let w := sprWord s p.sprite 1
  match sprAddr s p ox oy x y with
  | none => none
  | some (a, b) =>
    let v := bits (byteAt s.mem.vsram a).toNat b (if bitAt w 23 then 8 else 4)
    if v = 0 then none else some (palPx ram.pal (bits (sprWord s p.sprite 2) 0 6) v (bits w 26 2))

/-- The 32-byte accesses of one row of a sprite, and the engine clocks of drawing it (R127). -/
def sprAccesses (s : State) (p : SpritePos) : Nat :=
  let w := sprWord s p.sprite 1
  max 1 (sprSize (bits w 17 3) * (if bitAt w 23 then 8 else 4) / 256)
def sprClocks (s : State) (p : SpritePos) : Nat := 1 + sprSize (bits (sprWord s p.sprite 1) 17 3) / 8

/-- The first sprite of a list whose pixel is not transparent (R126). -/
def sprFirst (s : State) (ram : Rams) (ps : List SpritePos) (ox oy : Int) (x y : Nat) : Option Px :=
  ps.findSome? (fun p => sprPixel s ram p ox oy x y)

/-- Whether a column lies inside a SPR_CLIP_X value. -/
def sprClip (c x : Nat) : Bool := decide (bits c 0 13 ≤ x) && decide (x < bits c 16 13)

/-- SPR_CLIP_X of the current copy. -/
def sprClipNow (s : State) : Nat := regN s (entryKey 0x2241 4)

/-- ORIGIN_X and ORIGIN_Y of the current copies. -/
def sprOrigins (s : State) : Int × Int := (toSigned 16 (regN s (entryKey 0x2241 2)), toSigned 16 (regN s (entryKey 0x2241 3)))

def kSprFlags : Nat := entryKey 0x2242 2

/-- The overflow of a line (R124). -/
def sprOverflow (s : State) (y frame : Nat) (omitted : List SpritePos) : State :=
  match omitted with
  | [] => s
  | p :: _ =>
    let s1 := addTo (bump s (entryKey 0x2242 7)) (entryKey 0x2242 8) omitted.length
    let s2 := if flag s kSprFlags 0 then s1
      else setN (setN s1 (entryKey 0x2242 3) (p.sprite % 2048 + y % 8192 * 65536 + 2 ^ 31)) (entryKey 0x2242 4) frame
    setFlag s2 kSprFlags 0

/-- The sprite engine samples ORIGIN and SPR_CLIP_X for line y and notes the line (R124, R137). At P line 0 begins a new frame. -/
def sprSample (s : State) (y : Nat) : State :=
  if !(engineOn s 9) then s
  else
    let kept := if y = 0 then [] else s.gfx.sprBufs.filter (fun b => decide (y ≤ b.line + 1) && !(b.line == y))
    setN { s with gfx := { s.gfx with sprBufs := kept ++ [⟨y, sprOrigins s, sprClipNow s, false, 0, []⟩] } } (entryKey 0x2242 1) (y % 8192 * 65536)

/-- The sprite engine selects at most 128 sprites for a sampled line and draws them, after the line before (R124 to R127); disabled it delivers
transparent pixels (R493). -/
def sprDraw (s : State) (y frame : Nat) : State :=
  match s.gfx.sprBufs.find? (fun b => b.line == y && !b.done) with
  | none => s
  | some b =>
    let (ox, oy) := b.origin
    let sel := if sprEnabled s then s.gfx.sprPos.filter (fun p => sprCovers s p ox oy y) else []
    let drawn := sel.take 128
    let px := (List.range (compW s)).map (fun x => if sprClip b.clip x then sprFirst s (displayRams s) drawn ox oy x y else none)
    let start := (s.gfx.sprBufs.map SprBuf.drawUntil).foldl max s.clk
    let stop := if drawn.isEmpty then 0 else start + (drawn.map (sprClocks s)).sum
    let s1 := sprOverflow s y frame (sel.drop 128)
    let s2 := { s1 with gfx := { s1.gfx with
      sprBufs := s1.gfx.sprBufs.map (fun c => if c.line = y then { c with done := true, drawUntil := stop, px := px } else c) } }
    perfEvent (perfEvent (perfEvent s2 9 0x20 drawn.length) 9 0x21 (sel.length - drawn.length)) 9 0x22 ((drawn.map (sprAccesses s)).sum)

/-- The sprite engine at L(y), y at least 2. -/
def sprLatch (s : State) (y frame : Nat) : State := if engineOn s 9 then sprDraw (sprSample s y) y frame else s

/-- SPR_STATUS.DRAWING (R137). -/
def sprDrawing (s : State) : Bool := s.gfx.sprBufs.any (fun b => decide (s.clk < b.drawUntil))

/-- An underflow of the sprite line (R128). -/
def sprUnderflow (s : State) (y frame : Nat) : State :=
  let s1 := bump s (entryKey 0x2242 9)
  let s2 := if flag s kSprFlags 1 then s1
    else setN (setN s1 (entryKey 0x2242 5) (y % 8192 * 65536 + 2 ^ 31)) (entryKey 0x2242 6) frame
  healthEvent (setFlag s2 kSprFlags 1) 8

/-- The drawing of line y is over: complete, or abandoned (R128). -/
def sprOver (s : State) (y : Nat) : State :=
  { s with gfx := { s.gfx with sprBufs := s.gfx.sprBufs.map (fun b => if b.line = y then { b with drawUntil := 0 } else b) } }

/-- What the composer reads of the sprite plane on line y; `late` says that the line was not complete in time (R128). An abandoned line is clipped by
the SPR_CLIP_X sampled for it, or the current one where it was never latched. -/
def sprDelivers (s0 : State) (y frame : Nat) (late : Bool) : State × List (Option Px) :=
  let s := sprOver s0 y
  let none_ := (List.range (compW s)).map (fun _ => (none : Option Px))
  if !(engineOn s 9) || engineDark s 9 || !(sprEnabled s) then (s, none_)
  else
    let ufl (clip : Nat) : State × List (Option Px) :=
      let c := solidPx (fld s (entryKey 0x2241 5) 0 30) 3
      (sprUnderflow s y frame, (List.range (compW s)).map (fun x => if sprClip clip x then some c else none))
    match s.gfx.sprBufs.find? (fun b => b.line == y) with
    | none => ufl (sprClipNow s)
    | some b => if late || !b.done then ufl b.clip else (s, b.px)

/-- Whether word `w` of an attribute record holds reserved content (R121). -/
def sprReserved (w v : Nat) : Bool :=
  if w = 1 then decide (4 < bits v 17 3) || decide (4 < bits v 20 3) || !(bits v 30 2 == 0)
  else if w = 2 then !(bits v 6 2 == 0) || !(bits v 11 21 == 0)
  else if w = 3 ∨ w = 4 then !(bits v 18 14 == 0)
  else if w = 5 ∨ w = 6 then !(bits v 20 12 == 0)
  else if w = 7 then !(v == 0) else false

/-! ### Loads of palettes, rules and attributes (R87, R115, R120) -/

/-- The entries of a load: the arm, the status, the source and the range, by the key of its arm. -/
def palArmKey : Nat := entryKey 0x22F0 3
def ruleArmKey : Nat := entryKey 0x22F1 3
def sprArmKey : Nat := entryKey 0x2243 3

/-- The load that an arm latches at its write: source, range, and VSRAM as it stands. -/
def latchLoad (s : State) (k : Nat) : Load := ⟨regN s (k - 2), regN s (k - 1), s.mem.vsram⟩

/-- ARMED of a load reads 1 (R87). -/
def showArmed (s : State) (k : Nat) : State := setFld s (k + 1) 0 1 1

/-- A latched load is armed; a second arm replaces the first. -/
def armLoad (s : State) (k : Nat) (l : Load) : State :=
  let g := s.gfx
  showArmed { s with gfx := if k = palArmKey then { g with palArmed := some l } else if k = ruleArmKey then { g with ruleArmed := some l }
    else { g with sprArmed := some l } } k

/-- Armed loads start at an applied commit instant: ARMED falls and LOADING rises; ARMED stays 1 for an arm that is held in the commit window. -/
def startLoads (s : State) : State :=
  let g := s.gfx
  let s1 := { s with gfx := { g with
    palLoad := if g.palArmed.isSome then g.palArmed else g.palLoad, palArmed := none,
    ruleLoad := if g.ruleArmed.isSome then g.ruleArmed else g.ruleLoad, ruleArmed := none,
    sprLoad := if g.sprArmed.isSome then g.sprArmed else g.sprLoad, sprArmed := none } }
  let start (t : State) (k : Nat) (l : Option Load) : State :=
    if l.isSome then setFld t (k + 1) 0 2 (if s.raster.held.any (fun h => h.key == k && h.arm.isSome) then 3 else 2) else t
  start (start (start s1 palArmKey g.palArmed) ruleArmKey g.ruleArmed) sprArmKey g.sprArmed

/-- The state as a load's entry i reads its source: VSRAM as it is or, where bit i of a free value says so, as it was at the arm (R87;
DESIGN CHOICE, log 17). -/
def loadSource (s : State) (l : Load) (f i : Nat) : State :=
  if bitAt f i then { s with mem := { s.mem with vsram := l.old } } else s

/-- The palette load ends: palettes FIRST to min(63, FIRST + COUNT_M1) are filled, in both copies (R86, R87). -/
def palLoadDone (s : State) : State :=
  match s.gfx.palLoad with
  | none => s
  | some l =>
    let first := bits l.range 0 6
    let last := min 63 (first + bits l.range 8 6)
    let (f, s0) := drawFree s
    let entries := (List.range ((last + 1 - first) * 256)).map (fun i =>
      let a := bits l.src 3 20 * 8 + 8 * i
      let v := loadSource s l f i
      bits (vsramWord v a) 0 30 + bits (vsramWord v (a + 4)) 0 8 * 2 ^ 30)
    setFld { s0 with gfx := { s.gfx with
      palLoad := none,
      pal := mapSetMany (fun _ => 0) s.gfx.pal (first * 256) entries,
      palShadow := mapSetMany (fun _ => 0) s.gfx.palShadow (first * 256) entries } } (entryKey 0x22F0 4) 1 1 0

/-- The rule load ends: the tables are filled in both copies and examined for reserved content (R115, R116). -/
def ruleLoadDone (s : State) : State :=
  match s.gfx.ruleLoad with
  | none => s
  | some l =>
    let first := bits l.range 0 5
    let last := min 31 (first + bits l.range 8 5)
    let (f, s0) := drawFree s
    let words := (List.range ((last + 1 - first) * 64)).map (fun i => vsramWord (loadSource s l f i) (bits l.src 8 15 * 256 + 4 * i))
    let bad := (words.zipIdx).find? (fun q => ruleReserved (q.2 % 64) q.1)
    let s1 := { s0 with gfx := { s.gfx with
      ruleLoad := none,
      rules := mapSetMany (fun _ => 0) s.gfx.rules (first * 64) words,
      rulesShadow := mapSetMany (fun _ => 0) s.gfx.rulesShadow (first * 64) words } }
    let k := entryKey 0x22F1 4
    let s2 := setFld s1 k 1 1 0
    match bad with
    | none => clearFlags s2 k 4
    | some q => setFlag (setFld (setFld s2 k 8 5 (first + q.2 / 64)) k 16 6 (q.2 % 64)) k 2

/-- The attribute load ends (R120, R121). -/
def sprLoadDone (s : State) : State :=
  match s.gfx.sprLoad with
  | none => s
  | some l =>
    let first := bits l.range 0 11
    let last := min 2047 (first + bits l.range 16 11)
    let (f, s0) := drawFree s
    let words := (List.range ((last + 1 - first) * 8)).map (fun i => vsramWord (loadSource s l f i) (bits l.src 5 18 * 32 + 4 * i))
    let bad := (words.zipIdx).find? (fun q => sprReserved (q.2 % 8) q.1)
    let s1 := { s0 with gfx := { s.gfx with sprLoad := none, sprAttr := mapSetMany (fun _ => 0) s.gfx.sprAttr (first * 8) words } }
    let k := entryKey 0x2243 4
    let s2 := setFld s1 k 1 1 0
    match bad with
    | none => setFld s2 k 2 1 0
    | some q => icAssert (setFld (setFld (setFld s2 k 2 1 1) k 4 11 (first + q.2 / 8)) k 16 3 (q.2 % 8)) 147

end Sys2Proof.Machine
end

