-- ==== Sys2Proof/Machine/Composer.lean ====
section
/-! DEFINITION. The composer, engine 11, and the Head S down-scaler (06): stacking and blending, legal insertion, the cull map and the check of
opaque rectangles, colour processing, dithering, scaling, and the bandwidth estimate. -/
namespace Sys2Proof.Machine

/-- A current composer entry (R163). -/
def compKey (sub : Nat) : Nat := entryKey 0x22C1 sub

def kCompFlags : Nat := entryKey 0x22C2 2
def kSclFlags : Nat := entryKey 0x2386 2

/-- The number of the current frame: the device's last commit instant (R171). -/
def frameNow (s : State) : Nat := match s.raster.lastFrame with
  | some f => f
  | none => 0

/-! ### Stacking and blending (R143, R144) -/

/-- Position of plane n in an order word (R143). -/
def orderPos (w n : Nat) : Nat :=
  let slot := match (List.range 8).find? (fun k => bits w (3 * k) 3 == n) with
    | some k => k
    | none => 0
  if slot < bits w 24 4 then slot else slot + 1

/-- What the composer samples for a line (R142): background, stacking order and plane alphas. -/
structure CompLine where
  bg : Nat
  order : Nat
  alphas : List Nat
  deriving DecidableEq, Repr

/-- The sample of the current entries. -/
def compSample (s : State) : CompLine :=
  ⟨fld s (compKey 2) 0 30, regN s (compKey 3), (List.range 8).map (fun n => fld s (compKey (8 + n)) 0 8)⟩

/-- The sampled alpha of plane n. -/
def CompLine.alpha (c : CompLine) (n : Nat) : Nat := match c.alphas[n]? with
  | some a => a
  | none => 255

/-- A candidate pixel with its position and constant alpha. -/
structure Layer where
  px : Px
  pos : Nat
  a : Nat
  deriving DecidableEq, Repr

/-- Candidates ascending by pixel priority, then position (R144). -/
def sortLayers (ls : List Layer) : List Layer :=
  (List.range 4).flatMap (fun p => (List.range 9).flatMap (fun q => ls.filter (fun l => l.px.prio == p && l.pos == q)))

/-- The alpha of a candidate: round(p.alpha × A / 255) (R144). -/
def blendAlpha (pa a : Nat) : Nat := (2 * pa * a + 255) / 510

/-- One colour of a blend (R144). -/
def blendColour (alpha c d : Nat) : Nat := (alpha * c + (255 - alpha) * d + 127) / 255

/-- One candidate over the pixel below it. -/
def blendLayer (d : Nat × Nat × Nat) (l : Layer) : Nat × Nat × Nat :=
  let al := blendAlpha l.px.alpha l.a
  (blendColour al l.px.r d.1, blendColour al l.px.g d.2.1, blendColour al l.px.b d.2.2)

/-- The candidates of a pixel: the eight planes' pixels in number order, then the sprite plane's. -/
def layersOf (c : CompLine) (col : List (Option Px)) : List Layer :=
  (col.zipIdx).filterMap (fun q => q.1.map (fun p =>
    if q.2 < 8 then ⟨p, orderPos c.order q.2, c.alpha q.2⟩ else ⟨p, bits c.order 24 4, 255⟩))

/-- The merged pixel of R144. -/
def mergePixel (c : CompLine) (col : List (Option Px)) : Nat × Nat × Nat :=
  (sortLayers (layersOf c col)).foldl blendLayer (colour30 c.bg)

/-- Reads lists side by side: element i of the result holds element i of each list. -/
def columns {α : Type} (d : α) : Nat → List (List α) → List (List α)
  | 0, _ => []
  | n + 1, ls => ls.map (fun l => match l with
      | [] => d
      | a :: _ => a) :: columns d n (ls.map List.tail)

/-- The merged line at tap T1: stacking, then legal insertion (R144, R145). -/
def mergeLine (s : State) (c : CompLine) (cols : List (List (Option Px))) (y : Nat) : List Mpx :=
  (cols.zipIdx).map (fun q => match legalPixel s q.2 y with
    | some (k, r, g, b) => ⟨r, g, b, some k⟩
    | none => let (r, g, b) := mergePixel c q.1; ⟨r, g, b, none⟩)

/-! ### Opaque rectangles and culling (R146 to R149) -/

/-- Entries of rectangle k of plane n in the current copies (R146). -/
def opqKey (n k : Nat) : Nat := entryKey (0x22C6 + n / 4) (32 * (n % 4) + 2 * k)

/-- The tiles that a rectangle covers (R147): columns s0 to s1 - 1 and rows b0 to b1 - 1, for a composition of w by h. -/
def coveredTiles (x y w h : Nat) : Nat × Nat × Nat × Nat :=
  let last (fin size tile : Nat) : Nat := if size ≤ fin then (size + tile - 1) / tile else fin / tile
  ((bits x 0 13 + 63) / 64, last (bits x 16 13) w 64, (bits y 0 13 + 15) / 16, last (bits y 16 13) h 16)

/-- Whether plane q is an occluder of plane n (R148). -/
def occludes (s : State) (q n : Nat) : Bool :=
  flag s (compKey 1) 0 && flag s (planeKey q 1 1) 0 && fld s (compKey (8 + q)) 0 8 == 255 &&
  decide (orderPos (regN s (compKey 3)) n < orderPos (regN s (compKey 3)) q)

/-- The cull map of a frame (R148). -/
def cullMap (s : State) : List CullRect :=
  (List.range 8).flatMap (fun q =>
    let ns := (List.range 8).filter (fun n => !(n == q) && occludes s q n)
    ((List.range 16).filter (fun k => flag s (compKey (0x10 + q)) k)).flatMap (fun k =>
      let (s0, s1, b0, b1) := coveredTiles (regN s (opqKey q k)) (regN s (opqKey q k + 1)) (compW s) (compH s)
      if s0 < s1 ∧ b0 < b1 then ns.map (fun n => ⟨n, q, s0, s1, b0, b1⟩) else []))

/-- COMP_CULLED_TILES: culled plane and tile pairs over the enabled planes (R165). -/
def culledTiles (s : State) : Nat :=
  (((List.range 8).filter (fun n => flag s (planeKey n 1 1) 0)).map (fun n =>
    let mine := s.gfx.cull.filter (fun c => c.plane == n)
    (((List.range ((compW s + 63) / 64)).map (fun x =>
      ((List.range ((compH s + 15) / 16)).filter (fun y => mine.any (fun c =>
        decide (c.s0 ≤ x) && decide (x < c.s1) && decide (c.b0 ≤ y) && decide (y < c.b1)))).length)).sum))).sum

/-- The first violation of an opaque declaration on line y (R149): pixel and occluder. -/
def opqViolation (s : State) (c : CompLine) (cols : List (List (Option Px))) (y : Nat) : Option (Nat × Nat) :=
  let fails (r : CullRect) : Option (Nat × Nat) :=
    if y / 16 < r.b0 ∨ r.b1 ≤ y / 16 then none
    else
      let below := decide (c.alpha r.occluder < 255) || !(decide (orderPos c.order r.plane < orderPos c.order r.occluder))
      match ((cols.zipIdx).drop (64 * r.s0)).find? (fun q => decide (q.2 < 64 * r.s1) &&
        (below || (match (match q.1[r.occluder]? with
            | some p => p
            | none => none) with
          | none => true
          | some p => !(blendAlpha p.alpha (c.alpha r.occluder) == 255)))) with
      | some q => some (q.2, r.occluder)
      | none => none
  (s.gfx.cull.filterMap fails).foldl (fun best v => match best with
    | none => some v
    | some b => if v.1 < b.1 then some v else some b) none

/-- The check of a line: flag, count and first record (R149). -/
def opqCheck (s : State) (c : CompLine) (cols : List (List (Option Px))) (y : Nat) : State :=
  match opqViolation s c cols y with
  | none => s
  | some (x, q) =>
    let s1 := perfEvent (bump s (entryKey 0x22C2 7)) 11 0x22 1
    let s2 := if flag s kCompFlags 2 then s1
      else setN (setN s1 (entryKey 0x22C2 5) (x + q * 8192 + y * 65536 + 2 ^ 31)) (entryKey 0x22C2 6) (frameNow s)
    setFlag s2 kCompFlags 2

/-! ### The bandwidth rule (R161, R162) -/

/-- Bytes a line fetches from external memory (R161): for each bitmap plane with SOURCE = 1, bytes per pixel times the columns fetched. -/
def lineExtBytes (s : State) (y : Nat) : Nat :=
  ((List.range 8).map (fun n =>
    let e := samplePlane s n
    if bitAt (samp e 1) 0 && bmpExternal e && lineVisible s e y then
      bmpBytes (bits (samp e 0x0B) 0 2) * ((List.range (compW s)).filter (fun x => planeNeeds s e (lineScroll s e y) n x y)).length
    else 0)).sum

/-- COMP_BW_EST and COMP_BW_LINE (R162): the largest left side of R161, in MB/s rounded up, and its first line. -/
def bandwidth (s : State) : Nat × Nat :=
  let m := compMode s
  let best := (List.range m.vAct).foldl (fun (b : Nat × Nat) y => let n := lineExtBytes s y; if b.1 < n then (n, y) else b) (0, 0)
  let wb := if flag s (entryKey 0x23C1 1) 0 then 4 else 0
  let num := (best.1 + wb * m.hAct) * m.clkNum
  let den := m.clkDen * m.hAct * 1000000
  ((num + den - 1) / den + fld s (compKey 0x18) 0 16, best.2)

/-- The cull map of a frame, from the entries current at its commit instant (R148). -/
def compCull (s : State) : State := { s with gfx := { s.gfx with cull := cullMap s } }

/-- Once the cull map is complete, at P: the culled tiles, the estimate and BW_WARN (R162, R165, R179). -/
def compEstimate (s : State) : State :=
  let (est, line) := bandwidth s
  let t := culledTiles s
  let s2 := setN (setN (setN s (entryKey 0x22C2 8) t) (entryKey 0x22C2 3) est) (entryKey 0x22C2 4) line
  let s3 := perfEvent s2 11 0x21 t
  if 12000 < est then setFlag s3 kCompFlags 1 else s3

/-! ### Colour processing and dithering (R150 to R153) -/

/-- Colour processing of a pixel by the coefficients from subindex `base` of 22C1 (R150). -/
def colourProcess (s : State) (base : Nat) (p : Nat × Nat × Nat) : Nat × Nat × Nat :=
  let m (i : Nat) : Int := toSigned 16 (regN s (compKey (base + 1 + i)))
  let row (i : Nat) : Nat :=
    (clampInt 0 4095 ((m (3 * i) * p.1 + m (3 * i + 1) * p.2.1 + m (3 * i + 2) * p.2.2 + 2048) / 4096 + m (9 + i))).toNat
  if flag s (compKey base) 4 then (row 0, row 1, row 2) else p

/-- The dither matrix (R151). -/
def ditherMatrix : List Nat := [0, 8, 2, 10, 12, 4, 14, 6, 3, 11, 1, 9, 15, 7, 13, 5]

/-- The threshold index at a pixel of the head's raster (R151). -/
def ditherIndex (mode x y frame : Nat) : Nat :=
  let i := match ditherMatrix[y % 4 * 4 + x % 4]? with
    | some v => v
    | none => 0
  if mode = 2 then (i + 5 * frame) % 16 else i

/-- The output of a 12-bit colour at depth d (R151). -/
def ditherColour (d mode x y frame c : Nat) : Nat :=
  let k := 12 - d
  if mode = 0 then c / 2 ^ k
  else
    let i := ditherIndex mode x y frame
    let t := if 4 ≤ k then i * 2 ^ (k - 4) else i / 2 ^ (4 - k)
    min (2 ^ d - 1) ((c + t) / 2 ^ k)

/-- Bits per colour of a DEPTH code (R164). -/
def depthBits (c : Nat) : Nat := if c = 0 then 6 else if c = 1 then 8 else 10

/-- Whether DEPTH 2 of Head P is not allowed in the current mode (R164, R173). -/
def depthRefused (s : State) : Bool :=
  let m := modeInfo (modeP (regN s kModeCur))
  fld s (compKey 0x20) 0 2 == 2 && decide (297000000 * m.clkDen < m.clkNum)

/-- Head P's depth in bits (R164). -/
def headPDepth (s : State) : Nat := if depthRefused s then 8 else depthBits (fld s (compKey 0x20) 0 2)

/-- A head's output pixel with the pixel at its tap D: legal pixels bypass colour processing and dithering (R152). -/
def headPixel (s : State) (base d x y : Nat) (p : Mpx) : (Nat × Nat × Nat) × (Nat × Nat × Nat) :=
  let mode := if p.legal.isSome then 0 else fld s (compKey base) 2 2
  let c := if p.legal.isSome then (p.r, p.g, p.b) else colourProcess s base (p.r, p.g, p.b)
  let o (v : Nat) : Nat := ditherColour d mode x y (frameNow s) v
  ((o c.1, o c.2.1, o c.2.2), c)

/-- The bound of R153 for one colour; `exact` for legal-marked pixels and DITHER 0. -/
def ditherBound (d : Nat) (exact : Bool) (c o : Nat) : Bool :=
  let k := 12 - d
  if exact then o == c / 2 ^ k else decide (c / 2 ^ k ≤ o) && decide (o ≤ min (2 ^ d - 1) (c / 2 ^ k + 1))

/-- Whether a head's output pixel keeps the bound. -/
def boundOk (s : State) (base d : Nat) (p : Mpx) (oc : (Nat × Nat × Nat) × (Nat × Nat × Nat)) : Bool :=
  let exact := p.legal.isSome || fld s (compKey base) 2 2 == 0
  ditherBound d exact oc.2.1 oc.1.1 && ditherBound d exact oc.2.2.1 oc.1.2.1 && ditherBound d exact oc.2.2.2 oc.1.2.2

/-! ### The down-scaler (R154 to R156, R178) -/

/-- The bilinear set of coefficients (R155): key axis × 128 + phase × 4 + tap. -/
def coefReset (k : Nat) : Int :=
  let ph := k / 4 % 32
  if k % 4 = 1 then 256 - 8 * (ph : Int) else if k % 4 = 2 then 8 * (ph : Int) else 0

/-- A current coefficient. -/
def coef (s : State) (axis ph tap : Nat) : Int := mapGet coefReset s.gfx.coefCur (axis * 128 + ph * 4 + tap)

/-- The step of an axis (R154). -/
def scaleStep (wi wo : Nat) : Nat := wi * 65536 / wo

/-- Head S's mode, and the steps of its axes; both are bypassed while Head P is off (R177). -/
def headSMode (s : State) : ModeInfo := modeInfo (modeS (regN s kModeCur))
def stepX (s : State) : Nat := if headPOn s then scaleStep (compW s) (headSMode s).hAct else 65536
def stepY (s : State) : Nat := if headPOn s then scaleStep (compH s) (headSMode s).vAct else 65536

/-- A ratio outside 1:1 to 4:1 (R156). -/
def badStep (st : Nat) : Bool := decide (st < 65536) || decide (262144 < st)
def ratioError (s : State) : Bool := badStep (stepX s) || badStep (stepY s)

/-- The taps of output position i on an axis: input indices, clamped to 0 to n - 1, with coefficients (R154). -/
def scaleTaps (s : State) (axis st n i : Nat) : List (Nat × Int) :=
  if st = 65536 then [(i, 256)]
  else
    let pos := i * st + (st - 65536) / 2
    let p := pos / 65536
    let ph := pos / 2048 % 32
    let at_ (j : Nat) : Nat := min (n - 1) (p + j - 1)
    if axis = 1 ∧ 131072 < st then
      [(at_ 1, coef s 1 ph 0 + coef s 1 ph 1), (at_ 2, coef s 1 ph 2 + coef s 1 ph 3)]
    else (List.range 4).map (fun j => (at_ j, coef s axis ph j))

/-- The filtered value of one colour (R154). -/
def scaleSum (ts : List (Int × Nat)) : Nat := (clampInt 0 4095 (((ts.map (fun t => t.1 * (t.2 : Int))).sum + 128) / 256)).toNat

/-- A filtered pixel: it carries the legal marker when all its inputs carry that of one window (R152). -/
def scaleMpx (bypass : Bool) (ts : List (Int × Mpx)) : Mpx :=
  match ts with
  | [] => ⟨0, 0, 0, none⟩
  | t :: _ =>
    if bypass then t.2
    else
      let lg := if ts.all (fun u => u.2.legal == t.2.legal) then t.2.legal else none
      ⟨scaleSum (ts.map (fun u => (u.1, u.2.r))), scaleSum (ts.map (fun u => (u.1, u.2.g))), scaleSum (ts.map (fun u => (u.1, u.2.b))), lg⟩

/-- VDELAY (R177). -/
def vDelay (s : State) : Nat := bits s.raster.hsCfg 8 3

/-- For output line i: the composition lines merged before it starts, and the first line still held when it ends (R178), in line periods. -/
def heldLines (s : State) (i : Nat) : Nat × Nat :=
  let vc := (compMode s).vTot
  let vs := (headSMode s).vTot
  (vDelay s + i * vc / vs, vDelay s + ((i + 1) * vc + vs - 1) / vs - 8)

/-- Whether an output line breaks the first or second inequality of R178. -/
def lineErrors (s : State) (i : Nat) : Bool × Bool :=
  let ls := (scaleTaps s 1 (stepY s) (compH s) i).map Prod.fst
  let (merged, oldest) := heldLines s i
  (ls.any (fun l => decide (merged ≤ l)), ls.any (fun l => decide (l < oldest)))

/-- The held line that serves composition line l (R156). -/
def heldLine (s : State) (i l : Nat) : Nat :=
  let (merged, oldest) := heldLines s i
  if merged ≤ l then merged - 1 else if l < oldest then max l (min oldest (compH s - 8)) else l

/-- The pixels of a held line. -/
def mergedLine (s : State) (l : Nat) : List Mpx := match s.gfx.lines.lookup l with
  | some p => p
  | none => (List.range (compW s)).map (fun _ => ⟨0, 0, 0, none⟩)

/-- Output line i of the down-scaler: vertical filter on the held lines, then horizontal (R154). -/
def scaledLine (s : State) (i : Nat) : List Mpx :=
  let ty := scaleTaps s 1 (stepY s) (compH s) i
  let rows := ty.map (fun t => mergedLine s (heldLine s i t.1))
  let mid := ((columns (⟨0, 0, 0, none⟩ : Mpx) (compW s) rows).map (fun c =>
    scaleMpx (stepY s == 65536) ((ty.map Prod.snd).zip c))).toArray
  if stepX s = 65536 then mid.toList
  else (List.range (headSMode s).hAct).map (fun j =>
    scaleMpx false ((scaleTaps s 0 (stepX s) (compW s) j).map (fun t => (t.2, mid.getD t.1 ⟨0, 0, 0, none⟩))))

/-- The output lines of Head S that start within composition line y; the last active line takes every later one (R177, R178). -/
def sLines (s : State) (y : Nat) : List Nat :=
  if !(headPOn s) then [y]
  else (List.range (headSMode s).vAct).filter (fun i =>
    let vs := (headSMode s).vTot
    let t := vDelay s * vs + i * (compMode s).vTot
    decide (y * vs < t) && (decide (t ≤ (y + 1) * vs) || y + 1 == compH s))

/-- UNDERRUN and OVERRUN of an output line (R156). -/
def sclLineErr (s : State) (i : Nat) : State :=
  if !(headPOn s) then s
  else
    let (u, o) := lineErrors s i
    let s1 := if u then setFlag s kSclFlags 1 else s
    let s2 := if o then setFlag s1 kSclFlags 2 else s1
    if u || o then bump s2 (entryKey 0x2386 5) else s2

/-- The scaler at a commit instant (R155, R156): steps, status, coefficient copy, ratio error. -/
def sclCommit (s : State) : State :=
  if !(engineOn s 14) then s
  else
    let x := stepX s
    let y := stepY s
    let st := (if x = 65536 then 1 else 0) + (if y = 65536 then 2 else 0) + (if 131072 < y then 4 else 0)
    let s1 := setN (setN (setN s (entryKey 0x2386 3) x) (entryKey 0x2386 4) y) (entryKey 0x2386 1) st
    let s2 := { s1 with gfx := { s1.gfx with coefCur := s1.gfx.coefStaged } }
    if ratioError s2 then setFlag s2 kSclFlags 0 else s2

/-- The depth check of R164 at a commit instant or at S'; `fresh` says that COMP_OUT_P took a new value or that the mode is new. -/
def depthCheck (s : State) (fresh : Bool) : State :=
  let put (b : Bool) : State := { s with raster := { s.raster with depthFound := b } }
  if !(headPOn s) then put false
  else if !fresh then s
  else if depthRefused s then
    (if s.raster.depthFound then s else setFlag (put true) kCompFlags 0)
  else put false

end Sys2Proof.Machine
end

