-- ==== Sys2Proof/Machine/Outputs.lean ====
section
/-! DEFINITION. Write-back, engine 15 (06), and Head P's link, engine 13 (07). -/
namespace Sys2Proof.Machine

/-! ### Write-back (R157 to R160) -/

def kWbFlags : Nat := entryKey 0x23C2 2

/-- Replaces write-back's state; WB_STATUS follows it (R168). -/
def setWb (s : State) (w : WriteBack) : State :=
  setN { s with wb := w } (entryKey 0x23C2 1) ((if w.run.isSome then 1 else 0) + w.ring % 256 * 65536)

/-- The ring address (R158). -/
def wbRing (s : State) : Nat := bits (regN s (entryKey 0x23C1 2)) 5 27 * 32 + fld s (entryKey 0x23C1 3) 0 8 * 2 ^ 32

/-- The address of descriptor j. -/
def wbDesc (s : State) (j : Nat) : Nat := wbRing s + 32 * j

/-- The ring index after the current one. -/
def wbAdvance (s : State) : State :=
  setWb s { s.wb with ring := if fld s (entryKey 0x23C1 4) 0 16 ≤ s.wb.ring + 1 then 0 else s.wb.ring + 1 }

/-- An error response or an address beyond external memory: flag and address (R160). -/
def wbError (s : State) (a : Nat) : State :=
  setFlag (setPair (mcAddrError s a) (entryKey 0x23C2 7) (entryKey 0x23C2 8) (a % 2 ^ 40)) kWbFlags 2

/-- The commit instant of frame f (R157, R159, R44); `restart` says that EN or the ring changed. -/
def wbCommit (s : State) (f : Nat) (restart : Bool) : State :=
  if !(engineOn s 15) then s
  else
    let s1 := setWb s { s.wb with reading := none, ring := if restart then 0 else s.wb.ring }
    let ctl := regN s (entryKey 0x23C1 1)
    if engineOffline s 15 || !(bitAt ctl 0) || !(f % bits ctl 8 8 == 0) then s1
    else if !(engineOn s 18) then wbError s1 (wbRing s)
    else setWb s1 { s1.wb with reading := some f }

/-- A bus error stops the frame; the descriptor takes STATUS BUS_ERROR when it can be written, and keeps READY and its place (R160, DESIGN CHOICE, log 25). -/
def wbBusError (s : State) (a : Nat) : State :=
  match s.wb.run with
  | some r =>
    let s1 := wbError (setWb s { s.wb with run := none }) a
    if extOk s1 r.desc 32 then extWrite s1 (r.desc + 28) (toBytes 4 4) else s1
  | none => if s.wb.reading.isSome then wbError (setWb s { s.wb with reading := none }) a else s

/-- The frame's capture completes: words 4 to 7, READY cleared, ring and last frame, source 240 (R159). -/
def wbDone (s : State) : State :=
  match s.wb.run with
  | none => s
  | some r =>
    if !(extOk s r.desc 32) then wbBusError s r.desc
    else
      let s1 := extWrite s (r.desc + 12) (toBytes 4 0 ++ toBytes 4 r.frame ++ toBytes 8 r.time ++ toBytes 4 (1 + 2 * r.stopped))
      let s2 := wbAdvance (setWb s1 { s1.wb with run := none })
      let s3 := bump (setN s2 (entryKey 0x23C2 3) r.frame) (entryKey 0x23C2 4)
      icAssert (perfEvent s3 15 0x21 1) 240

/-- Reserved bits or a pitch too small (R158, R160). -/
def wbBadDesc (s : State) (d : Nat) : Bool :=
  !(bits (extWord s d) 0 6 == 0) || !(bits (extWord s (d + 4)) 8 24 == 0) || !(bits (extWord s (d + 8)) 12 20 == 0) ||
  !(bits (extWord s (d + 12)) 1 31 == 0) || decide (extWord s (d + 8) < (4 * compW s + 63) / 64)

/-- The descriptor read ends and write-back decides (R159, R160). -/
def wbDescRead (s0 : State) : State :=
  let s := wbDone s0
  match s.wb.reading with
  | none => s
  | some f =>
    let d := wbDesc s s.wb.ring
    if !(extOk s d 32) then wbBusError s d
    else
      let s1 := setWb s { s.wb with reading := none }
      if !(bitAt (extWord s (d + 12)) 0) then setFlag (bump s1 (entryKey 0x23C2 5)) kWbFlags 0
      else if wbBadDesc s d then
        wbAdvance (setFlag (extWrite (extWrite s1 (d + 12) (toBytes 4 (maskClear (extWord s (d + 12)) 1))) (d + 28) (toBytes 4 8)) kWbFlags 3)
      else setWb s1 { s1.wb with run := some {
        frame := f, time := s.raster.commitTime, desc := d,
        buffer := bits (extWord s d) 6 26 * 64 + bits (extWord s (d + 4)) 0 8 * 2 ^ 32,
        pitch := bits (extWord s (d + 8)) 0 12, format := fld s (entryKey 0x23C1 1) 1 1, stopped := 0 } }

/-- A pixel in a write-back format (R157). -/
def wbPixel (format : Nat) (p : Mpx) : List Byte :=
  if format = 0 then toBytes 4 (0xFF000000 + p.r / 16 * 65536 + p.g / 16 * 256 + p.b / 16)
  else toBytes 4 (0xC0000000 + p.r / 4 * 2 ^ 20 + p.g / 4 * 1024 + p.b / 4)

/-- One line into the buffer: up to the pixel that finds the FIFO full, or the first that external memory does not hold (R157, R160). -/
def wbLine (s : State) (y : Nat) (t1 : List Mpx) (fullAt : Option Nat) : State :=
  match s.wb.run with
  | none => s
  | some r =>
    if !(engineOn s 15) || !(r.stopped == 0) then s
    else
      let a := r.buffer + y * r.pitch * 64
      let room := if extServes s then (extFitted s - a) / 4 else 0
      let limit := match fullAt with
        | some x => min x t1.length
        | none => t1.length
      let n := min room limit
      let s1 := extWrite s a ((t1.take n).flatMap (wbPixel r.format))
      let g := (n + 15) / 16
      let s2 := requestsDone (requestsIssue (perfEvent (perfEvent s1 15 0x20 g) 18 0x21 g) reqWriteBack g) reqWriteBack
      if n < limit then wbBusError s2 (a + 4 * n)
      else if limit < t1.length then
        healthEvent (setFlag (bump (setWb s2 { s2.wb with run := some { r with stopped := 1 } }) (entryKey 0x23C2 6)) kWbFlags 1) 8
      else s2

/-! ### Head P's link (R174, R175) -/

def kHpFlags : Nat := entryKey 0x2342 2

/-- Replaces Head P's state. -/
def setHp (s : State) (h : HeadP) : State := { s with hp := h }

/-- The link configuration for the current mode and depth (R174): lanes and the lowest rate that carries it. -/
def linkConfig (s : State) : Option (Nat × Nat) :=
  let cfg := regN s (entryKey 0x2340 1)
  let lanes := min (2 ^ bits cfg 0 2) s.hp.sinkLanes
  let m := modeInfo (modeP (regN s kModeCur))
  ((List.range 4).find? (fun r => decide (r ≤ bits cfg 4 2) && decide (r ≤ s.hp.sinkRate) && linkCarries lanes r (headPDepth s) m)).map
    (fun r => (lanes, r))

/-- Head P trains, or sets LINK_FAIL with cause CAPACITY (R174). -/
def hpTrain (s : State) : State :=
  match linkConfig s with
  | none => setFlag (setN (setHp s { s.hp with training := none, trained := none, video := false, videoNext := false })
      (entryKey 0x2342 3) 1) kHpFlags 2
  | some c => bump (setHp s { s.hp with
      attempts := 0, training := some c, trained := none, video := false, videoNext := false }) (entryKey 0x2342 5)

/-- Hot plug (R175): the sink's limits and EDID are read, then the link trains. -/
def hpdAssert (s : State) (lanes rate : Nat) (edid : List Byte) : State :=
  if !(engineOn s 13) then s
  else
    let s1 := setHp s { s.hp with hpd := true, sinkLanes := lanes, sinkRate := rate }
    if !(headPOn s) then s1
    else
      let e := edid.take 512
      let s2 := setN (blobSet s1 (entryKey 0x2342 6) (e ++ List.replicate (512 - e.length) 0#8)) (entryKey 0x2342 7) e.length
      hpTrain (setFlag s2 kHpFlags 0)

/-- HPD low: the link is down (R175). -/
def hpdLow (s : State) : State :=
  if !(engineOn s 13) then s
  else setFlag (setHp s { s.hp with
    hpd := false, training := none, trained := none, video := false, videoNext := false, attempts := 0 }) kHpFlags 0

/-- An IRQ_HPD pulse; lost lock retrains (R175). -/
def irqHpd (s : State) (lockLost : Bool) : State :=
  if !(engineOn s 13) then s
  else
    let s1 := setFlag s kHpFlags 1
    if lockLost && headPOn s then hpTrain s1 else s1

/-- A training attempt ends (R175): after three failures of one event LINK_FAIL is set with the last cause. -/
def trainingEnd (s : State) (ok : Bool) (cause micros : Nat) : State :=
  match s.hp.training with
  | none => s
  | some c =>
    let s1 := setN s (entryKey 0x2342 4) micros
    if ok then icAssert (setHp s1 { s1.hp with training := none, trained := some c, videoNext := true }) 210
    else if s.hp.attempts + 1 < 3 then
      bump (setHp s1 { s1.hp with attempts := s.hp.attempts + 1 }) (entryKey 0x2342 5)
    else setFlag (setN (setHp s1 { s1.hp with training := none, attempts := 0 }) (entryKey 0x2342 3) cause) kHpFlags 2

/-- A mode change that needs a new link configuration retrains (R175, R184). -/
def hpModeChanged (s : State) : State :=
  if !(engineOn s 13) || !s.hp.hpd then s
  else if !(headPOn s) then setHp s { s.hp with training := none, trained := none, video := false, videoNext := false }
  else if s.hp.trained.isSome && s.hp.trained == linkConfig s then s
  else hpTrain s

/-- A frame starts: video that waited for it begins (R175). -/
def hpFrame (s : State) : State := if s.hp.videoNext then setHp s { s.hp with video := true, videoNext := false } else s

/-- Whether Head P sends video of the composition (R211). -/
def hpSends (s : State) : Bool := engineOn s 13 && headPOn s && s.hp.video && s.raster.showing && !(engineOffline s 13)

/-- HP_STATUS (R196). -/
def hpStatus (s : State) : Nat :=
  let c := match s.hp.trained with
    | some c => c
    | none => (0, 0)
  (if s.hp.hpd then 1 else 0) + (if s.hp.trained.isSome then 2 else 0) + 4 * (c.2 % 4) + 16 * (c.1 % 8) + (if hpSends s then 128 else 0)

/-- A native AUX access of one byte (R196): no answer sets AUX_ERROR. -/
def auxAccess (s : State) (b : Byte) (store : Bool) (answer : Option Byte) : State :=
  if !(engineOn s 13) then s
  else match answer with
    | none => setFlag s kHpFlags 4
    | some a => setN s (entryKey 0x2340 3) (if store then b.toNat else a.toNat)

/-! ### Head S (R177) -/

def kHsFlags : Nat := entryKey 0x2382 2

/-- Whether Head S's clock would differ from its nominal one by more than 0.5 % (R177). -/
def rateMismatch (s : State) : Bool :=
  let c := compMode s
  let m := headSMode s
  let a := frameNsNum m * frameNsDen c
  let b := frameNsNum c * frameNsDen m
  headPOn s && headSOn s && (decide (200 * a < 199 * b) || decide (201 * b < 200 * a))

/-- Whether Head S sends pixels of the composition; otherwise it sends colour 0. -/
def hsSends (s : State) : Bool :=
  engineOn s 14 && headSOn s && s.raster.showing && !(rateMismatch s) && !(ratioError s) && !(engineOffline s 14)

/-- The line that Head S sends (R176): dual link puts odd pixels on link 0 and even pixels on link 1, counted from pixel 0,
which is even (DEDUCED, log 96); HS_CFG is the one in force since S'. -/
def lvdsLine (s : State) (i : Nat) (px : List (Nat × Nat × Nat)) : LvdsLine :=
  let odd (b : Bool) : List (Nat × Nat × Nat) := (px.zipIdx.filter (fun q => (q.2 % 2 == 1) == b)).map Prod.fst
  ⟨i, bitAt s.raster.hsCfg 1, if bitAt s.raster.hsCfg 0 then [odd true, odd false] else [px]⟩

/-- HS_STATUS (R196). -/
def hsStatus (s : State) : Nat :=
  (if headSOn s && s.raster.running then 1 else 0) + (if headSOn s && headPOn s then 2 else 0)

end Sys2Proof.Machine
end

