-- ==== Sys2Proof/Machine/Verifier.lean ====
section
/-! DEFINITION. The verifier, engine 12 (08): region latch and admission, the shadow renderer, line and region CRCs, the dither bound check, and the
publication at E_f with the legal run counts. -/
namespace Sys2Proof.Machine

def kVerFlags : Nat := entryKey 0x2303 2

/-- Replaces the verifier's state. -/
def setVer (s : State) (v : Verifier) : State := { s with ver := v }

/-- A latched region entry (R199, R202). -/
def rgnWord (s : State) (k i : Nat) : Nat := regN s (entryKey 0x2301 (4 * k + i))

/-- A region clipped to the composition size: first and last-plus-one column and line (R199). -/
def rgnRect (s : State) (k : Nat) : Nat × Nat × Nat × Nat :=
  let x := rgnWord s k 0
  let y := rgnWord s k 1
  (bits x 0 13, min (bits x 16 13) (compW s), bits y 0 13, min (bits y 16 13) (compH s))

/-- Width and area of a clipped region. -/
def rgnWidth (s : State) (k : Nat) : Nat := let r := rgnRect s k; r.2.1 - r.1
def rgnHeight (s : State) (k : Nat) : Nat := let r := rgnRect s k; r.2.2.2 - r.2.2.1
def rgnArea (s : State) (k : Nat) : Nat := rgnWidth s k * rgnHeight s k

/-- Whether a line lies in a region. -/
def rgnOnLine (s : State) (k y : Nat) : Bool := let r := rgnRect s k; decide (r.2.2.1 ≤ y) && decide (y < r.2.2.2)

/-- The width of the admitted regions on a line. -/
def admittedWidth (s : State) (ks : List Nat) (y : Nat) : Nat := ((ks.filter (fun k => rgnOnLine s k y)).map (rgnWidth s)).sum

/-- Whether a region would exceed the capacity beside those admitted (R203). -/
def overCapacity (s : State) (ks : List Nat) (k : Nat) : Bool :=
  decide (2000000 < (ks.map (rgnArea s)).sum + rgnArea s k) ||
  (List.range (rgnHeight s k)).any (fun i => decide (2048 < admittedWidth s ks ((rgnRect s k).2.2.1 + i) + rgnWidth s k))

/-- One region of the admission loop of R203. -/
def admitRegion (s : State) (a : List Nat × List Nat) (k : Nat) : List Nat × List Nat :=
  if !(bitAt (rgnWord s k 2) 0) || rgnArea s k == 0 || (decide (k ≤ 3) && s.bm.state == bmOff) then a
  else if 4 ≤ k ∧ overCapacity s a.1 k then (a.1, a.2 ++ [k])
  else (a.1 ++ [k], a.2)

/-- The admission of a frame (R203): admitted and skipped regions. -/
def admission (s : State) : List Nat × List Nat := (List.range 32).foldl (admitRegion s) ([], [])

/-- VER_STATUS (R215). -/
def verStatus (s : State) : State :=
  let top := (List.range 4).foldl (fun m k => max m (mapGet (fun _ => 0) s.ver.legalRun k)) 0
  setN s (entryKey 0x2303 1) ((if s.ver.rendering then 1 else 0) + 64 * top)

/-! ### The shadow renderer (R205, R206) -/

/-- The shadow renderer samples the current entries for line y through its own path (R205). -/
def shadowLatch (s : State) (y : Nat) : State :=
  if !(engineOn s 12) then s
  else
    let es := (List.range 8).map (samplePlane s)
    let kept := if y = 0 then [] else s.gfx.shadowLines.filter (fun b => decide (y ≤ b.line + 1) && !(b.line == y))
    { s with gfx := { s.gfx with shadowLines := kept ++ [⟨y, es, es.map (fun e => lineScroll s e y), sprOrigins s, sprClipNow s⟩] } }

/-- The shadow renderer computes its own sprite positions for the frame (R122, R205). -/
def shadowPositions (s : State) : State := if engineOn s 12 then { s with gfx := { s.gfx with shadowPos := sprPositions s } } else s

/-- What the shadow renderer sampled for line y; a line that was never latched is sampled when it is composed. -/
def shadowLine (s : State) (y : Nat) : ShadowLine := match s.gfx.shadowLines.find? (fun b => b.line == y) with
  | some b => b
  | none =>
    let es := (List.range 8).map (samplePlane s)
    ⟨y, es, es.map (fun e => lineScroll s e y), sprOrigins s, sprClipNow s⟩

/-- The sampled entries and the scroll word of plane n. -/
def shadowPlane (l : ShadowLine) (n : Nat) : List (Nat × Nat) × (Int × Int) := ((l.planes[n]?).getD [], (l.scroll[n]?).getD (0, 0))

/-- The sprites that the shadow renderer draws on a line: those with VERIFY = 1 (R206). -/
def shadowSprites (s : State) (l : ShadowLine) : List SpritePos :=
  if sprEnabled s then s.gfx.shadowPos.filter (fun p => bitAt (sprWord s p.sprite 1) 28 && sprCovers s p l.origin.1 l.origin.2 l.line) else []

/-- The expected pixel of a region (R206): none where a pixel blends with an alpha other than 0 and 255. -/
def shadowPixel (s : State) (c : CompLine) (l : ShadowLine) (k x : Nat) : Option (Nat × Nat × Nat) :=
  let src := rgnWord s k 2
  if bitAt src 2 then (match legalPixel s x l.line with
    | some (_, r, g, b) => some (r, g, b)
    | none => some (0, 0, 0))
  else
    let planes := (List.range 8).map (fun n =>
      let (e, d) := shadowPlane l n
      if bitAt src (8 + n) && !(bitAt (samp e 1) 1) then planePixel s (shadowRams s) e d x l.line else none)
    let spr := if bitAt src 1 && sprClip l.clip x then sprFirst s (shadowRams s) (shadowSprites s l) l.origin.1 l.origin.2 x l.line else none
    (sortLayers (layersOf c (planes ++ [spr]))).foldl (fun e q =>
      let al := blendAlpha q.px.alpha q.a
      if al = 0 then e else if al = 255 then e.map (fun _ => (q.px.r, q.px.g, q.px.b)) else none) (some (colour30 c.bg))

/-- The columns of a line that the given regions hold. -/
def rgnCols (s : State) (ks : List Nat) : List Nat :=
  (List.range (compW s)).filter (fun x => ks.any (fun k => let r := rgnRect s k; decide (r.1 ≤ x) && decide (x < r.2.1)))

/-- The bank-clocks of the shadow renderer's reads on a line (R204): counted as R91 and R127 count, for the columns inside regions that name the
source. -/
def shadowBanks (s : State) (l : ShadowLine) (ks : List Nat) : Nat :=
  let named (b : Nat) : List Nat := rgnCols s (ks.filter (fun k => bitAt (rgnWord s k 2) b && !(bitAt (rgnWord s k 2) 2)))
  let plane (n : Nat) : Nat :=
    let (e, d) := shadowPlane l n
    if bitAt (samp e 1) 0 && !(bitAt (samp e 1) 1) then (fetchCost s e d l.line (named (8 + n))).1 else 0
  let sprite (p : SpritePos) : Nat :=
    accessRuns (((named 1).filterMap (fun x => sprAddr s p l.origin.1 l.origin.2 x l.line)).map (fun a => a.1 / 32))
  ((List.range 8).map plane).sum + ((shadowSprites s l).map sprite).sum

/-- A pixel as it enters a CRC (R207): 40 bits, lowest byte first. -/
def crcPixel (reg : Nat) (p : Nat × Nat × Nat) : Nat := (toBytes 5 (p.1 * 2 ^ 24 + p.2.1 * 2 ^ 12 + p.2.2)).foldl crc32Byte reg

/-- Whether a plane of the region's mask is in bitmap mode on a line (R206). -/
def bitmapNamed (s : State) (l : ShadowLine) (k : Nat) : Bool :=
  (List.range 8).any (fun n => bitAt (rgnWord s k 2) (8 + n) && bitAt (samp (shadowPlane l n).1 1) 1)

/-- One region on one line: the CRC registers advance, and a line whose CRCs differ is noted (R207, R208). -/
def regionLine (s : State) (c : CompLine) (l : ShadowLine) (t1 : List Mpx) (late : List Nat) (r : RegionRun) : RegionRun :=
  let y := l.line
  if !(rgnOnLine s r.region y) then r
  else
    let (x0, x1, _, _) := rgnRect s r.region
    let seen := ((t1.drop x0).take (x1 - x0)).map (fun p => (p.r, p.g, p.b))
    let want := (List.range (x1 - x0)).map (fun i => shadowPixel s c l r.region (x0 + i))
    let clean := want.map (fun p => match p with
      | some q => q
      | none => (0, 0, 0))
    let line (p : List (Nat × Nat × Nat)) : Nat := p.foldl crcPixel 0xFFFFFFFF
    { r with
      crcT1 := seen.foldl crcPixel r.crcT1,
      crcShadow := clean.foldl crcPixel r.crcShadow,
      firstDiff := if r.firstDiff.isNone && !(line seen == line clean) then some y else r.firstDiff,
      unsupported := r.unsupported || bitmapNamed s l r.region || want.any Option.isNone,
      incomplete := r.incomplete || late.contains r.region }

/-- The verifier on active line y; RENDERING rises with line 0 (R215). -/
def verLine (s : State) (c : CompLine) (t1 : List Mpx) (y : Nat) (late : List Nat) : State :=
  if !(engineOn s 12) || engineOffline s 12 then s
  else
    let on := s.ver.runs.filter (fun r => rgnOnLine s r.region y)
    let l := shadowLine s y
    let runs := s.ver.runs.map (regionLine s c l t1 late)
    let s1 := setVer s { s.ver with
      runs := runs, rendering := s.ver.rendering || (y == 0 && !s.ver.runs.isEmpty) }
    perfEvent (perfEvent (perfEvent (verStatus s1) 12 0x20 on.length) 12 0x21 (runs.filter (fun r => r.firstDiff == some y)).length)
      12 0x23 (shadowBanks s l (on.map RegionRun.region))

/-! ### The dither bound check (R211) -/

/-- The first failure of a line on a head (0 P, 1 S); one whose pixel passes after E_f enters the next frame's results (R209). -/
def ditherFail (s : State) (head x y : Nat) (legal : Option Nat) (afterE : Bool) : State :=
  let s1 := perfEvent (bump s (entryKey 0x2303 (0x0B + head))) 12 0x22 1
  let s2 := if flag s kVerFlags 2 then s1
    else setN (setN s1 (entryKey 0x2303 6) (x + head * 16384 + y * 65536 + 2 ^ 31)) (entryKey 0x2303 7) (frameNow s)
  let s3 := match legal with
    | none => s2
    | some k =>
      if afterE then setVer s2 { s2.ver with carry := s2.ver.carry ++ [k] }
      else setVer s2 { s2.ver with runs := s2.ver.runs.map (fun r => if r.region = k then { r with ditherFail := true } else r) }
  setFlag s3 kVerFlags 2

/-- The check of one head's output line: the first pixel outside the bound. -/
def ditherLine (s : State) (head base d y : Nat) (afterE : Bool) (px : List (Mpx × ((Nat × Nat × Nat) × (Nat × Nat × Nat)))) : State :=
  if !(engineOn s 12) || engineOffline s 12 || !(flag s (entryKey 0x2302 1) head) then s
  else match (px.zipIdx).find? (fun q => !(boundOk s base d q.1.1 q.1.2)) with
    | none => s
    | some q => ditherFail s head q.2 y q.1.1.legal afterE

/-! ### Publication at E_f (R208 to R212) -/

/-- The code of an admitted region (R210). -/
def runCode (r : RegionRun) : Nat :=
  if r.unsupported then 4 else if r.incomplete then 5 else if r.crcT1 ≠ r.crcShadow ∨ r.firstDiff.isSome then 2 else 1

/-- A region's result word and code (R210). -/
def regionResult (s : State) (k : Nat) : Nat × Nat :=
  match s.ver.runs.find? (fun r => r.region == k) with
  | some r =>
    let c := runCode r
    let line := match r.firstDiff with
      | some y => y
      | none => 0
    (c + (if r.ditherFail ∧ k ≤ 3 then 8 else 0) + (if c = 2 then line * 65536 else 0), c)
  | none => if s.ver.skipped.contains k then (3, 3) else (0, 0)

/-- The two CRCs published of a region (R209): zero when it is not admitted; the shadow's CRC of a region that yields no comparison is a
free value (DESIGN CHOICE, log 24). -/
def regionCrcs (s : State) (k : Nat) : State × Nat × Nat :=
  match s.ver.runs.find? (fun r => r.region == k) with
  | some r =>
    let (v, s1) := drawFree s
    if r.unsupported || r.incomplete then (s1, r.crcT1 ^^^ 0xFFFFFFFF, v % 2 ^ 32)
    else (s, r.crcT1 ^^^ 0xFFFFFFFF, r.crcShadow ^^^ 0xFFFFFFFF)
  | none => (s, 0, 0)

/-- Counters and flags of an ordinary region's code (R215). -/
def regionCount (s : State) (k : Nat) : State :=
  let (w, c) := regionResult s k
  if c = 3 then bump s (entryKey 0x2303 0x0D)
  else if c = 4 then setFlag s kVerFlags 4
  else if c = 5 then setFlag (bump s (entryKey 0x2303 0x0E)) kVerFlags 5
  else if c = 2 ∧ 4 ≤ k then
    let s1 := bump s (entryKey 0x2303 9)
    let s2 := if flag s kVerFlags 0 then s1
      else setN (setN s1 (entryKey 0x2303 4) (k + bits w 16 13 * 65536 + 2 ^ 31)) (entryKey 0x2303 5) s.ver.frame
    setFlag s2 kVerFlags 0
  else s

/-- The legal run count of a region 0 to 3 (R212): a failure raises it, a clean match clears it, IDLE leaves it; reaching the limit escalates. -/
def legalCount (s : State) (k : Nat) : State :=
  let (w, c) := regionResult s k
  let old := mapGet (fun _ => 0) s.ver.legalRun k
  let put (t : State) (n : Nat) : State := setVer t { t.ver with legalRun := mapSet (fun _ => 0) t.ver.legalRun k n }
  if c = 0 then s
  else if c = 1 ∧ !(bitAt w 3) then put s 0
  else
    let new := min 15 (old + 1)
    let limit := fld s (entryKey 0x2302 2) 0 8
    let s1 := setFlag (bump (put s new) (entryKey 0x2303 0x0A)) kVerFlags 1
    if old < limit ∧ limit ≤ new then
      escalate (icAssert (perfEvent (bump s1 (entryKey 0x2303 0x0F)) 19 0x22 1) 195) k s.ver.frame
    else s1

/-- The results and CRCs of a region are written. -/
def publishRegion (s : State) (k : Nat) : State :=
  let (s1, a, b) := regionCrcs s k
  setN (setN (setN s1 (entryKey 0x2304 k) (regionResult s k).1) (entryKey 0x2305 k) a) (entryKey 0x2306 k) b

/-- The verifier with the frame that E_f concerns in place: the one before, while it is still due (DEDUCED, log 40). -/
def verDue (s : State) : State := match s.ver.last with
  | some v => setVer s { s.ver with frame := v.frame, runs := v.runs, skipped := v.skipped }
  | none => s

/-- The verifier once a frame is published: the running frame `v` stays due if it was the one before that E_f concerned. -/
def verAfter (v : Verifier) (s : State) : State :=
  match v.last with
  | some _ => setVer s { s.ver with frame := v.frame, runs := v.runs, skipped := v.skipped, last := none, owed := false, rendering := false }
  | none => setVer s { s.ver with due := false, runs := [], skipped := [], owed := false, rendering := false }

/-- E_f: the verifier publishes the frame (R209); while it is offline, at the end of its step 2 (R203). -/
def frameVerified (s : State) : State :=
  if !(engineOn s 12) || !s.ver.due then s
  else if engineOffline s 12 then setVer s { s.ver with owed := true }
  else
    let s0 := verDue s
    let s1 := (List.range 32).foldl publishRegion s0
    let s2 := (List.range 32).foldl regionCount s1
    let s3 := (List.range 4).foldl legalCount s2
    let s4 := bump (setN s3 (entryKey 0x2303 3) s0.ver.frame) (entryKey 0x2303 8)
    icAssert (verStatus (verAfter s.ver s4)) 192

/-- The publication that an offline verifier owes. -/
def verOwed (s : State) : State := if s.ver.owed then frameVerified s else s

/-! ### The commit instant (R201 to R203) -/

/-- A frame whose E_f has not been taken when the next one commits is published first, since E_f precedes that commit instant (R209), unless the
verifier is offline and owes it (R203). -/
def verClose (s : State) : State := if s.ver.due && !(engineOffline s 12) && !s.ver.owed then frameVerified s else s

/-- The commit instant of the verifier (R201 to R203). -/
def verCommit (s : State) (frame : Nat) : State :=
  if !(engineOn s 12) then s
  else
    let s0 := verClose s
    let s1 := (List.range 128).foldl (fun t i => regSet t (entryKey 0x2301 i) (regGet t (entryKey 0x2300 i))) s0
    let (adm, skip) := admission s1
    let off := engineOffline s 12
    let s2 := setVer s1 { s1.ver with
      frame := frame, due := true, last := if s0.ver.due then some ⟨s0.ver.frame, s0.ver.runs, s0.ver.skipped⟩ else none,
      rendering := false, carry := [],
      skipped := if off then [] else skip,
      runs := if off then [] else adm.map (fun k => ⟨k, 0xFFFFFFFF, 0xFFFFFFFF, none, false, false, decide (k ∈ s0.ver.carry)⟩) }
    let s3 := verStatus s2
    if !off && !skip.isEmpty then setFlag s3 kVerFlags 3 else s3

end Sys2Proof.Machine
end

