-- ==== Sys2Proof/Machine/Raster.lean ====
section
/-! DEFINITION. The composition raster (07): commit windows and applied commits, the lock, mode changes, and the active line that takes the renderers'
pixels through the composer to write-back, verifier and heads. -/
namespace Sys2Proof.Machine

def kRasterFlags : Nat := entryKey 0x22C9 2

/-- Replaces the raster's state. -/
def setRaster (s : State) (r : Raster) : State := { s with raster := r }

/-! ### Staged and current entries (R74, R180) -/

/-- A run of staged entries and their current copies: staged key, current key, count. -/
def stagedRuns : List (Nat × Nat × Nat) :=
  (List.range 8).map (fun n => (planeKey n 0 1, planeKey n 1 1, 18)) ++
  [(entryKey 0x2240 1, entryKey 0x2241 1, 5), (entryKey 0x2280 1, entryKey 0x2281 1, 3), (entryKey 0x22C0 1, entryKey 0x22C1 1, 0x3C),
   (entryKey 0x22C4 0, entryKey 0x22C6 0, 128), (entryKey 0x22C5 0, entryKey 0x22C7 0, 128),
   (entryKey 0x22F1 8, entryKey 0x22F1 0x10, 4), (entryKey 0x23C0 1, entryKey 0x23C1 1, 4)]

/-- Every staged entry with its current copy. -/
def stagedPairs : List (Nat × Nat) := stagedRuns.flatMap (fun r => (List.range r.2.2).map (fun i => (r.1 + i, r.2.1 + i)))

/-- The load arms, which commit with the staged entries (R74, R115, R120). -/
def isArm (k : Nat) : Bool := k == palArmKey || k == ruleArmKey || k == sprArmKey

/-- Whether an entry is staged: its writes are held in the commit window (R181). -/
def isStaged (k : Nat) : Bool := stagedRuns.any (fun r => decide (r.1 ≤ k) && decide (k < r.1 + r.2.2)) || isArm k

/-- Current entries take the staged values at an applied commit, and the committed ones at any other (R74, R134). -/
def commitEntries (s : State) (applied : Bool) : State :=
  let s1 := stagedPairs.foldl (fun t p => regSet t p.2 (if applied then regGet s p.1 else mapGet dictReset s.gfx.committed p.2)) s
  if applied then { s1 with gfx := { s1.gfx with
      committed := stagedPairs.foldl (fun m p => mapSet dictReset m p.2 (regGet s p.1)) s1.gfx.committed } }
  else s1

/-- A held or direct write takes effect: a write of 1 to a load arm arms the load that it latched (R87, R115, R120;
DESIGN CHOICE, log 104). -/
def stagedEffect (s : State) (h : HeldWrite) : State :=
  if isArm h.key then (match h.arm with
    | some l => armLoad s h.key l
    | none => s)
  else setN s h.key (maskClear (regN s h.key) h.mask ||| h.value)

/-- A write to a load arm latches its source and range when it is written (R87). -/
def armLatch (s : State) (h : HeldWrite) : HeldWrite :=
  if isArm h.key && bitAt h.value 0 then { h with arm := some (latchLoad s h.key) } else h

/-- The held writes take effect in arrival order (R181). -/
def applyHeld (s : State) : State := s.raster.held.foldl stagedEffect (setRaster s { s.raster with held := [] })

/-- A late commit: flag, count, once per commit (R182). -/
def commitLate (s : State) : State :=
  if s.raster.lateMarked then s
  else setFlag (bump (setRaster s { s.raster with lateMarked := true }) (entryKey 0x22C9 9)) kRasterFlags 0

/-- Whether no further staged write can be held: it waits at its source until C_f + 1 (R181). -/
def heldFull (s : State) : Bool := s.raster.inWindow && decide (64 ≤ s.raster.held.length)

/-- A staged write reaches its entry: inside the window it is held, and in every-frame mode the commit is late (R181, R182); an arm is latched and shown
at once (R87, DESIGN CHOICE, log 104). -/
def stagedStore (s : State) (w : HeldWrite) : State :=
  let h := armLatch s w
  if s.raster.inWindow then
    let s1 := setRaster s { s.raster with held := s.raster.held ++ [h] }
    let s2 := if h.arm.isSome then showArmed s1 h.key else s1
    if bitAt s.raster.ctrl 0 then s2 else commitLate s2
  else stagedEffect (applyHeld s) h

/-- A request for an applied commit (R180, R182). -/
def commitReq (s : State) (v : Nat) : State :=
  if v % 2 = 0 then s
  else if s.raster.inWindow && bitAt s.raster.ctrl 0 then commitLate (setRaster s { s.raster with lateReq := true })
  else setRaster s { s.raster with commitPending := true }

/-- D_f: the commit window opens (R181). -/
def deadline (s : State) : State :=
  if engineOn s 11 && s.raster.running && !s.raster.inWindow then
    let s1 := applyHeld s
    icAssert (setRaster s1 { s1.raster with inWindow := true }) 181
  else s

/-- C_f + 1: deferred writes take effect (R181); while the window is open none does. -/
def heldWriteApply (s : State) : State := if s.raster.inWindow then s else applyHeld s

/-! ### Raster lock (R187 to R192) -/

/-- Whether the time base is synchronised (R399); an engine 7 that is off leaves the raster free (R44). -/
def tbSynced (s : State) : Bool := engineOn s 7 && (s.tb.gm || s.tb.sync)

/-- The lock settings in the entries: SOURCE, T0, PHASE, STAGGER. -/
def lockSettings (s : State) : List Nat :=
  [fld s (entryKey 0x22C8 6) 0 2, pairN s (entryKey 0x22C8 7) (entryKey 0x22C8 8), regN s (entryKey 0x22C8 9), regN s (entryKey 0x22C8 0x0A)]

/-- RASTER_LOCK.SOURCE in force. -/
def lockSource (s : State) : Nat := match s.raster.lockCfg with
  | a :: _ => a
  | [] => 0

/-- The phase of the lock, with the stagger (R187). -/
def lockPhase (s : State) : Nat :=
  let g := regN s (entryKey 0x22C8 0x0A)
  let m := compMode s
  regN s (entryKey 0x22C8 9) + bits g 16 12 * frameNsNum m / (frameNsDen m * (bits g 0 12 + 1))

/-- S_n (R187). -/
def frameStart (s : State) (n : Nat) : Nat := pairN s (entryKey 0x22C8 7) (entryKey 0x22C8 8) + lockPhase s + framesNs (compMode s) n

/-- The n whose S_n lies nearest to the time base, with the error C - S_n, and the least n with S_n at or after it. -/
def nearestFrame (s : State) : Nat × Int × Nat :=
  let m := compMode s
  let base := frameStart s 0
  let n := (s.tb.ns - base) * frameNsDen m / frameNsNum m
  let e (k : Nat) : Int := (s.tb.ns : Int) - (frameStart s k : Nat)
  let near := if (e (n + 1)).natAbs < (e n).natAbs then n + 1 else n
  let next := if e n ≤ 0 then n else if e (n + 1) ≤ 0 then n + 1 else n + 2
  (near, e near, next)

/-- The measurement of R188: the lock state, counted good frames, STRETCH, source 185 on locking. -/
def lockMeasure (s : State) (e : Int) : State :=
  let sat := clampInt (-(2 ^ 31)) (2 ^ 31 - 1) e
  let s1 := regSet s (entryKey 0x22C9 7) (intWord sat)
  if (lineNsNum (compMode s)) < e.natAbs * (compMode s).clkNum then
    setFlag (setRaster s1 { s1.raster with lock := .acquiring, goodFrames := 0 }) kRasterFlags 4
  else if 20 < e.natAbs then setRaster s1 { s1.raster with lock := .acquiring, goodFrames := 0 }
  else
    let g := s.raster.goodFrames + 1
    if s.raster.lock = .locked then setRaster s1 { s1.raster with goodFrames := g }
    else if 4 ≤ g then icAssert (setRaster s1 { s1.raster with lock := .locked, goodFrames := g }) 185
    else setRaster s1 { s1.raster with lock := .acquiring, goodFrames := g }

/-- The raster enters holdover: flag, count, source 184 (R189). -/
def enterHoldover (s : State) : State :=
  setFlag (bump (setRaster s { s.raster with lock := .holdover, goodFrames := 0 }) (entryKey 0x22C9 0x0A)) kRasterFlags 1

/-- A locked raster loses the time base, running or stopped for a mode change (R189). -/
def rasterHoldover (s : State) : State := if s.raster.lock == .locked then enterHoldover s else s

/-- The number after the device's last commit instant (R171). -/
def nextNumber (s : State) : Nat := match s.raster.lastFrame with
  | none => 0
  | some f => (f + 1) % 2 ^ 64

/-- The lock settings that stand in the entries take force; a change acquires again (R188). -/
def lockAdopt (s : State) : State :=
  let cfg := lockSettings s
  if s.raster.lockCfg == cfg then s
  else setRaster s { s.raster with lockCfg := cfg, goodFrames := 0, holding := none, lock := if lockSource { s with raster := { s.raster with
    lockCfg := cfg } } = 0 then .free else .acquiring }

/-- Whether the raster follows S_n of a synchronised time base. -/
def followsTime (s : State) : Bool := lockSource s == 1 && tbSynced s

/-- Whether an error exceeds one line period. -/
def beyondLine (s : State) (e : Int) : Bool := decide (lineNsNum (compMode s) < e.natAbs * (compMode s).clkNum)

/-- The frame number whose S_n the raster must be held for, where the error exceeds a line (R188). -/
def lockHold (s : State) : Option Nat :=
  let (_, e, next) := nearestFrame s
  if followsTime s && beyondLine s e then some next else none

/-- The lock at a commit instant under the adopted settings: the measurement, and the number of the frame (R171, R185, R187 to R189). `start` marks
S'. -/
def lockCommit (s : State) (start : Bool) : State × Nat :=
  let (near, e, _) := nearestFrame s
  if followsTime s then (lockMeasure s e, near % 2 ^ 64)
  else if lockSource s = 1 ∧ start then (s, near % 2 ^ 64)
  else (s, nextNumber s)

/-! ### The Isobar line (R191) -/

/-- A step of the CRC-8 with polynomial 0x07. -/
def crc8Step (c : Nat) (b : Bool) : Nat := if bitAt c 7 == b then c * 2 % 256 else (c * 2 % 256) ^^^ 7

/-- The CRC-8 over the 64 bits of a frame number in the order they are sent, least significant first; it starts at 0 (DESIGN CHOICE, log 103). -/
def isobarCrc (f : Nat) : Nat := (List.range 64).foldl (fun c i => crc8Step c (bitAt f i)) 0

/-- The bits that follow the pulse: the frame number, least significant first, and the CRC, its highest bit first (DESIGN CHOICE, log 103). -/
def isobarBits (f : Nat) : List Bool := (List.range 64).map (bitAt f) ++ (List.range 8).map (fun i => bitAt (isobarCrc f) (7 - i))

/-- The level of ISOBAR_OUT `t` ns after the commit instant: none at high impedance; high for 640 ns, then a bit every 160 ns, Manchester-coded with
the complement of the bit in its first half (DESIGN CHOICE, log 103), low after the word. -/
def isobarLevel (s : State) (t : Nat) : Option Bool := s.raster.isobarOut.map (fun bs =>
  if t < 640 then true
  else match bs[(t - 640) / 160]? with
    | some b => if (t - 640) % 160 < 80 then !b else b
    | none => false)

/-! ### The commit instant (R179) -/

/-- The entries of write-back whose change returns the ring to its start (R159). -/
def wbKeys (s : State) : List Nat :=
  [fld s (entryKey 0x23C1 1) 0 1, regN s (entryKey 0x23C1 2), regN s (entryKey 0x23C1 3), regN s (entryKey 0x23C1 4)]

/-- The commit instant of frame f in every engine (R179), `applied` as R180 decides, `start` at S' of a mode change. -/
def commitFrame (s : State) (f : Nat) (applied start : Bool) : State :=
  let old := (List.range 8).map (samplePlane s)
  let last := frameNow s
  let wb0 := wbKeys s
  let out0 := regN s (compKey 0x20)
  let s1 := commitEntries s applied
  let s2 := if applied then startLoads s1 else s1
  let s3 := setRaster s2 { s2.raster with
    lastFrame := some f, commitTime := s.tb.ns, ctrl := regN s (entryKey 0x22C8 1), inWindow := false, lateMarked := false,
    commitPending := if applied then s2.raster.lateReq else s2.raster.commitPending || s2.raster.lateReq, lateReq := false,
    line := compH s, lineClk := s.clk, holding := none,
    isobarOut := if flag s (entryKey 0x22C8 6) 2 then some (isobarBits f) else none }
  let s4 := icAssert { s3 with gfx := { s3.gfx with dark := [], lines := [], outP := none, outS := none } } 180
  let s5 := if applied then icAssert (setN s4 (entryKey 0x22C9 6) f) 183 else s4
  let s6 := ssCommit s5 f
  let s7 := (old.zipIdx).foldl (fun t q => if engineOn t (20 + q.2) then planeRetire t q.2 last q.1 (samplePlane t q.2) else t) s6
  let s8 := setN { s7 with gfx := { s7.gfx with blink := blinkWord s7 f } } (entryKey 0x22F1 0x0C) (blinkWord s7 f)
  let s9 := if engineOn s8 10 then lsReset s8 else s8
  let sA := verCommit (legalCommit s9 f (compW s9) (compH s9)) f
  let sB := compCull (sclCommit sA)
  let sC := depthCheck sB (start || !(regN sB (compKey 0x20) == out0))
  hpFrame (wbCommit sC f (!(wbKeys sC == wb0)))

/-- Whether a commit instant is applied (R180). -/
def isApplied (s : State) : Bool := !(bitAt s.raster.ctrl 0) || s.raster.commitPending

/-- The heads go blank at C_a; each later commit instant of the change is counted (R184). -/
def changeCommit (s : State) : State :=
  match s.raster.change with
  | some ⟨m, .waiting⟩ => setRaster s { s.raster with change := some ⟨m, .blanking 1⟩, showing := false }
  | some ⟨m, .blanking n⟩ => setRaster s { s.raster with change := some ⟨m, .blanking (n + 1)⟩ }
  | _ => s

/-- RASTER_MODE_AT. -/
def modeAt (s : State) : Nat := pairN s (entryKey 0x22C8 4) (entryKey 0x22C8 5)

/-- Whether C_a and C_(a+1) have passed, so that the raster may stop (R184). -/
def stopDue (s : State) : Bool := match s.raster.change with
  | some ⟨_, .blanking n⟩ => decide (2 ≤ n)
  | _ => false

/-- Whether the commit instant now lies at or after RASTER_MODE_AT - T_frame (R184). -/
def stopTime (s : State) : Bool :=
  let m := compMode s
  decide ((modeAt s - s.tb.ns) * frameNsDen m ≤ frameNsNum m)

/-- The raster stops before its commit instant, not before RASTER_MODE_AT - T_frame; writes still held take effect (R184, DESIGN CHOICE, log 26). -/
def rasterStop (s : State) : State :=
  if s.raster.running && stopDue s && stopTime s then
    let s1 := setRaster s { s.raster with
      running := false, inWindow := false, lateMarked := false, holding := none,
      change := s.raster.change.map (fun c => { c with phase := .stopped }) }
    applyHeld s1
  else s

/-- Writes held from an earlier window that were not applied yet take effect before this window's commit. -/
def applyHeldLate (s : State) : State := if s.raster.inWindow then s else applyHeld s

/-- The running raster commits. -/
def commitNow (s : State) : State :=
  let applied := isApplied s
  let (s2, f) := lockCommit (changeCommit (applyHeldLate s)) false
  commitFrame s2 f applied false

/-- The raster is held until S_n (R188): the error is measured, STRETCH is set, and no commit instant occurs. -/
def holdRaster (s : State) (n : Nat) : State :=
  let s1 := lockMeasure s (nearestFrame s).2.1
  setRaster s1 { s1.raster with holding := some n }

/-- A commit instant of the running raster (R179). Where the raster must stop before it, it stops; where its lock error exceeds a line, it is held
first, until the time base reaches S_n (R188, log 52). -/
def rasterCommit (s : State) : State :=
  if !(engineOn s 11) || !s.raster.running then s
  else if stopDue s && stopTime s then rasterStop s
  else
    let s1 := lockAdopt s
    match s1.raster.holding, lockHold s1 with
    | some n, _ => if frameStart s1 n ≤ s1.tb.ns then commitNow s1 else s1
    | none, some n => holdRaster s1 n
    | none, none => commitNow s1

/-- Whether idle commits take place (R67): IDLE_COMMIT is 1, the raster does not run, no mode change has it stopped, and a cold start has cleared the
store. -/
def idleOpen (s : State) : Bool :=
  engineOn s 8 && flag s (entryKey 0x2200 1) 1 && !s.raster.running && !(s.pwr.training == 1) &&
    !(s.raster.started && (match s.raster.change with
      | some ⟨_, .stopped⟩ => true
      | _ => false))

/-- Whether a multiple of SS_IDLE_PERIOD has been reached since idle commits last took place or were last closed. -/
def idleDue (s : State) : Bool :=
  let p := regN s (entryKey 0x2200 6)
  decide (s.raster.idleFrom ≤ s.tb.ns / p * p)

/-- An idle commit of the signal store, at a multiple of SS_IDLE_PERIOD (R67, R171). -/
def idleCommit (s : State) : State :=
  if !(idleOpen s) || !(idleDue s) then s
  else
    let f := nextNumber s
    ssCommit (setRaster s { s.raster with lastFrame := some f, commitTime := s.tb.ns, idleFrom := s.tb.ns + 1 }) f

/-- Multiples that pass while no idle commit can take place, or before a step of the time base, do not count later. -/
def idleClose (s : State) : State := setRaster s { s.raster with idleFrom := s.tb.ns + 1 }

/-! ### Mode changes (R184, R185, R495) -/

/-- A mode request with GO = 1 that passed its checks. -/
def modeSubmit (s : State) (modes : Nat) : State :=
  if !(engineOn s 11) then s
  else if !s.raster.started then
    (if s.raster.change.isSome then setRaster s { s.raster with queued := some modes }
     else setRaster s { s.raster with change := some ⟨modes, .stopped⟩ })
  else match s.raster.change with
    | none => setRaster s { s.raster with change := some ⟨modes, .waiting⟩ }
    | some ⟨_, .waiting⟩ => setRaster s { s.raster with change := some ⟨modes, .waiting⟩ }
    | some _ => setRaster s { s.raster with queued := some modes }

/-- S': the new raster starts with a commit instant in the new mode, not before RASTER_MODE_AT, source 186 (R184, R185). -/
def modeDone (s : State) : State :=
  match s.raster.change with
  | some ⟨m, .stopped⟩ =>
    if !(engineOn s 11) || decide (s.tb.ns < modeAt s) then s
    else
      let s1 := setRaster (setN s kModeCur m) { s.raster with
        running := true, started := true, showing := false, hsCfg := regN s (entryKey 0x2380 1),
        change := s.raster.queued.map (fun q => ⟨q, .waiting⟩), queued := none }
      let applied := isApplied s1
      let (s2, f) := lockCommit (lockAdopt s1) true
      let s3 := commitFrame s2 f applied true
      let s4 := if engineOn s3 14 && rateMismatch s3 then setFlag s3 kHsFlags 0 else s3
      icAssert (hpModeChanged s4) 186
  | _ => s

/-- RASTER_STATUS (R194). -/
def rasterStatus (s : State) : Nat :=
  let r := s.raster
  let blank := match r.change with
    | some ⟨_, .waiting⟩ => false
    | some _ => true
    | none => false
  let l := match r.lock with
    | .free => 0
    | .acquiring => 1
    | .locked => 2
    | .holdover => 3
  (if r.running then 1 else 0) + (if r.commitPending || r.lateReq then 2 else 0) + (if r.inWindow then 4 else 0) +
  (if r.held.isEmpty then 0 else 8) + (if r.change.isSome || r.queued.isSome then 16 else 0) +
  (if blank || (r.running && !r.showing) then 32 else 0) + 64 * (if engineOn s 7 || lockSource s == 2 then l else 0)

/-- COMP_STATUS (R165). -/
def compStatus (s : State) : Nat := (if engineOn s 11 && s.raster.running then 1 else 0) + s.raster.line % 8192 * 65536

/-- RASTER_POS (R170, R194): line and pixel clock, by the engine clocks since the line or the blanking began. Blanking carries V_active to V_total - 1;
an active line lasts until the next begins. -/
def rasterPos (s : State) : Nat × Nat :=
  let m := compMode s
  let px := (s.clk - s.raster.lineClk) * m.clkNum / (m.clkDen * 600000000)
  if !s.raster.running then (s.raster.line, 0)
  else if s.raster.line < m.vAct then (s.raster.line, min px (m.hTot - 1))
  else if m.vAct + px / m.hTot < m.vTot then (m.vAct + px / m.hTot, px % m.hTot)
  else (m.vTot - 1, m.hTot - 1)

/-- The error of the last commit instant against an Isobar edge less ISOBAR_COMP, which counts quarters of a nanosecond (R192). -/
def isobarError (s : State) (edge : Nat) : Int :=
  (4 * (s.raster.commitTime : Int) - 4 * (edge : Int) + (fld s (entryKey 0x22C8 0x0B) 0 10 : Nat)) / 4

/-- An Isobar frame word arrives at a follower (R192): `edge` is the time of its rising edge, `sameFrame` says that the master's T_frame is the
follower's. -/
def isobarWord (s : State) (frame crc : Nat) (sameFrame : Bool) (edge : Nat) : State :=
  if !(engineOn s 11) || !s.raster.running || !(lockSource s == 2) then s
  else
    let bad (t : State) : State := setFlag (bump t (entryKey 0x22C9 0x0B)) kRasterFlags 2
    if !sameFrame then bad (setRaster s { s.raster with lock := .free, goodFrames := 0 })
    else
      let s1 := lockMeasure s (isobarError s edge)
      if isobarCrc frame = crc then setRaster s1 { s1.raster with lastFrame := some frame } else bad s1

/-- No Isobar edge within 1.5 frame periods (R192): holdover, whatever the lock's state. -/
def isobarTimeout (s : State) : State :=
  if engineOn s 11 && lockSource s == 2 && !(s.raster.lock == .holdover) then enterHoldover s else s

/-! ### P and the latch points (R89, R90, R122) -/

/-- Line y is latched by the plane engines, by the shadow renderer, and by the blitter's watermark (R89, R205, R343). -/
def latchLine (s : State) (y : Nat) : State := bltLatch (shadowLatch ((List.range 8).foldl (fun t n => planeLatch t y n) s) y) y

/-- P: the walk ends; the estimate is written, the list starts, and lines 0 and 1 are latched (R62, R89, R124, R131, R162). -/
def commitDone (s : State) : State :=
  let s1 := walkFinish s
  if engineOn s1 11 && s1.raster.running then
    let s1a := compEstimate s1
    let s2 := if engineOn s1a 10 && !(engineDark s1a 10) then lsStart s1a else s1a
    [0, 1].foldl (fun t y => sprSample (latchLine t y) y) (shadowPositions s2)
  else s1

/-- The sprite positions are computed, and lines 0 and 1, sampled at P, are selected and drawn (R122, R124). -/
def spritePositionsDone (s0 : State) : State :=
  let s := walkFinish s0
  if engineOn s 9 && s.raster.running then
    [0, 1].foldl (fun t y => sprDraw t y (frameNow s)) { s with gfx := { s.gfx with sprPos := sprPositions s } }
  else s

/-- L(y): every renderer latches line y (R89, R124). A reader of the display half waits for the walk's end (R63). -/
def lineLatch (s0 : State) (y : Nat) : State :=
  let s := walkFinish s0
  if engineOn s 11 && s.raster.running && decide (y < compH s) then sprLatch (latchLine s y) y (frameNow s) else s

/-- A plane engine completes a line (R89), after the walk (R63). -/
def lineFetchDone (s : State) (n y : Nat) : State := lineFetched (walkFinish s) n y

/-! ### The active line (R141) -/

/-- The planes' pixels of a line in plane order, underflows included. -/
def planesDeliver (s : State) (y : Nat) (written : List (Fin 8 × Nat)) : State × List (List (Option Px)) :=
  (List.range 8).foldl (fun (a : State × List (List (Option Px))) n =>
    let w := match written.find? (fun p => p.1.val == n) with
      | some p => p.2
      | none => 0
    let (t, px) := planeDelivers a.1 n y w (frameNow s)
    (t, a.2 ++ [px])) (s, [])

/-- Head P's line: colour processing, dithering, the bound check, the pixel stream (R141, R211). -/
def headPLine (s : State) (y : Nat) (t1 : List Mpx) : State :=
  if !(hpSends s) then s
  else
    let d := headPDepth s
    let out := (t1.zipIdx).map (fun q => (q.1, headPixel s 0x20 d q.2 y q.1))
    let s1 := { s with gfx := { s.gfx with outP := some (y, out.map (fun o => o.2.1)) } }
    ditherLine (perfEvent s1 13 0x20 1) 0 0x20 d y false out

/-- Whether the last pixel of Head S's line i passes after E_f, 9 lines after the last active line (R209). -/
def afterPublication (s : State) (i : Nat) : Bool :=
  let vs := (headSMode s).vTot
  headPOn s && decide ((compH s + 9) * vs < vDelay s * vs + (i + 1) * (compMode s).vTot)

/-- Head S's lines that start within composition line y (R154 to R156, R177, R211). -/
def headSLines (s : State) (t1 : List Mpx) (y : Nat) : State :=
  let s1 := { s with gfx := { s.gfx with lines := (s.gfx.lines ++ [(y, t1)]).drop (s.gfx.lines.length - 7) } }
  if !(engineOn s 14) || !(headSOn s) then s1
  else (sLines s1 y).foldl (fun t i =>
    if !(hsSends t) then { t with gfx := { t.gfx with outS := some (lvdsLine t i ((List.range (headSMode t).hAct).map (fun _ => (0, 0, 0)))) } }
    else
      let d := depthBits (fld t (compKey 0x30) 0 2)
      let px := if headPOn t then scaledLine t i else t1
      let out := (px.zipIdx).map (fun q => (q.1, headPixel t 0x30 d q.2 i q.1))
      let t1 := { t with gfx := { t.gfx with outS := some (lvdsLine t i (out.map (fun o => o.2.1))) } }
      ditherLine (perfEvent (sclLineErr t1 i) 14 0x20 1) 1 0x30 d i (afterPublication t i) out) s1

/-- Active line y (R141), after the walk (R63): merge, legal insertion, tap T1, write-back, verifier, heads. -/
def activeLine (s0 : State) (y : Nat) (written : List (Fin 8 × Nat)) (sprLate : Bool) (shadowLate : List Nat) (fifoFullAt : Option Nat) : State :=
  let s := walkFinish s0
  if !(engineOn s 11) || !s.raster.running || decide (compH s ≤ y) then s
  else
    let show0 := y == 0 && (match s.raster.change with
      | some ⟨_, .blanking _⟩ => false
      | _ => true)
    let s1 := setRaster s { s.raster with line := y, lineClk := s.clk, showing := s.raster.showing || show0 }
    let c := compSample s1
    let (s2, planes) := planesDeliver s1 y written
    let (s3, spr) := sprDelivers s2 y (frameNow s) sprLate
    let cols := columns (none : Option Px) (compW s) (planes ++ [spr])
    let t1 := if engineDark s3 11 then (mergeLine s3 c (cols.map (fun _ => [])) y) else mergeLine s3 c cols y
    let s4 := perfEvent (opqCheck s3 c cols y) 11 0x20 ((compW s + 1) / 2)
    headSLines (headPLine (verLine (wbLine s4 y t1 fifoFullAt) c t1 y shadowLate) y t1) t1 y

end Sys2Proof.Machine
end

