-- ==== Sys2Proof/Machine/Timers.lean ====
section
/-! DEFINITION. The timers, engine 3, and the AT timers of the always-on domain (14): ticks, wraps, matches, reloads, group starts, the lock to the
time base. Channel numbers 0 to 31 are TM0 to TM31 and 32 to 39 AT0 to AT7. -/
namespace Sys2Proof.Machine

/-- Fields of a channel (R358, R359). -/
def tmCtrl (s : State) (n : Nat) : Nat := regN s (timerKey n 1)
def tmRuns (s : State) (n : Nat) : Bool := bitAt (tmCtrl s n) 0
def tmSrc (s : State) (n : Nat) : Nat := bits (tmCtrl s n) 2 2
def tmCount (s : State) (n : Nat) : Nat := regN s (timerKey n 5)
def tmReloadCur (s : State) (n : Nat) : Nat := regN s (timerKey n 0x0C)
def tmLocked (s : State) (n : Nat) : Bool := bitAt (tmCtrl s n) 6

/-- Whether a channel's engine can be reached: TM in domain 8, AT always on. -/
def tmOn (s : State) (n : Nat) : Bool := decide (32 ≤ n) || engineOn s 3

/-- Sets a flag of a channel: MATCH 0, WRAP 1, PERIOD_CUT 2, LOCK_SLIP 3. A waking AT channel's enabled MATCH or WRAP is a wake cause (R358, R431). -/
def tmFlag (s : State) (n b : Nat) : State :=
  let s1 := setFlag s (timerKey n 0x0B) b
  if 32 ≤ n ∧ bitAt (tmCtrl s n) 9 ∧ ((b = 0 ∧ bitAt (tmCtrl s n) 7) ∨ (b = 1 ∧ bitAt (tmCtrl s n) 8)) then { s1 with woken := s1.woken ++ [2] }
  else s1

/-- Whether a channel is frozen in debug halt (R356). -/
def tmFrozen (s : State) (n : Nat) : Bool := bitAt (tmCtrl s n) 5 && !s.sec.halted.isEmpty

/-- The lock time A: TM_LOCK_AT rounded up to a multiple of 10 ns (R357). -/
def lockAt (s : State) (n : Nat) : Nat := (pairN s (timerKey n 7) (timerKey n 8) + 9) / 10 * 10

/-- The count that the formula of R357 gives now. -/
def lockFormula (s : State) (n : Nat) : Nat := ((s.tb.ns - lockAt s n) / 10 + regN s (timerKey n 6)) % (tmReloadCur s n + 1)

/-- Whether a locked channel counts. -/
def tmCounting (s : State) (n : Nat) : Bool := mapGet (fun _ => false) s.tm.counting n
def setCounting (s : State) (n : Nat) (b : Bool) : State :=
  { s with tm := { s.tm with counting := mapSet (fun _ => false) s.tm.counting n b } }

/-- Whether a channel owes the action of a compatibility match. -/
def tmActs (s : State) (n : Nat) : Bool := mapGet (fun _ => false) s.tm.acts n
def setActs (s : State) (n : Nat) (b : Bool) : State := { s with tm := { s.tm with acts := mapSet (fun _ => false) s.tm.acts n b } }

/-! ### Writes that wait for the channel's clock (R349) -/

/-- A channel's entries are written: their old words count until the first clock of the channel's kind, though a read shows the new ones (DESIGN
CHOICE, log 105). A reload is stored at once (R350). -/
def tmKeep (s : State) (n : Nat) (subs : List Nat) : State :=
  let old := mapGet (fun _ => []) s.tm.before n
  let more := (subs.filter (fun i => !(i == 2) && !(old.any (fun e => e.1 == i)))).map (fun i => (i, regGet s (timerKey n i)))
  { s with tm := { s.tm with before := mapSet (fun _ => []) s.tm.before n (old ++ more) } }

/-- The channels of a kind, TM or AT, as they stood before the writes that take effect at their clock. -/
def tmRestore (s : State) (at_ : Bool) : State :=
  (s.tm.before.filter (fun e => decide (32 ≤ e.1) == at_)).foldl (fun t e => e.2.foldl (fun u w => regSet u (timerKey e.1 w.1) w.2) t) s

/-- COUNT takes a value; at COMPARE it matches, and COMPARE advances in native mode, or the action falls due in compatibility mode (R351, R352). -/
def tmArrive (s : State) (n v : Nat) : State :=
  let s1 := setN s (timerKey n 5) v
  if v = regN s (timerKey n 3) ∧ v ≤ tmReloadCur s n then
    let s2 := if n < 32 then perfEvent (tmFlag s1 n 0) 3 0x21 1 else tmFlag s1 n 0
    if bitAt (tmCtrl s n) 1 then (if bits (tmCtrl s n) 11 3 = 0 then s2 else setActs s2 n true)
    else setN s2 (timerKey n 3) ((regN s (timerKey n 3) + regN s (timerKey n 4)) % (tmReloadCur s n + 1))
  else s1

/-- A wrap of a channel (R348, R350, R357): COUNT 0, the new reload, the WRAP flag, the check of a locked channel against the formula. -/
def tmWrapped (s : State) (n : Nat) : State :=
  let s1 := setN s (timerKey n 0x0C) (regN s (timerKey n 2))
  let s2 := perfEvent (tmFlag (tmArrive s1 n 0) n 1) 3 (if n < 32 then 0x20 else 0x22) 1
  if tmLocked s2 n && tmCounting s2 n && !(lockFormula s2 n == 0) then tmFlag (setN s2 (timerKey n 5) (lockFormula s2 n)) n 3 else s2

/-- The number of channels of the kind of channel n. -/
def tmLast (n : Nat) : Nat := if n < 32 then 31 else 39

/-- RUN of a channel. -/
def tmRun (s : State) (n : Nat) (b : Bool) : State :=
  let s1 := setFld s (timerKey n 1) 0 1 (if b then 1 else 0)
  if b then s1 else setActs (setCounting s1 n false) n false

/-- A wrap of channel n ticks a cascaded channel above it (R353). -/
def tmCascade (tick : State → Nat → State) (s : State) (n : Nat) : State :=
  if n < tmLast n && tmRuns s (n + 1) && tmSrc s (n + 1) == 1 then tick s (n + 1) else s

/-- COUNT of a channel goes to 0 by an action: a wrap with its cascade tick, in place of the channel's tick of this clock (R352). A frozen channel does
not move (R356). -/
def tmZeroBy (tick : State → Nat → State) (s : State) (n : Nat) : State :=
  if tmFrozen s n then s
  else
    let s1 := tmWrapped s n
    tmCascade tick { s1 with tm := { s1.tm with zeroed := s1.tm.zeroed ++ [n] } } n

/-- The action of a compatibility match (R352). -/
def tmActBy (tick : State → Nat → State) (s : State) (n : Nat) : State :=
  let act := bits (tmCtrl s n) 11 3
  let link := bits (tmCtrl s n) 16 5
  let s1 := setActs s n false
  let s2 := if act = 1 ∨ act = 4 then tmZeroBy tick s1 n else if act = 2 then tmZeroBy tick s1 link else s1
  if act = 3 ∨ act = 4 then tmRun s2 link true else s2

/-- One tick of channel n: the action due since its last tick, then the advance, unless an action has set its COUNT to 0 in this clock (R348, R350, R352,
R353). `fuel` bounds the chain of cascades and actions. -/
def tmTick : Nat → State → Nat → State
  | 0, s, _ => s
  | fuel + 1, s0, n =>
    if !(tmRuns s0 n) || tmFrozen s0 n || s0.tm.zeroed.contains n then s0
    else
      let s := if tmActs s0 n then tmActBy (tmTick fuel) s0 n else s0
      let imm := bitAt (tmCtrl s n) 4 && !(regN s (timerKey n 2) == tmReloadCur s n)
      if s.tm.zeroed.contains n then s
      else if imm && decide (regN s (timerKey n 2) ≤ tmCount s n) then tmCascade (tmTick fuel) (tmFlag (tmWrapped s n) n 2) n
      else
        let s1 := if imm then setN s (timerKey n 0x0C) (regN s (timerKey n 2)) else s
        if tmCount s n = tmReloadCur s1 n then tmCascade (tmTick fuel) (tmWrapped s1 n) n
        else tmArrive s1 n ((tmCount s n + 1) % 2 ^ 32)

/-- A bound on the ticks of one clock. -/
def tmFuel : Nat := 1100

/-- The clock's mark of channels that an action has reset is dropped. -/
def tmClockEnd (s : State) : State := { s with tm := { s.tm with zeroed := [] } }

/-- COUNT of a channel goes to 0. -/
def tmZero (s : State) (n : Nat) : State := tmClockEnd (tmZeroBy (tmTick tmFuel) s n)

/-- The action of a compatibility match, taken with the event of the match. -/
def tmAct (s : State) (n : Nat) : State := tmClockEnd (tmActBy (tmTick tmFuel) s n)

/-- A channel waits for its lock time (R357). -/
def tmWaits (s : State) (n : Nat) : Bool := tmLocked s n && !(tmCounting s n)

/-- A locked channel counts from its lock time on, by the formula (R357). -/
def tmLockStart (s : State) (n : Nat) : State :=
  if tmOn s n && decide (n < 32) && tmRuns s n && tmWaits s n && !(tmFrozen s n) && decide (lockAt s n ≤ s.tb.ns) then
    tmArrive (setCounting s n true) n (lockFormula s n)
  else s

/-- Whether a channel ticks at every clock of its kind. -/
def tmOwn (s : State) (n : Nat) : Bool := tmOn s n && tmRuns s n && tmSrc s n == 0 && !(tmFrozen s n)

/-- The actions due at this clock, before any channel ticks (R352). -/
def tmActions (s : State) (n : Nat) : State := if tmOwn s n && !(tmWaits s n) && tmActs s n then tmActBy (tmTick tmFuel) s n else s

/-- One clock of channel n's own kind: the lock time, or a tick of SRC 0. `s0` is the state before the clock: a channel that an action starts counts from
the next. -/
def tmClock (s0 s : State) (n : Nat) : State :=
  if !(tmOwn s0 n) || !(tmOwn s n) then s
  else if tmWaits s n then tmLockStart s n
  else tmTick tmFuel s n

/-- A write to TM_CTRL takes effect: a channel that stops or leaves the lock no longer counts locked, and a CTRL whose IRQ bits change drives its source. -/
def tmCtrlWritten (s : State) (n v : Nat) : State :=
  let src := if n < 32 then 48 + n / 4 else 56
  let t := setN s (timerKey n 1) v
  let t1 := if bitAt v 0 && bitAt v 6 then t else setCounting t n false
  let t2 := if bitAt v 0 then t1 else setActs t1 n false
  if !(flagSignal s src) && flagSignal t2 src then icAssert t2 src
  else if flagSignal s src && !(flagSignal t2 src) then icFall t2 src
  else t2

/-- The writes of `s0` take effect in `s`, each entry at the word it was given last (R349). -/
def tmApply (s0 s : State) (at_ : Bool) : State :=
  let mine := s0.tm.before.filter (fun e => decide (32 ≤ e.1) == at_)
  let s1 := mine.foldl (fun t e => e.2.foldl (fun u w =>
    let v := regN s0 (timerKey e.1 w.1)
    if w.1 = 1 then tmCtrlWritten u e.1 v else setN u (timerKey e.1 w.1) v) t) s
  { s1 with tm := { s1.tm with before := s1.tm.before.filter (fun e => !(decide (32 ≤ e.1) == at_)) } }

/-- A clock of the TM channels or of the AT channels: actions, ticks, then the writes that take effect (R349, R352). -/
def tmKind (s0 : State) (at_ : Bool) : State :=
  let s := tmRestore s0 at_
  let ns := if at_ then (List.range 8).map (· + 32) else List.range 32
  tmApply s0 (tmClockEnd (ns.foldl (tmClock s) (ns.foldl tmActions s))) at_

/-- One timer clock: every TM channel, and one tick of the 32.768 kHz clock: every AT channel. -/
def tmClocks (s : State) : State := tmKind s false
def atClocks (s : State) : State := tmKind s true

/-- The writes that wait are in effect: an event of channel n stands for a clock of its own. -/
def tmTake (s : State) (n : Nat) : State := if s.tm.before.isEmpty then s else tmApply s (tmRestore s (decide (32 ≤ n))) (decide (32 ≤ n))

/-- The event of a wrap: a running channel's count passes RELOAD_CUR (R348). -/
def tmWrap (s0 : State) (n : Nat) : State :=
  let s := tmTake s0 n
  if tmOn s n && tmRuns s n then tmZero s n else s

/-- The event of the lock time (R357). -/
def tmLockEvent (s : State) (n : Nat) : State := tmLockStart (tmTake s n) n

/-- The event of a match: a running channel's count reaches COMPARE; a compatibility action is taken with it (R351, R352). `written` is a write to
TM_COMPARE in the same tick, which stands over the advance. -/
def tmMatch (s0 : State) (n : Nat) (written : Option Nat) : State :=
  let s := tmTake s0 n
  let c := regN s (timerKey n 3)
  if tmOn s n && tmRuns s n && !(tmFrozen s n) && decide (c ≤ tmReloadCur s n) then
    let s1 := tmArrive s n c
    let s2 := match written with
      | some v => setN s1 (timerKey n 3) v
      | none => s1
    if tmActs s2 n then tmAct s2 n else s2
  else s

/-- Group start (R355): COUNT takes PHASE and RUN 1; locked channels ignore it. -/
def tmGroupStart (s : State) (ns : List Nat) : State :=
  ns.foldl (fun t n => if tmLocked t n then t
    else setFld (setN (tmKeep t n [1, 5]) (timerKey n 5) (regN t (timerKey n 6))) (timerKey n 1) 0 1 1) s

/-- Group stop (R355). -/
def tmGroupStop (s : State) (ns : List Nat) : State := ns.foldl (fun t n => setFld (tmKeep t n [1]) (timerKey n 1) 0 1 0) s

/-- TM_STAGGER (R355): phases on a run of channels, then one group start. -/
def tmStagger (s : State) (first n : Nat) : State :=
  let chans := (List.range n).map (first + ·)
  let s1 := (List.range n).foldl (fun t i =>
    setN (tmKeep t (first + i) [6]) (timerKey (first + i) 6) (i * (tmReloadCur t (first + i) + 1) / n)) s
  tmGroupStart s1 chans

/-- A write to an entry of channel n is accepted (R349). -/
def tmWrite (s : State) (n sub v : Nat) : State := setN (tmKeep s n [sub]) (timerKey n sub) v

end Sys2Proof.Machine
end

