-- ==== Sys2Proof/Machine/Reset.lean ====
section
/-! DEFINITION. What a power domain loses when it switches off and holds when it switches on (R14, R424, R443), and the re-initialisation of one
engine at step 2 of the recovery ladder (R439, R440). -/
namespace Sys2Proof.Machine

/-- Replaces the manager's state. -/
def setPwr (s : State) (p : Power) : State := { s with pwr := p }

/-- Replaces the network engine's state. -/
def setNet (s : State) (n : Net) : State := { s with net := n }

/-- The row that describes a key's entry. -/
def keyRow (k : Nat) : Option DictRow := dictRow? (k / 256) (k % 256)

/-- The persistence class of a key's entry (R418). -/
def keyClass (k : Nat) : Persist := match keyRow k with
  | some r => r.cls
  | none => .volatile

/-- The access code of a key's entry (R12). -/
def keyAccess (k : Nat) : Access := match keyRow k with
  | some r => r.acc
  | none => .ro

/-- The domain that holds a key. -/
def keyDomain (k : Nat) : Nat := entryDomain (k / 256) (k % 256)

/-- An entry that its domain loses when it goes off: not the capability entries, nor one held in retention or sealed (R14, R418, R425). -/
def lostWith (d k : Nat) : Bool :=
  keyDomain k == d && !(k / 256 == 0x1000) && (keyClass k == .volatile || keyClass k == .saved)

/-- The entries of a domain return to their defaults (R425), and with them what they hold of staged writes: the values to become current at the next
commit and writes held in the window (R74, R181). -/
def dropEntries (s : State) (d : Nat) : State :=
  setPwr { s with
      dict := mapDrop (lostWith d) s.dict, blobs := mapDrop (lostWith d) s.blobs,
      gfx := { s.gfx with committed := mapDrop (lostWith d) s.gfx.committed },
      raster := { s.raster with held := s.raster.held.filter (fun w => !(lostWith d w.key)) } }
    { s.pwr with shadow := mapDrop (lostWith d) s.pwr.shadow }

/-- The outstanding requests of some requesters of the memory controller are gone (R35). -/
def dropRequests (s : State) (p : Nat → Bool) : State := { s with tracker := mapDrop p s.tracker }

/-- The saved entries of a domain take their saved values (R418). -/
def applySaved (s : State) (d : Nat) : State :=
  let s1 := (s.saved.filter (fun e => keyDomain e.1 == d)).foldl (fun t e => regSet t e.1 e.2) s
  (s.savedBlobs.filter (fun e => keyDomain e.1 == d)).foldl (fun t e => blobSet t e.1 e.2) s1

/-- The network engine's logic after a reset of domain 7 (R393): the SPI host, application requests and local requests are elsewhere. -/
def netReset (n : Net) : Net := { spiOut := n.spiOut, toHost := n.toHost, lop := n.lop, reqs := n.reqs, reqTag := n.reqTag, apps := n.apps }

/-- The application cores of domain d. -/
def domainCores (d : Nat) : List Nat := [2 * (d - 9), 2 * (d - 9) + 1]

/-- What the logic and the memories of a domain lose (R21, R69, R114, R120, R155, R217, R326, R370, R443). Memories whose
contents are then undefined, palettes and rules among them, read 0 (DESIGN CHOICE, log 5). -/
def dropLogic (s : State) (d : Nat) : State :=
  let g := s.gfx
  if d = 3 then resetCore s 8 0
  else if d = 4 then bmPowerOff s
  else if d = 5 then setBm s { s.bm with chans := [] }
  else if d = 7 then
    let t := { setNet s (netReset s.net) with tb := { s.tb with sync := false, gm := false } }
    if lockSource t = 1 then rasterHoldover t else t
  else if d = 8 then
    let s := if s.sec.halted.contains 8 then setCore s 8 { coreOf s 8 with run := 1 } else s
    { s with mem := { s.mem with sram := [] }, snaps := [], tm := { s.tm with counting := mapDrop (· < 32) s.tm.counting, acts := mapDrop (· < 32) s.tm.acts, before := mapDrop (· < 32) s.tm.before },
             net := { s.net with reqs := [], reqTag := [], apps := [], lop := none },
             sec := { s.sec with response := none, halted := [] }, health := {} }
  else if 9 ≤ d ∧ d ≤ 12 then (domainCores d).foldl (fun t c => setCore (unhalt (resetStack t c) c) c {}) s
  else if d = 13 then { discardQueued s 6 with ss := {} }
  else if d = 14 then { s with mem := { s.mem with vsram := [] } }
  else if d = 15 then dropRequests { s with gfx := { g with planes := mapDrop (· < 4) g.planes } } (· < 4)
  else if d = 16 then dropRequests { s with gfx := { g with planes := mapDrop (4 ≤ ·) g.planes } } (fun r => decide (4 ≤ r) && decide (r < 8))
  else if d = 17 then { s with gfx := { g with sprAttr := [], sprArmed := none, sprLoad := none, sprPos := [], sprBufs := [], ls := {} } }
  else if d = 18 then
    { s with raster := { lastFrame := s.raster.lastFrame, commitTime := s.raster.commitTime, idleFrom := s.raster.idleFrom }, ver := {}, wb := {},
             gfx := { g with pal := [], rules := [], palArmed := none, palLoad := none, ruleArmed := none, ruleLoad := none,
                             palShadow := [], rulesShadow := [], shadowLines := [], shadowPos := [], cull := [], lines := [], blink := 0 } }
  else if d = 19 then { s with hp := { hpd := s.hp.hpd }, gfx := { g with outP := none } }
  else if d = 20 then { s with gfx := { g with coefStaged := [], coefCur := [], outS := none } }
  else if d = 21 then { s with aud := {} }
  else if d = 22 then dropRequests { s with dma := [], blt := {} } (fun r => r == reqBlitter || (decide (16 ≤ r) && decide (r < 40)))
  else if d = 23 then { s with tracker := [] }
  else if d = 24 then setNet s { s.net with spiOut := [], toHost := none }
  else s

/-- The PLLs that a set of domains uses, as PWR_CLK_STATUS[5:0] (R424, R429). -/
def pllsOf (on : Nat) : Nat :=
  let any (ds : List Nat) : Bool := ds.any (fun d => bitAt on (d - 1))
  let b (x : Bool) (k : Nat) : Nat := if x then 2 ^ k else 0
  b (any [8, 9, 10, 11, 12]) 0 + b (any [8, 24]) 1 + b (any [13, 14, 15, 16, 17, 18, 22]) 2 + b (any [18, 19, 20]) 3 + b (any [23]) 4 + b (any [21]) 5

/-- The domain mask changes; the PLLs follow (R429). -/
def setDomain (s : State) (d : Nat) (on : Bool) : State :=
  let s1 := setFld s kDomainOn (d - 1) 1 (if on then 1 else 0)
  perfEvent (setFld s1 (entryKey 0x2040 0x0C) 0 6 (pllsOf (regN s1 kDomainOn))) 1 0x20 1

/-- A pending level source of an engine without power returns to idle: its signal is 0 (R44, R313). The controller's own sources, whose flags and
states are saved to retention (R322), keep theirs. -/
def dropSources (s : State) (d : Nat) : State :=
  (s.ic.src.map Prod.fst).foldl (fun t src => if sourceDomain src = d ∧ !(sourceEngine src = 2) then icFall t src else t) s

/-- A domain switches off (R425). The LPDDR4X device enters self-refresh with domain 23, so external memory keeps its contents (R494). -/
def domainOff (s : State) (d : Nat) : State :=
  if !(domainOn s d) then s else dropSources (setDomain (dropLogic (dropEntries s d) d) d false) d

/-- Edges that the always-on domain held become assertions once the controller is restored, and level sources follow their signals again (R322). -/
def icRestore (s : State) : State :=
  icRelevelAll (s.ic.heldEdges.foldl icMove { s with ic := { s.ic with heldEdges := [] } })

/-- A domain switches on: saved entries, then its units out of reset. Domain 3 starts the Warden from pc 0; application cores are held when `hold` (R428). -/
def domainUp (s : State) (d : Nat) (hold : Bool) : State :=
  if domainOn s d then s
  else
    let s1 := applySaved (setDomain s d true) d
    if d = 3 then resetCore s1 8 1
    else if d = 8 then icRestore { s1 with icnStart := s1.clk }
    else if 9 ≤ d ∧ d ≤ 12 then ((domainCores d).filter (procPresent s.variant)).foldl (fun t c => resetCore t c (if hold then 0 else 1)) s1
    else if d = 23 then setPwr (setN s1 (entryKey 0x2482 1) (if s1.pwr.trained then 2 else 0)) { s1.pwr with training := 3 }
    else s1

/-! ### Step 2 of the ladder (R439, R440) -/

/-- The value an entry of an offline engine takes. -/
def reinitValue (s : State) (k : Nat) : Word :=
  match stagedPairs.find? (fun p => p.2 == k) with
  | some _ => mapGet dictReset s.gfx.committed k
  | none => match mapGet (fun _ => none) s.pwr.shadow k with
    | some w => w
    | none => dictReset k

/-- Whether step 2 of engine e rewrites an entry: the engine's own, not held in retention; the controller's training state follows the device. -/
def reinitKey (e k : Nat) : Bool :=
  engineOf (k / 256) == some e && !(keyClass k == .retained) && !(k == entryKey 0x2482 1)

/-- The entries of engine e after step 2: rw entries and committed copies from the shadow, the rest at their reset values. -/
def reinitEntries (s : State) (e : Nat) : State :=
  let rw := (s.pwr.shadow.map Prod.fst ++ s.gfx.committed.map Prod.fst).filter (reinitKey e)
  let vals := rw.map (fun k => (k, reinitValue s k))
  let s1 := { s with dict := mapDrop (reinitKey e) s.dict }
  vals.foldl (fun t v => regSet t v.1 v.2) s1

/-- The logic of engine e after its reset, its memories kept. -/
def reinitLogic (s : State) (e : Nat) : State :=
  let g := s.gfx
  if e = 0 then resetCore s 8 0
  else if e = 2 then
    icRelevelAll { s with ic := { heldEdges := s.ic.heldEdges } }
  else if e = 3 then { s with tm := { edge := s.tm.edge } }
  else if e = 4 then { s with pins := { s.pins with hand := [], out := 0 } }
  else if e = 5 then dropRequests { s with dma := [] } (fun r => decide (16 ≤ r) && decide (r < 40))
  else if e = 6 then requestsDone { s with blt := {} } reqBlitter
  else if e = 7 then setNet s (netReset s.net)
  else if e = 8 then
    let t := discardQueued s 3
    { t with ss := { t.ss with replies := [], walk := none, heldRun := 0, clearReq := 0 } }
  else if e = 9 then { s with gfx := { g with sprArmed := none, sprLoad := none, sprPos := [], sprBufs := [] } }
  else if e = 10 then { s with gfx := { g with ls := {} } }
  else if e = 11 then { s with gfx := { g with palArmed := none, palLoad := none, ruleArmed := none, ruleLoad := none, cull := [], lines := [] } }
  else if e = 12 then
    { s with
      ver := { s.ver with runs := [], skipped := [], rendering := false, last := s.ver.last.map (fun v => ⟨v.frame, [], []⟩) },
      gfx := { g with shadowLines := [], shadowPos := [] } }
  else if e = 13 then { s with hp := { hpd := s.hp.hpd } }
  else if e = 14 then { s with gfx := { g with outS := none } }
  else if e = 15 then { s with wb := {} }
  else if e = 16 then { s with aud := {} }
  else if e = 17 then { s with health := { s.health with record := none, written := 0 } }
  else if e = 19 then
    let t := setBm s { s.bm with inFull := false, outValid := false }
    if s.bm.inFull then icAssert t 306 else t
  else if 20 ≤ e ∧ e ≤ 27 then requestsDone (setPlane s (e - 20) {}) (e - 20)
  else if 28 ≤ e ∧ e ≤ 35 then resetCore s (e - 28) 0
  else if e = 36 then { s with sec := { s.sec with response := none } }
  else s

/-- Engine e is taken offline: its sources fall with its flags. -/
def reinitEngine (s : State) (e : Nat) : State :=
  let s1 := setFld (reinitLogic (reinitEntries s e) e) (entryKey 0x2044 e) 3 1 1
  (s1.ic.src.map Prod.fst).foldl (fun t src => if sourceEngine src = e ∧ !(flagSignal t src) then icFall t src else t) s1

/-- Whether an engine renders (R440). -/
def rendering (e : Nat) : Bool := decide (9 ≤ e) && decide (e ≤ 12) || (decide (20 ≤ e) && decide (e ≤ 27))

/-- Step 2 ends: the engine is online, a processor is released, a rendering engine stays dark until the next commit instant (R440). -/
def reinitDone (s : State) (e : Nat) : State :=
  if !(engineOffline s e) then s
  else
    let s0 := setFld s (entryKey 0x2044 e) 3 1 0
    let c := if e = 0 then 8 else e - 28
    let s1 := if (e == 0 || (decide (28 ≤ e) && decide (e ≤ 35))) && engineOn s0 e then releaseCore s0 c else s0
    if rendering e && !(s1.gfx.dark.contains e) then { s1 with gfx := { s1.gfx with dark := s1.gfx.dark ++ [e] } }
    else s1

end Sys2Proof.Machine
end

