-- ==== Sys2Proof/Machine/Power.lean ====
section
/-! DEFINITION. The clock and power manager, engine 1 (17): starts and the boot image (R433 to R437, R447 to R450), power state transitions, resume,
domain requests, wake causes (R425 to R431), and the steps of the recovery ladder (R439, R440). -/
namespace Sys2Proof.Machine

def kPwrState : Nat := entryKey 0x2040 1
def kPwrCtrl : Nat := entryKey 0x2040 3
def kPwrFlags : Nat := entryKey 0x2040 0x0B
def kPwrBoot : Nat := entryKey 0x2040 8

/-- PWR_STATE.STATE: 0 Gale, 1 Breeze, 2 Calm. -/
def pwrState (s : State) : Nat := fld s kPwrState 0 2

/-! ### The boot table and application images (R434, R449, R450) -/

/-- Bytes and a word of the xSPI flash. -/
def flashBytes (s : State) (a n : Nat) : List Byte := readBytes extSize s.mem.flash a n
def flashWord (s : State) (a : Nat) : Nat := ofBytes (flashBytes s a 4)

/-- The boot table keeps its magic, its CRC and its zero fields. -/
def bootTableOk (s : State) : Bool :=
  flashWord s 0 == 0x594C4254 && flashWord s 28 == crc32 (flashBytes s 0 28) && flashWord s 24 == 0 &&
  [flashWord s 4, flashWord s 8, flashWord s 12, flashWord s 20].all (fun o => o % 65536 == 0) && decide (flashWord s 16 ≤ 8192)

/-- The offset of slot A (0) or B (1). -/
def bootSlot (s : State) (slot : Nat) : Nat := flashWord s (if slot = 0 then 4 else 8)

/-- A section entry: target, flags, offset, length, destination. -/
structure Section where
  target : Nat
  flags : Nat
  offset : Nat
  len : Nat
  dest : Nat
  deriving DecidableEq, Repr

/-- Section j of the image at an offset. -/
def imgSection (s : State) (base j : Nat) : Section :=
  let a := base + 64 + 16 * j
  ⟨flashWord s a % 256, bits (flashWord s a) 8 8, flashWord s (a + 4), flashWord s (a + 8), flashWord s (a + 12)⟩

/-- The processor and the memory of a target (0 instruction RAM, 1 data RAM, 2 decode table), with its size (R449). -/
def targetOf (t : Nat) : Option (Nat × Nat × Nat) :=
  if t = 0 then some (8, 0, 32768)
  else if t = 1 then some (8, 1, 16384)
  else if t < 18 then some ((t - 2) / 2, t % 2, 65536)
  else if t < 26 then some (t - 18, 2, 2048)
  else if t = 26 then some (8, 2, 2048)
  else none

/-- Whether an image's header and sections keep R449. -/
def imageOk (s : State) (base : Nat) : Bool :=
  let total := flashWord s (base + 4)
  let n := flashWord s (base + 8) % 256
  flashWord s base == 0x594C494D && total % 4 == 0 && decide (total ≤ 8388608) && decide (1 ≤ n) && decide (n ≤ 28) &&
  decide (64 + 16 * n ≤ total) && flashWord s (base + 8) / 256 == 0 && (flashBytes s (base + 16) 48).all (· == 0#8) &&
  (List.range n).all (fun j =>
    let c := imgSection s base j
    bits (flashWord s (base + 64 + 16 * j)) 16 16 == 0 && decide (c.flags < 2) && decide (c.offset + c.len ≤ total) &&
    (match targetOf c.target with
      | some (_, _, size) => decide (c.dest + c.len ≤ size)
      | none => false))

/-- The verification of the application image at an offset, a code of R450. -/
def appVerify (s : State) (base : Nat) : Nat :=
  if imageOk s base then
    let total := flashWord s (base + 4)
    verifyImage s.sec.fuses.appHash (flashBytes s (base + total) 128) (sha256 (flashBytes s base total))
  else 1

/-- The decode table of a core from bytes at a destination; LOCK follows (R449). -/
def loadTable (s : State) (c dest : Nat) (b : List Byte) (lock : Bool) : State :=
  let x := coreOf s c
  let words := (chunksOf 4 512 b).map (fun w => natWord (ofBytes w))
  setCore s c { x with mc := mapSetMany (fun _ => 0x10000000#32) x.mc (dest / 4) words, lock := x.lock || lock }

/-- Loads one section; a core that the variant lacks is skipped (R449). -/
def loadSection (base : Nat) (s : State) (c : Section) : State :=
  let b := flashBytes s (base + c.offset) c.len
  match targetOf c.target with
  | none => s
  | some (p, m, _) =>
    if !(procPresent s.variant p) then s
    else if m = 0 then loadIram s p c.dest b
    else if m = 1 then loadDram s p c.dest b
    else loadTable s p c.dest b (bitAt c.flags 0 || s.sec.fuses.lifecycle == 2)

/-- Loads every section of an image. -/
def loadImage (s : State) (base : Nat) : State :=
  ((List.range (flashWord s (base + 8) % 256)).map (imgSection s base)).foldl (loadSection base) s

/-- The application cores' RAM, instruction then data, core by core: what the resume copy holds (R428, R432). -/
def coreRams (s : State) : List Byte :=
  (List.range (appCores s.variant)).flatMap (fun c => readBytes 65536 (coreOf s c).iram 0 65536 ++ readBytes 65536 (coreOf s c).dram 0 65536)

/-- Reloads the application cores' RAM from bytes in that order. -/
def loadRams (s : State) (b : List Byte) : State :=
  (List.range (appCores s.variant)).foldl (fun t c =>
    loadDram (loadIram t c 0 ((b.drop (131072 * c)).take 65536)) c 0 ((b.drop (131072 * c + 65536)).take 65536)) s

/-- The resume copy of a start (R428): in external memory at an address the spec does not give (free, DESIGN CHOICE, log 15), or the boot slot on the YL-6430. -/
def keepCopy (s : State) (base : Nat) : State :=
  if s.variant = .yl6430 then
    let n := flashWord s (base + 4)
    setPwr s { s.pwr with copyAt := base, copyLen := n, copyDigest := sha256 (flashBytes s base n) }
  else
    let (f, s1) := drawFree s
    let b := coreRams s1
    let a := f % (extFitted s1 / 64 - b.length / 64 + 1) * 64
    setPwr (extWrite s1 a b) { s1.pwr with copyAt := a, copyLen := b.length, copyDigest := sha256 b }

/-! ### Starts (R433 to R437) -/

/-- The order in which a transition switches domains off (R427). -/
def offOrder : List Nat := [24, 23, 22, 21, 20, 19, 17, 18, 16, 15, 14, 13, 12, 11, 10, 9, 7, 8, 6, 5, 4, 3]

/-- Whether a domain serves only absent units (R2, R217). -/
def domainAbsent (v : Variant) (d : Nat) : Bool := (v == .yl6430 && (d == 11 || d == 12 || d == 23)) || (d == 5 && !(v == .yl6400))

/-- Switches several domains off or on in order. -/
def domainsOff (s : State) (ds : List Nat) : State := ds.foldl domainOff s
def domainsUp (s : State) (ds : List Nat) (hold : Bool) : State :=
  ds.foldl (fun t d => if domainAbsent t.variant d then t else domainUp t d hold) s

/-- Replaces the security state. -/
def setSec (s : State) (x : Sec) : State := { s with sec := x }

/-- The sealed entries fail their integrity tag and take their defaults (R446, R418). -/
def dropSealed (s : State) : State := { s with blobs := mapDrop (fun k => keyClass k == .sealed) s.blobs }

/-- Entry to RETURNED (R446): DEV_KEY is erased, the sealed entries fail, engine 19 records it. -/
def enterReturned (s : State) : State :=
  bmReturned (dropSealed (setSec s { s.sec with fuses := { s.sec.fuses with devKey := List.replicate 32 0xFF#8 } }))

/-- A lifecycle transition that a cold start interrupts: afterwards the state reads either the old or the new value (R444), as a free value says;
with RETURNED it has been entered (R446; DESIGN CHOICE, log 27). -/
def lcInterrupted (s : State) : State := match s.sec.lcTarget with
  | none => s
  | some t =>
    let (f, s1) := drawFree s
    let s2 := setSec s1 { s1.sec with lcTarget := none }
    if f % 2 = 0 then s2
    else
      let s3 := setSec s2 { s2.sec with fuses := { s2.sec.fuses with lifecycle := t } }
      if t = 3 then enterReturned s3 else s3

/-- The nonvolatile part of the device, and what a cold start does not reach: the fuses, the flash, the MRAM, the levels outside, the model's own
fields. Everything else is as after a cold start, with no domain on (R443, R489). -/
def coldState (s0 : State) : State :=
  let s := lcInterrupted s0
  let b := (bmPowerOff s).bm
  { variant := s.variant, pending := s.pending, freeCtr := s.freeCtr, clk := s.clk, raised := [], counted := [], woken := [],
    dict := mapSet dictReset (mapSet dictReset [] kDomainOn 0#32) (entryKey 0x2040 0x0C) 0#32,
    blobs := s.blobs.filter (fun e => e.1 / 256 == 0x1102), saved := s.saved, savedBlobs := s.savedBlobs,
    mem := { flash := s.mem.flash }, bm := b, pins := { ext := s.pins.ext }, hp := { hpd := s.hp.hpd },
    sec := { fuses := s.sec.fuses }, pwr := { strap := s.pwr.strap } }

/-- Cold start, steps 1 to 6 (R435): `keep` the failure counts of PWR_BOOT and the clock and crystal flags. -/
def coldPrepare (s : State) : State :=
  let crystal := fld s (entryKey 0x2040 0x0C) 7 1
  let c := coldState s
  let s1 := setN c kPwrBoot (s.pwr.strap % 8 + maskAnd (regN s kPwrBoot) 0xF0)
  let s2 := setN s1 (entryKey 0x2040 0x0C) (64 + 128 * crystal)
  let s3 := setN s2 kPwrFlags (maskAnd (regN s kPwrFlags) 2 + (if crystal = 0 then 8 else 0))
  let s4 := setFld s3 kDomainOn 0 2 3
  domainsUp s4 [4, 5, 6, 8, 13, 14, 24, 23] true

/-- Warm start, steps 1 to 6 (R435, R443): a walk in progress completes first (R69); the controller keeps its routing. -/
def warmPrepare (s0 : State) : State :=
  let s := match s0.ss.walk with
    | some _ => walkFinish s0
    | none => s0
  let retain := flag s (entryKey 0x2200 7) 0
  let keep := [1, 2, 4, 5, 6] ++ (if retain then [13] else [])
  let off := offOrder.filter (fun d => domainOn s d && !(keep.contains d))
  let s1 := domainsOff s off
  let s2 := { s1 with ic := { heldEdges := s1.ic.heldEdges } }
  let s3 := setPwr (setFld s2 kPwrState 0 2 0) { s2.pwr with
    trans := none, switching := [], resuming := false, training := 0, bootWait := false, safe := false, cycling := false,
    ssKept := retain && domainOn s2 13 }
  let s4 := (List.range 37).foldl (fun t e => setFld t (entryKey 0x2044 e) 3 1 0) { s3 with gfx := { s3.gfx with dark := [] } }
  domainsUp s4 (([8, 13, 14, 24, 23] ++ off.reverse).filter (fun d => !(d == 3) && !(decide (9 ≤ d) && decide (d ≤ 12)))) true

/-- The safe service state (R437). -/
def enterSafe (s : State) (cause : Nat) : State :=
  let s1 := domainsOff s (offOrder.filter (fun d => !([7, 8, 24].contains d)))
  let s2 := domainsUp s1 [8, 7, 24] true
  let s3 := setFld (setFld (setFld s2 kPwrBoot 8 4 cause) kPwrState 2 2 3) kPwrState 0 2 0
  setPwr s3 { s3.pwr with safe := true, training := 0, bootWait := false }

/-- The offset of the SEQ log in the flash: none when word 5 of the boot table is 0 or the table cannot be read (R416). -/
def seqLog (s : State) : Option Nat := if bootTableOk s && !(flashWord s 20 == 0) then some (flashWord s 20) else none

/-- The largest valid record of the SEQ log (R416), 0 for an empty one. -/
def seqLogged (s : State) (at_ : Nat) : Nat :=
  (List.range 1024).foldl (fun m i =>
    let v := flashWord s (at_ + 8 * i)
    if v + flashWord s (at_ + 8 * i + 4) = 0xFFFFFFFF then max m v else m) 0

/-- Step 9 (R418, R416): saved entries came with their domains; the device's own SEQ resumes from the log. -/
def loadSaved (s : State) (warm : Bool) : State :=
  if warm then s
  else
    let s1 := applySaved (applySaved s 1) 2
    setN s1 (entryKey 0x1103 2) (match seqLog s1 with
      | none => 0
      | some log => seqLogged s1 log + 2 ^ 20)

/-- Steps 8 to 11 after slot `slot` verified (R435): the processors' domains are on before their RAM and tables are loaded, so that no reset stands between
the load and the release (R283). -/
def startFinish (s : State) (warm : Bool) (slot : Nat) : State :=
  let base := bootSlot s slot
  let s0 := domainsUp s [7, 9, 10, 11, 12, 3] true
  let s1 := setFld (loadImage s0 base) kPwrBoot 3 1 slot
  let s2 := keepCopy s1 base
  let s3 := loadSaved s2 warm
  let s4 := if s3.pwr.ssKept then s3 else startClear s3
  let s5 := setRaster s4 { s4.raster with idleFrom := s4.tb.ns + 1 }
  let s6 := ((List.range 9).filter (procPresent s5.variant)).foldl releaseCore s5
  let (f, s7) := drawFree (setFld s6 kPwrState 2 2 (if warm then 1 else 0))
  setPwr (setN s7 (entryKey 0x2040 0x0D) (f % 2 ^ 32)) { s7.pwr with bootWait := true, slotA := false }

/-- The slots that a start tries, in order (R433). -/
def slotOrder (s : State) : List Nat := if fld s kPwrBoot 0 3 = 1 then [1, 0] else if fld s kPwrBoot 0 3 = 2 ∨ fld s kPwrBoot 0 3 = 3 then [0] else [0, 1]

/-- Verifies the slots in order: the first that verifies, and the record of the last verification (R435, R450). -/
def trySlots : List Nat → State → State × Option Nat
  | [], s => (s, none)
  | k :: ks, s =>
    let code := appVerify s (bootSlot s k)
    let s1 := perfEvent (setFld s (entryKey 0x2900 4) 0 4 code) 36 0x20 1
    if code = 0 then (s1, some k) else trySlots ks s1

/-- Where a run of the boot sequencer stands. -/
inductive StartPhase where
  | cold | warm | load (warm : Bool) | failed (warm : Bool)
  deriving DecidableEq, Repr

/-- The boot sequencer (R435, R436): a start begins, loads after step 7, or fails and begins again; the third failure of a warm start is a cold start,
that of a cold start the safe service state. -/
def startRun : Nat → StartPhase → State → State
  | 0, _, s => enterSafe s 3
  | n + 1, .cold, s =>
    let s1 := coldPrepare s
    let sel := fld s1 kPwrBoot 0 3
    if sel = 5 then enterSafe s1 1
    else if 6 ≤ sel then enterSafe s1 2
    else if sel = 2 ∨ sel = 3 then enterSafe s1 0
    else if s1.variant = .yl6430 then startRun n (.load false) s1
    else setPwr s1 { s1.pwr with training := 1 }
  | n + 1, .warm, s =>
    let s1 := warmPrepare s
    let sel := fld s1 kPwrBoot 0 3
    if 5 ≤ sel then enterSafe s1 (if sel = 5 then 1 else 2)
    else if (sel = 2 ∨ sel = 3) ∧ s1.pwr.slotA = false then enterSafe s1 0
    else if s1.variant = .yl6430 then startRun n (.load true) s1
    else setPwr s1 { s1.pwr with training := 2 }
  | n + 1, .load w, s =>
    if !(bootTableOk s) then startRun n (.failed w) s
    else
      let s1 := if s.variant = .yl6430 then s else setN s (entryKey 0x1000 8) (bits (flashWord s 16) 0 14)
      match trySlots (slotOrder s1) s1 with
      | (s2, some k) => startFinish s2 w k
      | (s2, none) => startRun n (.failed w) s2
  | n + 1, .failed w, s =>
    let s1 := setPwr s { s.pwr with bootWait := false }
    if w then
      if 2 ≤ fld s1 kPwrBoot 4 2 then startRun n .cold (setFld s1 kPwrBoot 4 2 0)
      else startRun n .warm (setFld s1 kPwrBoot 4 2 (fld s1 kPwrBoot 4 2 + 1))
    else if 2 ≤ fld s1 kPwrBoot 6 2 then enterSafe (setFld s1 kPwrBoot 6 2 3) 3
    else startRun n .cold (setFld s1 kPwrBoot 6 2 (fld s1 kPwrBoot 6 2 + 1))

def coldStart (s : State) : State := startRun 16 .cold s
def warmStart (s : State) : State := startRun 16 .warm s

/-- A failed start of the kind that began last (R436). -/
def startFails (s : State) : State := startRun 16 (.failed (fld s kPwrState 2 2 == 1)) s

/-- PWR_CYCLE is driven so that the PMIC removes the supplies (R439). -/
def powerCycle (s : State) : State := setPwr s { s.pwr with cycling := true }

/-- PWR_BOOT_OK (R436). -/
def bootOk (s : State) : State := setPwr (setFld s kPwrBoot 4 4 0) { s.pwr with bootWait := false }

/-- The boot timeout (R436). -/
def bootTimeout (s : State) : State := if s.pwr.bootWait then startFails s else s

/-- Training or reload ends (R39, R435): `reloadOk` for retained values, `ok` for a full training where one runs. -/
def trainDone (s : State) (reloadOk ok : Bool) (micros : Nat) : State :=
  if s.pwr.training = 0 ∨ !(engineOn s 18) then s
  else
    let cold := s.pwr.training == 1
    let reload := !cold && s.pwr.trained
    let s1 := if reload && !reloadOk then setFlag s (entryKey 0x2482 2) 1 else s
    let full := !reload || !reloadOk
    let good := !full || ok
    let s2 := setN (setN s1 (entryKey 0x2482 1) (if good then (if full then 1 else 5) else 0)) (entryKey 0x2482 3) micros
    let s3 := if good then s2 else setFlag s2 (entryKey 0x2482 2) 0
    let phase := s3.pwr.training
    let s4 := setPwr s3 { s3.pwr with training := 0, trained := if full then good else true }
    if phase = 3 then s4
    else if good then startRun 16 (.load (phase == 2)) s4
    else startRun 16 (.failed (phase == 2)) s4

/-- Loss of supplies (R489): everything but the nonvolatile part is lost, retention too. -/
def supplyLoss (s : State) : State := let c := coldState s; setPwr c { c.pwr with supply := false }

/-- The supplies return and RESET_N is released: a cold start that samples the straps (R489). -/
def resetRelease (s : State) (sel : Nat) : State :=
  if s.pwr.supply then s else coldStart (setPwr s { s.pwr with supply := true, strap := sel % 8 })

/-- Step 12: once the partition has left BOOTING, its seal generation is kept (R435, R227). -/
def sealKeep (s : State) : State := if s.bm.state = bmBooting then s else setPwr s { s.pwr with sealKept := some s.bm.ctl.sealGen }

/-! ### Domain requests (R425) -/

/-- The domains that the engines of a domain require on (R44): the signal store is domain 13, VSRAM 14, the composer 18. -/
def requires (d : Nat) : List Nat :=
  if d = 7 ∨ d = 13 ∨ d = 21 ∨ d = 23 then [8]
  else if d = 15 ∨ d = 16 then [13, 14]
  else if d = 17 then [13, 14, 18]
  else if d = 18 then [8, 13, 14]
  else if d = 19 ∨ d = 20 then [18]
  else []

/-- Whether R44 forbids the switch as the domains stand. -/
def switchBroken (s : State) (d : Nat) (on : Bool) : Bool :=
  if on then (requires d).any (fun r => !(domainOn s r))
  else ((List.range 25).drop 1).any (fun x => domainOn s x && (requires x).contains d)

/-- Whether R44 forbids the switch, switches that were accepted and are not complete taken into account. -/
def dependencyBroken (s : State) (d : Nat) (on : Bool) : Bool :=
  switchBroken s d on || s.pwr.switching.any (fun q => if on then !q.2 && (requires d).contains q.1 else q.2 && (requires q.1).contains d)

/-- An engine of the domain is at step 2 of its ladder. -/
def domainReinit (s : State) (d : Nat) : Bool := (List.range 37).any (fun e => engineOffline s e && engineDomain e == d)

/-- Row 5 of R425: the unit refuses to be switched off. -/
def offRefused (s : State) (d : Nat) : Bool :=
  ((d == 4 || d == 5 || d == 6) && !(bmPowerOk s)) || (d == 22 && (dmaBusy s || bltRuns s)) || domainReinit s d

/-- A recovery step is in progress: an engine at step 2, or a start before its release. -/
def recovering (s : State) : Bool := !(s.pwr.training == 0 || s.pwr.training == 3) || (List.range 37).any (engineOffline s)

/-- PWR_STATE.RESULT. -/
def setResult (s : State) (r : Nat) : State := setFld s kPwrState 4 4 r

/-- Sets PWR_FLAGS.REFUSED. -/
def pwrRefused (s : State) : State := setFlag s kPwrFlags 0

/-- The status of a domain request (R425). -/
def domainStatus (s : State) (d : Nat) (on : Bool) : Nat :=
  if d ≤ 2 ∨ (d = 3 ∧ on = false) then 2
  else if s.pwr.trans.isSome || s.pwr.resuming || recovering s then 3
  else if domainAbsent s.variant d then 1
  else if dependencyBroken s d on then 6
  else if !on && offRefused s d then 3
  else 0

/-- PWR_DOMAIN_REQ (R425): the switch is begun, and ends at DOMAIN_SWITCHED; a local write records the result. -/
def domainReq (s : State) (d : Nat) (on cop : Bool) : State × Nat :=
  let st := domainStatus s d on
  let s1 := if cop then s else setResult s st
  let s2 := if st = 0 then setPwr s1 { s1.pwr with switching := s1.pwr.switching ++ [(d, on)] } else pwrRefused s1
  (s2, st)

/-! ### Power state transitions (R426, R427) -/

/-- Domains that a target state keeps (R426). -/
def keptBy (target : Nat) (wardenOff : Bool) : List Nat :=
  if target = 1 then [1, 2, 7, 8, 24] ++ (if wardenOff then [] else [3]) ++ [4, 5, 6] else [1, 2]

/-- The switches of a transition, in order (R427, R428): a resume leaves domains 4 to 6 off when they are off and BM_AUTO is 0. -/
def transPlan (s : State) (target : Nat) (wardenOff : Bool) : List (Nat × Bool) :=
  if target = 0 then
    if pwrState s = 0 then []
    else (offOrder.reverse.filter (fun d => !(domainOn s d) && !(domainAbsent s.variant d) &&
      (!(decide (4 ≤ d) && decide (d ≤ 6)) || flag s kPwrCtrl 3))).map (fun d => (d, true))
  else (offOrder.filter (fun d => domainOn s d && !((keptBy target wardenOff).contains d))).map (fun d => (d, false))

/-- A request for Calm is refused before any domain changes (R427). -/
def calmRefused (s : State) : Bool := (domainOn s 4 && !(bmPowerOk s)) || (domainOn s 22 && (dmaBusy s || bltRuns s))

/-- PWR_STATE_REQ (R427). -/
def stateReq (s : State) (target : Nat) (wardenOff : Bool) : State × Nat :=
  if s.pwr.trans.isSome || s.pwr.resuming || recovering s then (pwrRefused s, 3)
  else if target = 2 ∧ calmRefused s then (icAssert (pwrRefused (setResult s 3)) 16, 3)
  else (setPwr s { s.pwr with trans := some ⟨target, pwrState s, transPlan s target wardenOff, [], false⟩ }, 0)

/-- Step 2 incidents that waited for a transition or a self-test begin (R440, R470). -/
def waitingSteps (s : State) : State :=
  let es := (s.pwr.ladders.filter (fun e => e.2.waiting)).map Prod.fst
  es.foldl (fun t e =>
    let l := mapGet (fun _ => {}) t.pwr.ladders e
    let t1 := setPwr t { t.pwr with ladders := mapSet (fun _ => {}) t.pwr.ladders e { l with waiting := false } }
    if engineOn t1 e then reinitEngine t1 e else t1) s

/-- A transition ends with a result, in a state; source 16 asserts (R427). -/
def transEnd (s : State) (st result : Nat) : State :=
  waitingSteps (icAssert (setResult (setFld (setPwr s { s.pwr with trans := none, resuming := false }) kPwrState 0 2 st) result) 16)

/-! ### Wake (R431) -/

/-- Whether a cause can be recorded in the present state (R431, and R397 for the network). -/
def wakeAllowed (s : State) (b : Nat) : Bool :=
  if b = 3 then pwrState s == 1 else if b = 4 then decide (pwrState s ≤ 1) else decide (b ≤ 5)

/-- Calm to Breeze: domains 8, 7 and 3 come on; the controller is restored before the Warden leaves reset (R322, R432). -/
def wakeCalm (s : State) : State := setFld (domainsUp s [8, 7, 3] true) kPwrState 0 2 1

/-- A recorded cause acts (R427, R431). -/
def wakeActs (s : State) : State :=
  match s.pwr.trans with
  | some t =>
    if t.target = 0 ∨ t.abort then s
    else if domainOn s 8 then setPwr s { s.pwr with trans := some { t with todo := t.made.map (fun d => (d, true)), abort := true } }
    else setPwr s { s.pwr with trans := some { t with abort := true } }
  | none =>
    if pwrState s = 2 then wakeCalm s
    else if pwrState s = 1 ∧ !(domainOn s 3) then domainUp s 3 false
    else s

/-- A wake cause falls: recorded only while it is enabled (R431). A running Warden's source 3 asserts; with the controller off, in Calm, the always-on
domain holds the edge of the WAKE pin (R322). -/
def wakeCause (s : State) (b : Nat) : State :=
  if !(flag s (entryKey 0x2040 6) b) || !(wakeAllowed s b) || !s.pwr.supply || s.pwr.refStopped then s
  else
    let s1 := perfEvent (setFld s (entryKey 0x2040 7) b 1 1) 1 0x22 1
    let s2 := if domainOn s1 3 && !((coreOf s1 8).run == 0) then icAssert s1 3
      else if b = 0 ∧ !(domainOn s1 8) then { s1 with ic := { s1.ic with heldEdges := s1.ic.heldEdges ++ [3] } }
      else s1
    wakeActs s2

/-- The end of a transition whose switches are made. -/
def transDone (s : State) (t : Transition) : State :=
  if t.target = 0 then
    if t.from_ = 0 then transEnd s 0 0 else setPwr s { s.pwr with trans := none, resuming := true }
  else if t.abort && domainOn s 8 then transEnd s t.from_ 13
  else
    let s1 := transEnd s t.target 0
    if t.abort then wakeCalm s1 else s1

/-- One switch of the transition (R427); a refusal of row 5 stops it. -/
def transStep (s : State) : State :=
  match s.pwr.trans with
  | none => s
  | some t => match t.todo with
    | [] => transDone s t
    | (d, on) :: rest =>
      let s0 := setPwr s { s.pwr with trans := some { t with todo := rest, made := if on then t.made else d :: t.made } }
      if on then domainUp s0 d (t.target == 0)
      else if offRefused s d then
        pwrRefused (transEnd s (if (List.range 24).all (fun i => decide (i < 9) || !(domainOn s i)) then 1 else 0) 3)
      else domainOff s0 d

/-- Takes the remaining steps of a transition. -/
def transRun : Nat → State → State
  | 0, s => s
  | n + 1, s => if s.pwr.trans.isSome then transRun n (transStep s) else s

/-- STATE_DONE: the transition in progress ends; a resume goes on to its copy. -/
def stateDone (s : State) : State := transRun 64 s

/-- A domain finishes switching (R424): the next of a transition, or the oldest accepted request for it. -/
def domainSwitched (s : State) (d : Nat) : State :=
  match s.pwr.trans with
  | some t => match t.todo with
    | (x, _) :: _ => if x = d then transStep s else s
    | [] => s
  | none =>
    match s.pwr.switching.find? (fun r => r.1 == d) with
    | none => s
    | some (x, on) =>
      let s1 := setPwr s { s.pwr with switching := s.pwr.switching.erase (x, on) }
      if switchBroken s1 d on then s1
      else if on then domainUp s1 d false
      else if offRefused s1 d then s1 else domainOff s1 d

/-- The resume copy is reloaded and compared (R428): the cores are released, or a warm start follows. Where no start has stored a copy there is nothing to
reload (DESIGN CHOICE, log 41). -/
def resumeDone (s : State) : State :=
  if !s.pwr.resuming || !(s.pwr.training == 0) then s
  else
    let b := if s.variant = .yl6430 then flashBytes s s.pwr.copyAt s.pwr.copyLen else readBytes extSize s.mem.ext s.pwr.copyAt s.pwr.copyLen
    if s.pwr.copyLen = 0 ∨ sha256 b = s.pwr.copyDigest then
      let s1 := if s.variant = .yl6430 then loadCores s else if s.pwr.copyLen = 0 then s else loadRams s b
      let s2 := ((List.range 8).filter (fun c => procPresent s1.variant c && domainOn s1 (9 + c / 2))).foldl
        releaseCore s1
      transEnd (setFld s2 kPwrState 2 2 2) 0 0
    else warmStart s
where
  /-- The application cores' sections of the boot slot. -/
  loadCores (s : State) : State :=
    (((List.range (flashWord s (s.pwr.copyAt + 8) % 256)).map (imgSection s s.pwr.copyAt)).filter
      (fun c => decide (2 ≤ c.target) && decide (c.target < 18))).foldl (loadSection s.pwr.copyAt) s

/-! ### Clocks (R429, R430) -/

/-- The reference stops for more than 4 µs (R430): every domain but 1, 2 and 4 to 6 is held in reset, as if off (DESIGN CHOICE, log 16). -/
def clkFail (s : State) : State :=
  if s.pwr.refStopped || !s.pwr.supply then s
  else
    let s1 := setFlag s kPwrFlags 1
    let s2 := clockFallback (domainsOff s1 (offOrder.filter (fun d => !(decide (4 ≤ d) && decide (d ≤ 6)))))
    let s3 := setFld (setPwr s2 { s2.pwr with refStopped := true, trans := none, switching := [], resuming := false, training := 0, bootWait := false })
      (entryKey 0x2040 0x0C) 6 1 0
    if flag s3 kPwrCtrl 1 then powerCycle s3 else s3

/-- The reference has run again for 2 ms: a cold start (R430). -/
def refRestored (s : State) : State :=
  if s.pwr.refStopped && !s.pwr.cycling then coldStart (setPwr s { s.pwr with refStopped := false }) else s

/-- The crystal is valid (R429). -/
def crystalValid (s : State) : State := if s.pwr.supply then setFld (setFld s (entryKey 0x2040 0x0C) 7 1 1) kPwrFlags 3 1 0 else s

/-! ### The recovery ladder (R439, R440) -/

def ladderOf (s : State) (e : Nat) : Ladder := mapGet (fun _ => {}) s.pwr.ladders e
def setLadder (s : State) (e : Nat) (l : Ladder) : State := setPwr s { s.pwr with ladders := mapSet (fun _ => {}) s.pwr.ladders e l }

/-- What kind of incident it is: an assertion of a source, a lockup, a command's step, the Warden watchdog. -/
inductive Incident where
  | source (src : Nat) | lockup | cmd (step : Nat) | watchdog
  deriving DecidableEq, Repr

/-- Fields of REC_POLICY. -/
def recAuto (s : State) (e : Nat) : Bool := flag s (entryKey 0x2041 e) 0
def recMax (s : State) (e : Nat) : Nat := fld s (entryKey 0x2041 e) 1 2 + 1
def recThresh (s : State) (e : Nat) : Nat := fld s (entryKey 0x2041 e) 4 4
def recWindow (s : State) (e : Nat) : Nat := fld s (entryKey 0x2041 e) 8 16 * 1000000

/-- WINDOW ms pass without an incident: the ladder returns to 0 (R440). -/
def ladderExpire (s : State) (e : Nat) : State :=
  setLadder (setFld (setFld s (entryKey 0x2044 e) 0 3 0) (entryKey 0x2044 e) 8 8 0) e { ladderOf s e with times := [], last := none }

/-- The flag bits behind a source: entries and masks. -/
def sourceFlags (src : Nat) : List (Nat × Nat) :=
  if src = 256 then [(entryKey 0x2400 0x0E, 0xFFFFFFFF), (entryKey 0x2400 0x0F, 0xFFFFFFFF)]
  else if 48 ≤ src ∧ src < 56 then (List.range 4).map (fun i => (timerKey (4 * (src - 48) + i) 0x0B, 0x1F))
  else if src = 56 then (List.range 8).map (fun i => (timerKey (32 + i) 0x0B, 0x1F))
  else match srcFlag src with
    | some f => [f]
    | none => []

/-- Clears the flag bits behind a source. -/
def clearSource (s : State) (src : Nat) : State := (sourceFlags src).foldl (fun t f => clearFlags t f.1 f.2) s

/-- The sources of engine e that REC_TRIGGER selects. -/
def triggered (s : State) (e : Nat) : List Nat := (setBits 16 (regN s (entryKey 0x2042 e))).map (fun b => 16 * e + b)

/-- The step that an incident takes, with the ladder at `st` (R440). -/
def incidentStep (st : Nat) : Incident → Nat
  | .cmd n => n
  | .lockup => max st 2
  | _ => max st 1

/-- The record of a step taken: REC_COUNT, REC_STATE with the rise of an automatic ladder, source 18, the health bits (R440, R471). -/
def ladderRecord (s : State) (e step : Nat) : State :=
  let st := fld s (entryKey 0x2044 e) 0 3
  let l := ladderOf s e
  let now := s.tb.ns
  let times := (if st = step then l.times.filter (fun t => decide (now < t + recWindow s e)) else []) ++ [now]
  let rises := recAuto s e && decide (recThresh s e ≤ times.length) && decide (step < recMax s e)
  let (st', times') := if rises then (step + 1, []) else (step, times)
  let s1 := setLadder s e { l with last := some now, times := times' }
  let s2 := setFld (setFld s1 (entryKey 0x2044 e) 0 3 st') (entryKey 0x2044 e) 8 8 (min 255 times'.length)
  let k := entryKey 0x2043 e
  let s3 := setFld s2 k (8 * (step - 1)) 8 (min 255 (fld s2 k (8 * (step - 1)) 8 + 1))
  let s4 := perfEvent { s3 with health := { s3.health with ladderNow := s3.health.ladderNow ||| 2 ^ e } } 1 0x21 1
  icAssert s4 18

/-- Whether a self-test keeps engine e offline (R469). -/
def testKeeps (s : State) (e : Nat) : Bool := match s.health.test with
  | none => false
  | some t => t.forced && ((match t.target with
    | 0 => [8]
    | 1 => [9, 10, 12] ++ (List.range 8).map (· + 20)
    | 2 => [11, 12]
    | 3 => [9, 12]
    | _ => []).contains e)

/-- An incident of engine e: its step recorded and, for steps 1 and 2, taken; the answer names the device-wide step to take, 3 or 4, if any. -/
def incident (s0 : State) (e : Nat) (i : Incident) : State × Nat :=
  let s := match (ladderOf s0 e).last with
    | some t => if t + recWindow s0 e ≤ s0.tb.ns then ladderExpire s0 e else s0
    | none => s0
  let want := incidentStep (fld s (entryKey 0x2044 e) 0 3) i
  let capped := want == 4 && !(flag s kPwrCtrl 1)
  let step := if capped then 3 else want
  let s1 := ladderRecord s e step
  let s2 := if capped then setFlag s1 kPwrFlags 4 else s1
  if step = 1 then
    (match i with
      | .source src => clearSource s2 src
      | _ => (triggered s2 e).foldl clearSource s2, 0)
  else if step = 2 then
    if s2.pwr.trans.isSome || testKeeps s2 e then (setLadder s2 e { ladderOf s2 e with waiting := true }, 0)
    else (if engineOn s2 e && !(engineOffline s2 e) then reinitEngine s2 e else s2, 0)
  else (s2, step)

/-- A self-test that runs is abandoned by a device-wide step (R470). -/
def testStops (s : State) : State := match s.health.test with
  | none => s
  | some _ => setNet { s with health := { s.health with test := none } } { s.net with lop := none }

/-- The device-wide step of a command's incidents: one warm start or one power cycle (R440). A self-test stops with OUTCOME ABANDONED, which the
entries show after the start (DESIGN CHOICE, log 31). -/
def deviceStep (s : State) (step : Nat) : State :=
  let t := testStops s
  let after (u : State) : State := if s.health.test.isSome && domainOn u 8 then
      setFld (setFld u (entryKey 0x2444 2) 0 2 2) (entryKey 0x2444 2) 6 2 3
    else u
  if step = 4 then powerCycle t else if step = 3 then after (warmStart t) else s

end Sys2Proof.Machine
end

