-- ==== Sys2Proof/Machine/Message.lean ====
section
/-! DEFINITION. The messages that the device sends (16): their form and tag, its own sequence number with the log in flash, replies over each path,
and the counting of message errors. -/
namespace Sys2Proof.Machine

def kNetFlags : Nat := entryKey 0x21C2 2
def kCopSeq : Nat := entryKey 0x1103 2

/-- A counter of the network engine (R422), while the engine is on. -/
def netCount (s : State) (sub : Nat) : State := if engineOn s 7 then bump s (entryKey 0x21C2 sub) else s

/-- A flag of NET_FLAGS, while the engine is on. -/
def netFlag (s : State) (b : Nat) : State := if engineOn s 7 then setFlag s kNetFlags b else s

/-- A message error (R402). -/
def msgError (s : State) : State := netFlag (netCount s 0x0B) 4

/-- COP_DEVICE_ID (R422). -/
def deviceId (s : State) : Nat := fld s (entryKey 0x1100 1) 0 12

/-- A fuse field whose bits are all 1 is erased (R446). -/
def devKeyErased (s : State) : Bool := s.sec.fuses.devKey.all (· == 0xFF#8)

/-- The key of a slot; none when it was never written, or once DEV_KEY is erased (R415, R446). -/
def copKey (s : State) (slot : Nat) : Option (List Byte) :=
  let b := blobGet s (entryKey 0x1102 slot)
  if b.isEmpty || devKeyErased s then none else some b

/-- The first 16 bytes of HMAC-SHA-256 over a header and body (R415). -/
def copTag (key m : List Byte) : List Byte := (hmacSha256 key m).take 16

/-- The key slot whose tag a message carries: a reply the request's, under SIGN_REPLIES; every other message COP_TX_KEY (R415). -/
def tagSlot (s : State) (m : OutMsg) : Option Nat :=
  if m.reply then (if flag s (entryKey 0x1100 8) 2 then m.key else none)
  else some (fld s (entryKey 0x1100 9) 0 4)

/-- A message with its header of R404, its body and, with a key that was written, its tag. -/
def copBytes (s : State) (m : OutMsg) : List Byte :=
  let slot := tagSlot s m
  let key := slot.bind (copKey s)
  let b0 := 1 + (if key.isSome then 16 else 0) + (if m.reply then 64 else 0)
  let head := toBytes 1 b0 ++ toBytes 1 m.typ ++ toBytes 2 (m.dest % 4096 + m.mode % 4 * 4096) ++
    toBytes 2 (deviceId s + (slot.getD 0) % 16 * 4096) ++ toBytes 2 m.tag ++ toBytes 4 m.seq
  match key with
  | some k => head ++ m.body ++ copTag k (head ++ m.body)
  | none => head ++ m.body

/-! ### The device's own sequence number (R416) -/

/-- A flash programming long operation runs. -/
def flashBusy (s : State) : Bool := match s.net.lop with
  | some l => l.op == 6
  | none => false

/-- A record of the SEQ log is valid. -/
def seqRecordOk (s : State) (a : Nat) : Bool := flashWord s a + flashWord s (a + 4) == 0xFFFFFFFF

/-- The record of the log that holds the largest value, if any. -/
def seqNewest (s : State) (base : Nat) : Option Nat :=
  (List.range 1024).foldl (fun best i =>
    let a := base + 8 * i
    if seqRecordOk s a then match best with
      | some b => if flashWord s (base + 8 * b) ≤ flashWord s a then some i else best
      | none => some i
    else best) none

/-- Erases a 4 KiB sector: its bytes read as bytes that nothing has written. -/
def eraseSector (s : State) (a : Nat) : State :=
  { s with mem := { s.mem with flash := mapDrop (fun k => decide (a ≤ k) && decide (k < a + 4096)) s.mem.flash } }

/-- Appends a value to the log: after the newest record, or in the other sector, erased, when the newest's sector is full. -/
def seqAppend (s : State) (base v : Nat) : State :=
  let put (t : State) (i : Nat) : State := flashWrite t (base + 8 * i) (toBytes 4 v ++ toBytes 4 (0xFFFFFFFF - v))
  match seqNewest s base with
  | none => put (eraseSector s base) 0
  | some i => if i % 512 = 511 then (let j := (i / 512 + 1) % 2 * 512; put (eraseSector s (base + 8 * j)) j) else put s (i + 1)

/-- The next message waits: its SEQ must first be logged, and a flash programming long operation runs. -/
def seqWaits (s : State) : Bool := regN s kCopSeq % 2 ^ 20 == 0 && (seqLog s).isSome && flashBusy s

/-- Takes the SEQ of the message to send: logged when it is a multiple of 2^20, then incremented. -/
def takeSeq (s : State) : Nat × State :=
  let v := regN s kCopSeq
  let s1 := match seqLog s with
    | some base => if v % 2 ^ 20 = 0 then seqAppend s base v else s
    | none => s
  (v, setN s1 kCopSeq (v + 1))

/-! ### Sending (R402, R403, R405, R417) -/

/-- HOST_IRQ is low while the SPI host has a message to fetch (R403). -/
def hostIrqLow (s : State) : Bool := !s.net.spiOut.isEmpty

/-- Counts a message that left (R422, R465). -/
def countSent (s : State) : State := perfEvent (netCount s 8) 7 0x21 1

/-- Ends a local request: its state is done, and source 113 asserts if it asked for NOTIFY (R417). -/
def reqDone (s : State) (p tag status : Nat) : State :=
  let rec go : List LocalReq → List LocalReq × Bool
    | [] => ([], false)
    | r :: rs => if r.proc == p && r.tag == tag && !(r.state == 3) then ({ r with state := 3, status := status } :: rs, r.notify)
      else let (l, n) := go rs; (r :: l, n)
  let (l, n) := go s.net.reqs
  let s1 := setNet s { s.net with reqs := l }
  if n then icAssert s1 113 else s1

/-- The oldest unfinished local request of a processor with a tag. -/
def openReq (s : State) (p tag : Nat) : Option LocalReq := s.net.reqs.find? (fun r => r.proc == p && r.tag == tag && !(r.state == 3))

/-- Writes a reply to the request's buffer; a reply longer than CAP is its header alone, with status TOO_LONG (R417, DEDUCED, log 30). -/
def localReply (s : State) (p : Nat) (m : OutMsg) (b : List Byte) : State :=
  match openReq s p m.tag with
  | none => s
  | some r =>
    let (out, st) := if r.cap < b.length then (b.take 12, 10) else (b, m.status)
    let s1 := sramWrite s (r.addr + 8) out
    reqDone (sramWrite s1 r.addr (toBytes 2 out.length)) p m.tag st

/-- Sends a message now. A message over the SPI host is held for it, at most 8 (R403). -/
def sendNow (s : State) (m : OutMsg) : State :=
  match m.path with
  | .spi =>
    if 8 ≤ s.net.spiOut.length then msgError s
    else
      let (q, s1) := takeSeq s
      countSent (setNet s1 { s1.net with spiOut := s1.net.spiOut ++ [copBytes s { m with seq := q }] })
  | .port _ =>
    if !(engineOn s 7) then s
    else
      let (q, s1) := takeSeq s
      countSent (setNet s1 { s1.net with lastSent := some { m with seq := q } })
  | .proc p =>
    let (q, s1) := takeSeq s
    countSent (localReply s1 p.val m (copBytes s { m with seq := q }))

/-- Owes a message: it waits in order until COP_REPLY_SEND sends it. -/
def oweMsg (s : State) (m : OutMsg) : State := setNet s { s.net with replies := s.net.replies ++ [m] }

/-- Sends an EVENT, PROGRESS or poll, unless it must wait for the SEQ log. -/
def sendMsg (s : State) (m : OutMsg) : State := if seqWaits s then oweMsg s m else sendNow s m

/-- Whether a request is a local one, which is always answered (R417). -/
def isLocal : CopPath → Bool
  | .proc _ => true
  | _ => false

/-- Owes the reply to a message, when one is asked for or the message is a local request (R404). -/
def reply (s : State) (h : CopHdr) (typ status : Nat) (body : List Byte) : State :=
  if h.replyReq || isLocal h.path then oweMsg s ⟨h.path, 0, h.src, typ, true, h.tag, h.key, 0, status, body⟩ else s

/-- The reply that gives a status alone: STATUS, FAIL_SUB and two reserved bytes (R408). -/
def replyStatus (s : State) (h : CopHdr) (typ status failSub : Nat) : State :=
  reply s h typ status (toBytes 1 status ++ toBytes 1 failSub ++ toBytes 2 0)

/-- The oldest owed message is sent (R405). A WRITE reply waits while a synchronised mask write waits for its acceptance (R320). -/
def replySend (s : State) : State :=
  match s.net.replies with
  | [] => s
  | m :: rest =>
    if seqWaits s || (m.reply && m.typ == 2 && !s.ic.waiting.isEmpty) then s
    else sendNow (setNet s { s.net with replies := rest }) m

end Sys2Proof.Machine
end

