-- ==== Sys2Proof/Machine/Health.lean ====
section
/-! DEFINITION. Long operations (16), performance counters and their dumps, the memory self-test and the health entries (19). -/
namespace Sys2Proof.Machine

/-! ### Long operations (R413) -/

def kLop (sub : Nat) : Nat := entryKey 0x1210 sub

/-- A long operation starts: LOP_OP, a percentage as its unit, running. -/
def lopStart (s : State) (op : Nat) (who : Option CopHdr) (addr : Nat) (data : List Byte) : State :=
  let s1 := setNet s { s.net with lop := some ⟨op, 1, who, addr, data⟩ }
  setN (setN (setN (setN (setN s1 (kLop 1) op) (kLop 2) 1) (kLop 3) 0) (kLop 4) 1) (kLop 5) 0

/-- The body of a PROGRESS message. -/
def progressBody (s : State) : List Byte :=
  toBytes 1 (regN s (kLop 1)) ++ toBytes 1 (regN s (kLop 2)) ++ toBytes 1 (regN s (kLop 4)) ++ toBytes 1 (regN s (kLop 5)) ++
    toBytes 4 (regN s (kLop 3))

/-- Sends PROGRESS to the sender that asked for it; a local request has no path for one. -/
def progressTo (s : State) (who : Option CopHdr) : State :=
  match who with
  | none => s
  | some h => if isLocal h.path then s else sendMsg s ⟨h.path, 0, h.src, 8, false, h.tag, none, 0, 0, progressBody s⟩

/-- Every 250 ms of a long operation: its progress is published and sent. -/
def lopProgress (s : State) (value : Nat) : State :=
  match s.net.lop with
  | none => s
  | some l => progressTo (setN s (kLop 3) value) l.progress

/-- A long operation ends, done or failed, with a status; PROGRESS once more. -/
def lopEnd (s : State) (ok : Bool) (status : Nat) : State :=
  match s.net.lop with
  | none => s
  | some l =>
    let s1 := setNet s { s.net with lop := none }
    let s2 := setN (setN s1 (kLop 4) (if ok then 2 else 3)) (kLop 5) status
    progressTo (if ok then setN s2 (kLop 3) 100 else s2) l.progress

/-! ### Performance counters (R461 to R463) -/

def kPerfFlags : Nat := entryKey 0x2440 9
def perfSelKey (i : Nat) : Nat := entryKey 0x2441 i
def perfCountKey (i : Nat) : Nat := entryKey 0x2442 i

/-- Adds to counter i; a wrap sets its overflow bit and flag (R463, R473). -/
def perfAdd (s : State) (i n : Nat) : State :=
  let v := regN s (perfCountKey i) + n
  let s1 := setN s (perfCountKey i) v
  if v < 2 ^ 32 then s1 else setFlag (setFld s1 (entryKey 0x2443 (i / 32)) (i % 32) 1 1) kPerfFlags 0

/-- Occurrences of an event of engine e within one command: level counting adds them, edge counting one (R463). -/
def perfCount (s : State) (e code n : Nat) : State :=
  if !(domainOn s 8) || !(enginePresent s.variant e) || n == 0 then s
  else (List.range 4).foldl (fun t k =>
    let sel := regN t (perfSelKey (4 * e + k))
    if bits sel 0 8 = code then perfAdd t (4 * e + k) (if bitAt sel 8 then 1 else n) else t) s

/-- CLEAR_ALL: every counter and overflow bit to 0 in one clock (R472). -/
def perfClear (s : State) : State := { s with dict := mapDrop (fun k => k / 256 == 0x2442 || k / 256 == 0x2443) s.dict }

/-! ### Dumps (R466 to R468) -/

/-- The record of a capture with its capture number and MANUAL (R467). -/
def perfRecord (s : State) (seq : Nat) (manual : Bool) : List Byte :=
  let status := (if manual then 1 else 0) + (if s.tb.sync then 2 else 0) + (if s.health.dropped then 4 else 0)
  toBytes 4 seq ++ toBytes 4 status ++ toBytes 8 s.tb.ns ++ toBytes 4 (s.raster.lastFrame.getD 0) ++
    (List.range 5).flatMap (fun w => toBytes 4 (regN s (entryKey 0x2443 w))) ++ toBytes 8 0 ++
    (List.range 148).flatMap (fun i => toBytes 4 (regN s (perfCountKey i)))

/-- Whether a capture finds no room: the ring is full, or the last record's writes are incomplete (R468). -/
def captureDropped (s : State) : Bool :=
  s.health.record.isSome ||
    (!(flag s (entryKey 0x2440 1) 1) && (regN s (entryKey 0x2440 6) + 1) % regN s (entryKey 0x2440 5) == regN s (entryKey 0x2440 7))

/-- A capture (R466). -/
def perfCapture (s : State) (manual : Bool) : State :=
  if !(engineOn s 17) || engineOffline s 17 then s
  else
    let s1 := bump s (entryKey 0x2440 0x0A)
    if captureDropped s then
      let s2 := setFlag (bump s1 (entryKey 0x2440 0x0B)) kPerfFlags 1
      perfEvent { s2 with health := { s2.health with dropped := true } } 17 0x21 1
    else { s1 with health := { s1.health with record := some (perfRecord s (regN s1 (entryKey 0x2440 0x0A)) manual), dropped := false } }

/-- A capture instant of the period (R466). -/
def perfPeriod (s : State) : State := if flag s (entryKey 0x2440 1) 0 then perfCapture s false else s

/-- The address of the record at PERF_RING_WR (R468). -/
def perfAddr (s : State) : Nat :=
  regN s (entryKey 0x2440 3) + 2 ^ 32 * fld s (entryKey 0x2440 4) 0 8 + 640 * regN s (entryKey 0x2440 6)

/-- The first 64-byte request of a record that an address map refuses: the ring lies in shared SRAM or external memory (R468, R327). -/
def perfRefused (s : State) (a : Nat) : Option Nat :=
  ((List.range 10).map (fun i => a + 64 * i)).find? (fun x => match busTarget s x 64 with
    | some (t, _) => t == 2
    | none => true)

/-- The writes of the record end (R468, R473): an error response abandons it, else WR advances and every IRQ_N-th record asserts source 273. -/
def perfRecordDone (s : State) : State :=
  match s.health.record with
  | none => s
  | some b =>
    let s1 := { s with health := { s.health with record := none } }
    let a := perfAddr s
    match perfRefused s a with
    | some x => setFlag (setPair (busAddrError s1 x) (entryKey 0x2440 0x0C) (entryKey 0x2440 0x0D) (x % 2 ^ 40)) kPerfFlags 2
    | none =>
      let s2 := mcGranules (requestsPass ((busWrite s1 a b).getD s1) reqPerf (granules a 640)) true a 10
      let s3 := perfEvent (setN s2 (entryKey 0x2440 6) ((regN s (entryKey 0x2440 6) + 1) % regN s (entryKey 0x2440 5))) 17 0x20 1
      let n := s.health.written + 1
      let irq := fld s (entryKey 0x2440 1) 8 8
      if irq ≠ 0 ∧ irq ≤ n then icAssert { s3 with health := { s3.health with written := 0 } } 273
      else { s3 with health := { s3.health with written := n } }

/-- A write to PERF_CMD: the clear, then the extra capture at the next time-base clock (R466, R472). -/
def perfCmd (s : State) (v : Nat) : State :=
  let s1 := if bitAt v 1 then perfClear s else s
  if bitAt v 0 then perfCapture s1 true else s1

/-! ### The memory self-test (R469, R470) -/

def kStStatus : Nat := entryKey 0x2444 2

/-- Engines that a forced test takes offline. -/
def stOffline (target : Nat) : List Nat :=
  match target with
  | 0 => [8]
  | 1 => [9, 10, 12] ++ (List.range 8).map (· + 20)
  | 2 => [11, 12]
  | 3 => [9, 12]
  | _ => []

/-- The domains of a target and of its users. -/
def stDomains (s : State) (target : Nat) : List Nat :=
  (if target = 1 then [14] else if target = 4 then [23] else []) ++ ((stOffline target).filter (enginePresent s.variant)).map engineDomain

/-- Whether the target is active (R469). -/
def stActive (s : State) (target : Nat) : Bool :=
  match target with
  | 0 => engineOn s 11 || flag s (entryKey 0x2200 1) 1
  | 1 => flag s (entryKey 0x2241 1) 0 || flag s (entryKey 0x2281 1) 0 ||
      (List.range 8).any (fun n => enginePresent s.variant (20 + n) && flag s (planeKey n 1 1) 0) || !s.ver.runs.isEmpty
  | 2 => engineOn s 11
  | 3 => flag s (entryKey 0x2241 1) 0
  | _ => false

/-- The external range of ST_RANGE, its start and length in bytes. -/
def stRange (s : State) : Nat × Nat :=
  (regN s (entryKey 0x2444 3) + 2 ^ 32 * fld s (entryKey 0x2444 4) 0 8, regN s (entryKey 0x2444 5) * 65536)

/-- The result of a request (R470), whose reserved content was found before. -/
def stResult (s : State) (target : Nat) (force : Bool) : Nat :=
  if target = 4 ∧ extFitted s < (stRange s).1 + (stRange s).2 then 2
  else if target = 4 ∧ s.variant = .yl6430 then 1
  else if s.net.lop.isSome || s.pwr.trans.isSome || s.pwr.resuming then 3
  else if (stDomains s target).any (fun d => !(domainOn s d)) then 6
  else if stActive s target && !force then 3
  else 0

/-- Takes engine e to step 2 for a forced test (R470). -/
def stTake (s : State) (e : Nat) : State := if enginePresent s.variant e then reinitEngine (ladderRecord s e 2) e else s

/-- What the test leaves in its memory (R469). An access that holds until the test ends acts on that, so the memory takes it when the test begins (DEDUCED, log 50). -/
def stLeaves (s : State) (t : SelfTest) : State :=
  match t.target with
  | 0 => { s with ss := { s.ss with stag := [], disp := [], dirty := [], attr := [] } }
  | 1 => { s with mem := { s.mem with vsram := [] } }
  | 2 => { s with gfx := { s.gfx with pal := [], rules := [], palShadow := [], rulesShadow := [] } }
  | 3 => { s with gfx := { s.gfx with sprAttr := [] } }
  | _ => { s with mem := { s.mem with ext := mapDrop (fun a => decide (t.start ≤ a) && decide (a < t.start + t.len)) s.mem.ext } }

/-- A byte of an external range that something else wrote during the test is undefined (free, R470; DESIGN CHOICE, log 51). -/
def stDisturbed (s : State) (t : SelfTest) : State :=
  if t.target ≠ 4 then s
  else
    let hit := s.mem.ext.filter (fun e => decide (t.start ≤ e.1) && decide (e.1 < t.start + t.len))
    let ext := hit.foldl (fun m e => mapSet memReset m e.1 (Config.freeByte s.freeCtr e.1)) s.mem.ext
    { (drawFree s).2 with mem := { s.mem with ext := ext } }

/-- A write to ST_REQ (R470): the status, and the test begun when it is OK; a local write records the result. -/
def stRequest (s : State) (v : Nat) (cop : Bool) (who : Option CopHdr) : State × Nat :=
  let target := bits v 0 3
  let force := bitAt v 3
  let st := stResult s target force
  let s1 := if cop && !(st == 0) then s else setFld s kStStatus 2 4 st
  if st ≠ 0 then (s1, st)
  else
    let s2 := setN s1 kStStatus (1 + 256 * target)
    let s3 := if force then (stOffline target).foldl stTake s2 else s2
    let t : SelfTest := ⟨target, force, (stRange s).1, (stRange s).2⟩
    let s4 := stLeaves { s3 with health := { s3.health with test := some t } } t
    (lopStart s4 5 who 0 [], 0)

/-- The test ends (R470): its outcome, the first failing word's address and bits, source 277; steps that waited for it begin. -/
def stDone (s : State) (fail : Option (Nat × Nat)) : State :=
  match s.health.test with
  | none => s
  | some t =>
    let s1 := stDisturbed { s with health := { s.health with test := none } } t
    let s2 := match fail with
      | none => s1
      | some (a, b) => setN (setPair s1 (entryKey 0x2444 6) (entryKey 0x2444 7) (a % 2 ^ 40)) (entryKey 0x2444 8) b
    let s3 := setFld (setFld s2 kStStatus 0 2 2) kStStatus 6 2 (if fail.isSome then 2 else 1)
    waitingSteps (icAssert (lopEnd s3 fail.isNone 0) 277)

/-! ### Health (R471) -/

/-- The event bits of HEALTH_SUMMARY that a source sets. -/
def healthBit (src : Nat) : Option Nat :=
  if src = 182 then some 9 else if src = 193 ∨ src = 196 then some 10 else if src = 194 ∨ src = 195 then some 11
  else if src = 116 ∨ src = 117 ∨ src = 576 then some 13 else if src = 18 then some 14 else none

/-- HEALTH_SUMMARY as it reads. -/
def healthSummary (s : State) : Nat :=
  let b (x : Bool) (k : Nat) : Nat := if x then 2 ^ k else 0
  let lgl := lglState s
  pwrState s + 4 * fld s kPwrState 2 2 + 16 * bits (rasterStatus s) 6 2 + b s.tb.sync 6 + b s.hp.trained.isSome 7 +
    maskAnd (s.health.now ||| s.health.prev) 0x7F00 +
    b (decide (toSigned 16 (regN s (entryKey 0x1220 4)) ≤ toSigned 16 (regN s (entryKey 0x1220 2)))) 15 +
    65536 * bits lgl 0 3 + b (bitAt lgl 4) 19 + b (bitAt lgl 5) 20 + 2 ^ 24 * (s.health.window % 256)

/-- HEALTH_LADDER: the engines that took a step in the two windows, 32 from engine 32h. -/
def healthLadder (s : State) (h : Nat) : Nat := bits (s.health.ladderNow ||| s.health.ladderPrev) (32 * h) 32

/-- A health window ends. -/
def windowEnd (s : State) : State :=
  if !(domainOn s 8) then s
  else { s with health := { s.health with prev := s.health.now, now := 0, ladderPrev := s.health.ladderNow, ladderNow := 0, window := s.health.window + 1 } }

/-- The die temperature is measured; reaching the limit sets TEMP_HIGH (R473, R492). -/
def tempMeasured (s : State) (temp : Int) : State :=
  if !(domainOn s 8) then s
  else
    let lim := toSigned 16 (regN s (entryKey 0x1220 4))
    let s1 := setN s (entryKey 0x1220 2) (ofSigned 32 (toSigned 16 (ofSigned 16 temp)))
    if lim ≤ toSigned 16 (ofSigned 16 temp) then setFlag s1 kPerfFlags 4 else s1

end Sys2Proof.Machine
end

