-- ==== Sys2Proof/Machine/Security.lean ====
section
/-! DEFINITION. The lifecycle and the fuses of engine 36 (18): requests, transitions, fuse programming, and the entries computed from them. -/
namespace Sys2Proof.Machine

/-- A fuse field is blank: all zeros (R446). -/
def blankFuse (b : List Byte) : Bool := b.all (· == 0#8)

/-- DEV_KEY is programmed and not erased. -/
def devKeyValid (s : State) : Bool := !(blankFuse s.sec.fuses.devKey) && !(devKeyErased s)

/-- SEC_FUSE_STATUS (R459). -/
def fuseStatus (s : State) : Nat :=
  let f := s.sec.fuses
  let b (x : Bool) (k : Nat) : Nat := if x then 2 ^ k else 0
  b (!(blankFuse f.appHash)) 0 + b (!(blankFuse f.legalHash)) 1 + b (!(blankFuse f.dbgHash)) 2 + b (devKeyValid s) 3 + b (devKeyErased s) 4

/-- SEC_DEBUG_STATE (R459): HALTED while a debugger holds a processor. -/
def debugState (s : State) : Nat := s.sec.dbg + (if s.sec.halted.isEmpty then 0 else 4) + 256 * (if s.sec.dbg = 2 then s.sec.grant % 256 else 0)

/-- The condition of a lifecycle transition (R445); `dbg` is a request of an authenticated debugger. -/
def lcAllowed (s : State) (target : Nat) (dbg : Bool) : Bool :=
  let f := s.sec.fuses
  let cur := f.lifecycle
  if target = 1 then cur == 0
  else if target = 2 then decide (cur ≤ 1) && !(blankFuse f.appHash) && !(blankFuse f.legalHash) && !(blankFuse f.dbgHash) && devKeyValid s
  else (cur == 1 || cur == 2) && dbg && s.sec.dbg == 2 && bitAt s.sec.grant 6

/-- A lifecycle request (R445): its status; an accepted one waits for its fuses. -/
def lcRequest (s : State) (target : Nat) (dbg : Bool) : State × Nat :=
  if target ≤ s.sec.fuses.lifecycle then (s, 2)
  else if !(lcAllowed s target dbg) then (setFlag s (entryKey 0x2900 0x0C) 1, 12)
  else if s.sec.lcTarget.isSome then (s, 3)
  else (setSec s { s.sec with lcTarget := some target }, 0)

/-- The fuses of an accepted request are blown, and a cold start follows (R445, R446). -/
def lcBlown (s : State) : State :=
  match s.sec.lcTarget with
  | none => s
  | some t =>
    let s1 := setSec s { s.sec with lcTarget := none, fuses := { s.sec.fuses with lifecycle := t } }
    coldStart (if t = 3 then enterReturned s1 else s1)

/-- The fuse field of a number. -/
def fuseField (s : State) (n : Nat) : List Byte :=
  let f := s.sec.fuses
  if n = 0 then f.appHash else if n = 1 then f.legalHash else if n = 2 then f.dbgHash else f.devKey

/-- Replaces a fuse field. -/
def setFuse (s : State) (n : Nat) (b : List Byte) : State :=
  let f := s.sec.fuses
  setSec s { s.sec with fuses := if n = 0 then { f with appHash := b } else if n = 1 then { f with legalHash := b }
    else if n = 2 then { f with dbgHash := b } else { f with devKey := b } }

/-- A write to SEC_FUSE_PROG (R446, R459): 33 bytes, in MANUFACTURE or OPEN, for a blank field. `read` is what the field reads when the write fails to
verify. -/
def fuseProg (s : State) (b : List Byte) (read : Option (List Byte)) : State × Nat :=
  let n := (b.headD 0#8).toNat
  if !(b.length == 33) || decide (3 < n) then (s, 2)
  else if 2 ≤ s.sec.fuses.lifecycle then (s, 12)
  else if !(blankFuse (fuseField s n)) then (s, 3)
  else match read with
    | none => (setFuse s n (b.drop 1), 0)
    | some r => (setFlag (setFuse s n ((r ++ List.replicate 32 0#8).take 32)) (entryKey 0x2900 0x0C) 3, 0)

/-- SEC_IDCODE: the fields of R451 that the variant and silicon step fix. -/
def secIdcode (s : State) : Nat :=
  1 + maskAnd (regN s (entryKey 0x2900 0x0F)) 0xFFE + 4096 * (regN s (entryKey 0x1000 1) % 65536) + 2 ^ 28 * (fld s (entryKey 0x1000 2) 8 4)

end Sys2Proof.Machine
end

