-- ==== Sys2Proof/Machine/NetBase.lean ====
section
/-! DEFINITION. The network engine apart from messages (16): the time base and its discipline, gate lists, links, the raw rings, the dictionary save
and flash programming, and requests to application entries (20). -/
namespace Sys2Proof.Machine

/-! ### The time base (R398 to R401) -/

/-- Replaces the time base. -/
def setTb (s : State) (t : TimeBase) : State := { s with tb := t }

/-- The time base has stepped: idle commits and timer clocks follow the new value (R67, R347). -/
def tbStepped (s : State) : State := idleClose { s with tm := { s.tm with edge := s.tb.ns / 10 } }

/-- A write to NET_TB_SET_HI (R398): it loads the time base while the device is grandmaster or domain 7 is off, and is discarded otherwise. -/
def tbSetHi (s : State) (v : Nat) : State :=
  let ok := s.tb.gm || !(domainOn s 7)
  let s1 := setN s (entryKey 0x21C0 0x0B) v
  if ok then tbStepped (setTb s1 { s1.tb with ns := regN s1 (entryKey 0x21C0 0x0A) + 2 ^ 32 * (v % 2 ^ 32), frac := 0 }) else netFlag s 5

/-- TB_SYNC falls (R401): holdover, flag and source 114; a locked raster enters holdover when it follows the time base (R189). -/
def tbFalls (s : State) : State :=
  let s1 := netFlag (setTb s { s.tb with sync := false, gm := false }) 0
  if lockSource s1 = 1 then rasterHoldover s1 else s1

/-- Corrects the time base by an offset from the master. -/
def tbCorrect (s : State) (offset : Int) : State := setTb s { s.tb with ns := ((s.tb.ns : Int) - offset).toNat % 2 ^ 64 }

/-- A Sync of the best master is received on a port (R399, R401): `best` says that the master wins the BMCA against the device. While synchronised an
offset of 1 µs or more ends it; on reacquisition a small offset is slewed and a larger one steps the time base. -/
def tbSyncRx (s : State) (k : Nat) (best : Bool) (offset : Int) (hops : Nat) : State :=
  if !(engineOn s 7) || !(flag s (entryKey 0x21C0 1) k) || !best then s
  else
    let s1 := setN (setN s (entryKey 0x21C2 5) (ofSigned 32 offset)) (entryKey 0x21C2 6) (hops % 256)
    let s2 := setTb s1 { s1.tb with gm := false }
    let small := decide (offset.natAbs ≤ 1000)
    if s.tb.sync && decide (1000 ≤ offset.natAbs) then tbFalls s2
    else if small then setTb (tbCorrect s2 offset) { (tbCorrect s2 offset).tb with sync := true }
    else
      let s3 := tbStepped (tbCorrect s2 offset)
      netFlag (netCount (setTb s3 { s3.tb with sync := true }) 0x0C) 1

/-- No Sync within three intervals (R399, R401): a slave loses synchronisation; `win` says that the device then wins the BMCA. -/
def tbLost (s : State) (win : Bool) : State :=
  if !(engineOn s 7) || s.tb.gm then s
  else
    let s1 := if s.tb.sync then tbFalls s else s
    if win then setN (setTb s1 { s1.tb with sync := true, gm := true }) (entryKey 0x21C2 6) 0 else s1

/-- As grandmaster the device sends a Sync on every enabled port; the state that shows it is the time stamp sent last (R399). -/
def syncInterval (s : State) : State :=
  if engineOn s 7 && s.tb.gm then
    ([0, 1].filter (fun k => flag s (entryKey 0x21C0 1) k)).foldl
      (fun t k => setNet t { t.net with lastForward := some (k, 7, toBytes 8 t.tb.ns) }) s
  else s

/-- The time base reaches a whole second: TB_PPS is high for 100 ms (R486). -/
def tbPps (s : State) : State :=
  if !(engineOn s 7) then s
  else
    let s1 := funcDrive s 7 true
    { s1 with pins := { s1.pins with ppsUntil := s1.tb.ns + 100000000 } }

/-- NET_STATUS: the links and the time base (R422). -/
def netStatus (s : State) : Nat := bits (regN s (entryKey 0x21C2 1)) 0 6 + (if s.tb.sync then 64 else 0) + (if s.tb.gm then 128 else 0)

/-- A link goes up at a speed, or down (R422). -/
def linkChange (s : State) (k : Nat) (up : Bool) (speed : Nat) : State :=
  if !(engineOn s 7) then s
  else
    let sk := entryKey 0x21C2 1
    netFlag (setFld (setFld s sk k 1 (if up then 1 else 0)) sk (2 + 2 * k) 2 (if up then speed else 0)) 6

/-! ### Gate lists, ageing, raw rings (R395, R396, R422) -/

/-- The interval of the gate entry of port k runs out: the next entry, from the first after the last (R396). -/
def gateNext (s : State) (k : Nat) : State :=
  if !(engineOn s 7) || !(flag s (entryKey 0x21C0 0x0D) k) then s
  else
    let len := fld s (entryKey 0x21C0 0x0D) (8 + 8 * k) 6 + 1
    let i := mapGet (fun _ => 0) s.net.gate k
    setNet s { s.net with gate := mapSet (fun _ => 0) s.net.gate k ((i + 1) % len) }

/-- The queues that the gates of port k let through: all of them while its list does not run (R396). -/
def openQueues (s : State) (k : Nat) : Nat :=
  if flag s (entryKey 0x21C0 0x0D) k then fld s (entryKey (0x21C4 + k) (mapGet (fun _ => 0) s.net.gate k)) 0 8 else 0xFF

/-- A learned address has not been seen for 300 s (R395). -/
def macAges (s : State) (mac : Nat) : State := setNet s { s.net with macs := s.net.macs.filter (fun e => !(e.1 == mac)) }

/-- The offset in shared SRAM of a slot of a raw ring, of 2048 bytes each (R422, PRESUMED, log 32). -/
def rawSlot (s : State) (sub i : Nat) : Nat := (bits (regN s (entryKey 0x21C0 sub)) 11 11 * 2048 + 2048 * i) % sramSize

/-- The slots of a raw ring. -/
def rawSlots (s : State) (sub : Nat) : Nat := 2 ^ fld s (entryKey 0x21C0 sub) 24 3

/-- A frame for the firmware is placed in the receive ring, or dropped where its slot is FULL (R422). -/
def rawRx (s : State) (frame : List Byte) : State :=
  if !(engineOn s 7) then s
  else
    let i := s.net.rawRx % rawSlots s 0x0E
    let a := rawSlot s 0x0E i
    if bitAt (sramWord s a) 31 then msgError s
    else
      let s1 := sramWrite (sramWrite s (a + 4) frame) a (toBytes 4 (frame.length % 2048 + 2 ^ 31))
      icAssert (setNet s1 { s1.net with rawRx := (i + 1) % rawSlots s 0x0E }) 120

/-- The frame of the transmit ring's next slot is sent and the slot released (R422). -/
def rawTxDone (s : State) : State :=
  if !(engineOn s 7) then s
  else
    let i := s.net.rawTx % rawSlots s 0x0F
    let a := rawSlot s 0x0F i
    let w := sramWord s a
    if !(bitAt w 31) then s
    else
      let frame := readBytes sramSize s.mem.sram (a + 4) (bits w 0 11)
      let s1 := sramWrite s a (toBytes 4 (w - 2 ^ 31))
      icAssert (setNet s1 { s1.net with rawTx := (i + 1) % rawSlots s 0x0F, lastForward := some (2, 0, frame) }) 121

/-! ### The dictionary save and flash programming (R413, R418, R438) -/

/-- A saved entry that its domain holds now. -/
def savedNow (s : State) (k : Nat) : Bool := keyClass k == .saved && domainOn s (keyDomain k)

/-- The saved area after a save: the entries of domains that are on, and what it held of the others. -/
def saveEntries (s : State) : State :=
  let words := (s.dict.filter (fun e => savedNow s e.1)).foldl (fun m e => mapSet dictReset m e.1 e.2) (mapDrop (savedNow s) s.saved)
  let blobs := (s.blobs.filter (fun e => savedNow s e.1)).foldl (fun m e => mapSet (fun _ => []) m e.1 e.2) (mapDrop (savedNow s) s.savedBlobs)
  { s with saved := words, savedBlobs := blobs }

/-- A write of GO to DICT_SAVE (R418): a long operation, or BUSY while one runs. -/
def dictSave (s : State) (v : Nat) (who : Option CopHdr) : State × Nat :=
  if !(bitAt v 0) then (s, 0) else if s.net.lop.isSome then (s, 3) else (lopStart s 6 who 0 [], 0)

/-- A flash programming operation ends (R413): with status 0 the slot image or the saved entries are in the flash. -/
def lopDone (s : State) (status : Nat) : State :=
  match s.net.lop with
  | none => s
  | some l =>
    if l.op ≠ 6 then s
    else if status ≠ 0 then lopEnd s false status
    else if l.data.isEmpty then lopEnd (saveEntries s) true 0
    else
      let s1 := flashWrite s l.addr l.data
      lopEnd (if l.addr = bootSlot s 0 then setPwr s1 { s1.pwr with slotA := true } else s1) true 0

/-! ### Application-defined entries (R478 to R481) -/

/-- The handler of an application index: that of the lowest-numbered enabled range that covers it (R478). -/
def appHandler (s : State) (idx : Nat) : Option Nat :=
  ((List.range 16).find? (fun k =>
    let r := regN s (entryKey 0x1231 k)
    bitAt r 31 && decide (0x3000 + bits r 0 12 ≤ idx) && decide (idx ≤ 0x3000 + bits r 12 12))).map (fun k => fld s (entryKey 0x1231 k) 24 4)

/-- A handler processor and its requests. -/
def appOf (s : State) (p : Nat) : AppHandler := mapGet (fun _ => {}) s.net.apps p
def setApp (s : State) (p : Nat) (a : AppHandler) : State := setNet s { s.net with apps := mapSet (fun _ => {}) s.net.apps p a }

/-- The record of a processor in shared SRAM (R479). -/
def appRecord (s : State) (p : Nat) : Nat := fld s (entryKey 0x1230 p) 0 16 * 64 % sramSize

/-- The reply to an application request. -/
def appReply (s : State) (r : AppReq) (status failSub : Nat) (values : List Byte) : State :=
  reply s r.hdr (if r.write then 2 else 1) status (toBytes 1 status ++ toBytes 1 failSub ++ toBytes 2 0 ++ values)

/-- A request enters service (R480): the record is written and the doorbell rung. -/
def appBegin (s : State) (p : Nat) (r : AppReq) : State :=
  let a := appRecord s p
  let w0 := r.idx + 65536 * r.sub + 2 ^ 24 * r.count + (if r.write then 2 ^ 31 else 0)
  let w1 := 65536 * writerCode (.cop r.hdr.path)
  let s1 := sramWrite s a (toBytes 4 w0 ++ toBytes 4 w1 ++ (if r.write then r.values.flatMap (fun v => toBytes 4 v.toNat) else []))
  ringDoorbell (setApp s1 p { appOf s1 p with cur := some { r with record := a } }) (fld s (entryKey 0x1230 p) 16 8)

/-- Whether the requester is the handler itself, through the local request path (R481). -/
def selfRequest (r : AppReq) (p : Nat) : Bool := match r.hdr.path with
  | .proc q => q.val == p
  | _ => false

/-- Whether processor p can serve: its core runs, in a domain that is on (R481). -/
def appServes (s : State) (p : Nat) : Bool :=
  procPresent s.variant p && engineOn s (coreEngine p) && ((coreOf s p).run == 1 || (coreOf s p).run == 2)

/-- A request to an application entry (R478, R480, R481): begun, queued behind at most 8, or answered without reaching the handler. -/
def appRequest (s : State) (r : AppReq) : State :=
  match appHandler s r.idx with
  | none => appReply s r 7 r.sub []
  | some p =>
    if !(appServes s p) || selfRequest r p then appReply s r 3 r.sub []
    else match (appOf s p).cur with
      | none => appBegin s p r
      | some _ =>
        if 8 ≤ (appOf s p).queue.length then appReply s r 3 r.sub [] else setApp s p { appOf s p with queue := (appOf s p).queue ++ [r] }

/-- The next queued requests of a handler are decided again until one is in service (R481). -/
def appNext : Nat → State → Nat → State
  | 0, s, _ => s
  | n + 1, s, p =>
    let a := appOf s p
    match a.cur, a.queue with
    | none, r :: rest => appNext n (appRequest (setApp s p { a with queue := rest }) r) p
    | _, _ => s

/-- The handler writes APP_DONE (R480): the reply is relayed and the next request taken; with no request in service CFG_ERROR is set (R481). -/
def appDone (s : State) (p : Nat) : State :=
  match (appOf s p).cur with
  | none => cfgError s 0x1200
  | some r =>
    let w1 := sramWord s (r.record + 4)
    let st := if 13 ≤ bits w1 0 8 then 9 else bits w1 0 8
    let vals := if r.write || !(st == 0) then [] else readBytes sramSize s.mem.sram (r.record + 8) (4 * r.count)
    appNext 9 (appReply (setApp s p { appOf s p with cur := none }) r st (bits w1 8 8) vals) p

/-- TIMEOUT passes without APP_DONE (R481). -/
def appTimeout (s : State) (p : Nat) : State :=
  match (appOf s p).cur with
  | none => s
  | some r => appNext 9 (bump (appReply (setApp s p { appOf s p with cur := none }) r 3 r.sub []) (entryKey 0x1232 0x10)) p

end Sys2Proof.Machine
end

