-- ==== Sys2Proof/Machine/DictRead.lean ====
section
/-! DEFINITION. Reading the dictionary (00, 16, 20): which entries exist and can be reached (R475 to R477), what an entry reads as, snapshots of rs
entries (R13). -/
namespace Sys2Proof.Machine

/-! ### Existence and reach (R2, R5, R44, R437, R475 to R477) -/

/-- An index in the block of an engine that the variant lacks: every subindex of it is an absent unit's (R477). -/
def blockAbsent (s : State) (idx : Nat) : Bool := match engineOf idx with
  | some e => !(enginePresent s.variant e)
  | none => false

/-- Entries of absent units outside such blocks: load cells, voices 32 to 63, processors 4 to 7 and counters of absent engines (R5, R254, R323, R461). -/
def partAbsent (s : State) (idx sub : Nat) : Bool :=
  let small := s.variant == .yl6430
  (idx == 0x24C1 && !(s.variant == .yl6400)) ||
  (small && decide (0x2401 ≤ idx) && decide (idx ≤ 0x2409) && decide (32 ≤ sub) && decide (sub < 64)) || (small && idx == 0x2400 && sub == 0x0F) ||
  (small && (idx == 0x2081 || idx == 0x2082 || idx == 0x1230 || idx == 0x1232) && decide (4 ≤ sub) && decide (sub < 8)) ||
  ((idx == 0x2441 || idx == 0x2442) && decide (sub < 148) && !(enginePresent s.variant (sub / 4)))

/-- An entry of an absent unit. -/
def entryAbsent (s : State) (idx sub : Nat) : Bool := blockAbsent s idx || partAbsent s idx sub

/-- What COP may reach in the safe service state (R437): segmented transfers to the boot slots are decided apart. -/
def safeServes (idx sub : Nat) (write : Bool) : Bool :=
  if write then idx == 0x2040 && sub == 0x0A
  else (decide (0x1000 ≤ idx) && decide (idx < 0x1400)) || (decide (0x2040 ≤ idx) && decide (idx ≤ 0x2046)) ||
    (decide (0x24C0 ≤ idx) && decide (idx ≤ 0x24C4))

/-- Whether an entry's domains are on, or it needs none: held in retention, or an audio entry that reads its reset value (R370, R476). -/
def entryPowered (s : State) (r : DictRow) (idx sub : Nat) (write : Bool) : Bool :=
  let on := domainOn s (entryDomain idx sub) && (!(idx == 0x24C3) || domainOn s 6)
  on || r.cls == .retained || (!write && engineOf idx == some 16)

/-- Checks 1 to 4 of R476 on an access by COP; a status of R407. -/
def reachStatus (s : State) (idx sub : Nat) (write : Bool) : Nat :=
  if entryAbsent s idx sub && (blockAbsent s idx || (dictRow? idx sub).isSome) then 1
  else match dictRow? idx sub with
    | none => 7
    | some r =>
      if s.pwr.safe && !(safeServes idx sub write) then 12
      else if !(entryPowered s r idx sub write) then 6
      else 0

/-- The engine of an entry is offline at step 2 of its ladder (R440); the window selects, counters and copies of other blocks are not concerned. -/
def entryOffline (s : State) (idx sub : Nat) : Bool := match engineOf idx with
  | some e => engineOffline s e && (entryDomain idx sub == engineDomain e)
  | none => false

/-! ### Computed values -/

/-- The variant's code (R1, R6). -/
def variantCode (v : Variant) : Nat := match v with
  | .yl6400 => 0x6400
  | .yl6410 => 0x6410
  | .yl6430 => 0x6430

/-- The capability entries that depend on the variant (R6). -/
def capability (s : State) (sub : Nat) : Option Nat :=
  let v := s.variant
  let small := v == .yl6430
  if sub = 1 then some (variantCode v)
  else if sub = 3 then some (appCores v)
  else if sub = 4 then some ((List.range 32).foldl (fun a e => if enginePresent v e then a + 2 ^ e else a) 0)
  else if sub = 5 then some ((List.range 5).foldl (fun a e => if enginePresent v (32 + e) then a + 2 ^ e else a) 0)
  else if sub = 6 then some (if small then 2304000 else 8294400)
  else if sub = 7 then some (voiceCount v)
  else if sub = 8 then (if small then some 0 else none)
  else if sub = 9 then some (loadCells v)
  else if sub = 0x0C then some (if small then 3 else 7)
  else none

/-- CORE_STATE of a processor (R284): in reset while its domain is off; waiting is RUN 2. -/
def coreState (s : State) (c : Nat) : Nat :=
  if engineOn s (coreEngine c) then (coreOf s c).run % 4 + 4 * ((coreOf s c).level % 32) else 0

/-- The decode table word that CORE_MC_SEL names; a table is undefined until it is written, read here as its stored default (R281). -/
def coreMcWord (s : State) (c : Nat) : Nat := (mapGet (fun _ => 0x10000000#32) (coreOf s c).mc (fld s (coreKey c 2) 0 9)).toNat

/-- CORE_MC_STATUS: LOCKED with the recorded check (R284). -/
def coreMcStatus (s : State) (c : Nat) : Nat := putBits (regN s (coreKey c 4)) 0 1 (if (coreOf s c).lock then 1 else 0)

/-- The processor whose core entries an index holds. -/
def coreOfIdx (idx : Nat) : Option Nat :=
  if idx = 0x203F then some 8 else if 0x2700 ≤ idx ∧ idx < 0x2900 ∧ idx % 64 = 63 then some ((idx - 0x273F) / 64) else none

/-- The key in the coefficient RAMs of SCL_COEF_SEL (R155, R167). -/
def coefKey (s : State) : Nat :=
  let v := regN s (entryKey 0x2384 1)
  bits v 7 1 * 128 + bits v 0 5 * 4 + bits v 5 2

/-- The rs subindexes of an index, the one that consumes the snapshot last (R13). -/
def rsSubs (idx : Nat) : List Nat :=
  if 0x20D0 ≤ idx ∧ idx < 0x20F8 then [9, 0x0A]
  else if idx = 0x22C9 then [3, 4, 5]
  else if idx = 0x2400 then [4, 5]
  else if idx = 0x21C2 then [3, 4]
  else []

/-- The value that a capture takes of an rs subindex (R194, R354, R391, R422). -/
def rsValue (s : State) (idx sub : Nat) : Word :=
  if 0x20D0 ≤ idx ∧ idx < 0x20F8 then
    let n := if idx < 0x20F0 then idx - 0x20D0 else idx - 0x20F0 + 32
    if sub = 0x0A then regGet s (timerKey n 5) else if n = 0 ∨ n = 32 then 0#32 else regGet s (timerKey (n - 1) 5)
  else if idx = 0x22C9 then
    (if sub = 3 then natWord ((rasterPos s).2 % 8192 + (rasterPos s).1 % 8192 * 65536)
    else natWord (s.raster.lastFrame.getD 0 / (if sub = 5 then 2 ^ 32 else 1)))
  else if idx = 0x2400 then natWord (s.aud.k.getD 0 / (if sub = 5 then 2 ^ 32 else 1))
  else natWord (s.tb.ns / (if sub = 4 then 2 ^ 32 else 1))

/-- The value of an entry that the model computes when it is read, if it is one of those. -/
def computed (s : State) (idx sub : Nat) : Option Nat :=
  match coreOfIdx idx with
  | some c => if sub = 1 then some (coreState s c) else if sub = 3 then some (coreMcWord s c) else if sub = 4 then some (coreMcStatus s c) else none
  | none =>
  if idx = 0x1000 then capability s sub
  else if idx = 0x1220 then
    (if sub = 1 then some (healthSummary s) else if sub = 5 ∨ sub = 6 then some (healthLadder s (sub - 5)) else none)
  else if idx = 0x2082 then some (procStatus s sub)
  else if 0x2084 ≤ idx ∧ idx < 0x2088 then
    (if enginePresent s.variant (sourceEngine ((idx - 0x2084) * 256 + sub)) then none else some 0)
  else if idx = 0x2088 then some (icPendingWord s sub)
  else if idx = 0x2089 then some (icServiceWord s sub)
  else if idx = 0x208A then some (icAssertedWord s sub)
  else if idx = 0x2100 ∧ (sub = 4 ∨ sub = 5) then
    some ((List.range (if sub = 4 then 32 else 16)).foldl (fun a i => if padLevel s (i + 32 * (sub - 4)) then a + 2 ^ i else a) 0)
  else if idx = 0x21C2 ∧ sub = 1 then some (netStatus s)
  else if 0x2502 ≤ idx ∧ idx ≤ 0x26C2 ∧ idx % 64 = 2 ∧ sub = 1 then
    let n := (idx - 0x2502) / 64
    some (putBits (regN s (entryKey idx sub)) 1 1 (regN s (planeKey n 1 1) / 2 % 2))
  else if idx = 0x2242 ∧ sub = 1 then some (putBits (regN s (entryKey idx sub)) 0 1 (if sprDrawing s then 1 else 0))
  else if idx = 0x2243 ∧ sub = 6 then some (mapGet (fun _ => 0) s.gfx.sprAttr (regN s (entryKey 0x2243 5)))
  else if idx = 0x22C2 ∧ sub = 1 then some (compStatus s)
  else if idx = 0x22C9 ∧ sub = 1 then some (rasterStatus s)
  else if idx = 0x22F0 ∧ (sub = 6 ∨ sub = 7) then
    let v := mapGet (fun _ => 0) s.gfx.pal (regN s (entryKey 0x22F0 5))
    some (if sub = 6 then bits v 0 30 else bits v 30 8)
  else if idx = 0x22F1 ∧ sub = 6 then some (mapGet (fun _ => 0) s.gfx.rules (regN s (entryKey 0x22F1 5)))
  else if idx = 0x22F1 ∧ sub = 0x0C then some s.gfx.blink
  else if idx = 0x2342 ∧ sub = 1 then some (hpStatus s)
  else if idx = 0x2382 ∧ sub = 1 then some (hsStatus s)
  else if idx = 0x2384 ∧ sub = 2 then some (ofSigned 32 (mapGet coefReset s.gfx.coefStaged (coefKey s)))
  else if idx = 0x2385 ∧ sub = 2 then some (ofSigned 32 (mapGet coefReset s.gfx.coefCur (coefKey s)))
  else if idx = 0x2400 ∧ sub = 2 then some (audStatus s)
  else if idx = 0x24C0 ∧ sub = 1 then some (lglState s)
  else if (idx = 0x24C0 ∨ idx = 0x24C1) ∧ domainOn s 4 then lglCopy s idx sub
  else if idx = 0x24C2 ∧ sub = 3 then some (msgStatus s)
  else if idx = 0x24C3 ∧ sub = 3 then
    let q := regN s (entryKey 0x24C3 1)
    some (if s.bm.ctl.tail ≤ q ∧ q < s.bm.ctl.head then 1 else 0)
  else if idx = 0x24C4 then some (lglWin s ((sub - 1) % 4) (decide (5 ≤ sub)))
  else if idx = 0x2900 then
    (if sub = 1 then some s.sec.fuses.lifecycle else if sub = 3 then some (fuseStatus s) else if sub = 5 then some (debugState s)
    else if sub = 6 then some (s.sec.fuses.uid % 2 ^ 32) else if sub = 7 then some (s.sec.fuses.uid / 2 ^ 32 % 2 ^ 32)
    else if sub = 0x0F then some (secIdcode s) else none)
  else none

/-- The 32-bit value that an entry reads as, before a snapshot: wo reads zero, an audio entry its reset value while domain 21 is off. -/
def entryValue (s : State) (r : DictRow) (idx sub : Nat) : Word :=
  if r.acc = .wo then 0#32
  else if engineOf idx = some 16 ∧ domainOn s 21 = false then dictReset (entryKey idx sub)
  else if r.acc = .rs then rsValue s idx sub
  else match computed s idx sub with
    | some v => natWord v
    | none => natWord (extendType r.typ (regN s (entryKey idx sub)))

/-- The bytes of a STR or DOMAIN entry (R254, R422, R459): an IPv6 address never set is zero, the audit record that LGL_AUDIT_SEL names or zeros. -/
def entryBytes (s : State) (idx sub : Nat) : List Byte :=
  let f := s.sec.fuses
  if idx = 0x1102 ∨ idx = 0x2046 ∨ (idx = 0x24C2 ∧ sub = 1) ∨ (idx = 0x2900 ∧ sub = 0x0B) then []
  else if idx = 0x1100 then (let b := blobGet s (entryKey idx sub); if b.isEmpty then List.replicate 16 0#8 else b)
  else if idx = 0x2342 then (let b := blobGet s (entryKey idx sub); if b.isEmpty then List.replicate 512 0#8 else b)
  else if idx = 0x24C0 ∧ domainOn s 4 then s.bm.swId
  else if idx = 0x24C2 then (List.range s.bm.outLen).map (fun i => mapGet memReset s.bm.outBox i)
  else if idx = 0x24C3 then
    let q := regN s (entryKey 0x24C3 1)
    if s.bm.ctl.tail ≤ q ∧ q < s.bm.ctl.head then mramBytes s (recordAt q) 64 else List.replicate 64 0#8
  else if idx = 0x2900 then (if sub = 8 then f.appHash else if sub = 9 then f.legalHash else f.dbgHash)
  else blobGet s (entryKey idx sub)

/-- A type whose value is bytes. -/
def isBytes : EntryType → Bool
  | .str => true
  | .domain => true
  | _ => false

/-- What a core load of an entry returns (R25): of a STR or DOMAIN the first four bytes. -/
def entryWord (s : State) (r : DictRow) (idx sub : Nat) : Word :=
  if isBytes r.typ then natWord (ofBytes ((entryBytes s idx sub).take 4)) else entryValue s r idx sub

/-! ### Snapshots (R13) -/

/-- The number of a requester. -/
def requesterCode : Requester → Nat
  | .proc p => p.val
  | .spi => 16
  | .sender src => 32 + src

/-- A capture of every rs subindex of an index. -/
def capture (s : State) (idx : Nat) : List (Nat × Word) := (rsSubs idx).map (fun sub => (sub, rsValue s idx sub))

/-- Removes a requester's snapshot of an index. -/
def dropSnap (s : State) (who idx : Nat) : State := { s with snaps := s.snaps.filter (fun n => !(n.requester == who && n.idx == idx)) }

/-- A read of an rs subindex (R13): from a new capture, from the snapshot held, or from a capture that replaces one already read there. -/
def rsRead (s : State) (who idx sub : Nat) : Word × State :=
  let last := (rsSubs idx).getLast?
  let fresh (t : State) : Word × State :=
    let vals := capture t idx
    (rsValue t idx sub, if last = some sub then t else { t with snaps := t.snaps ++ [⟨who, idx, vals, [sub]⟩] })
  match s.snaps.find? (fun n => n.requester == who && n.idx == idx) with
  | none => fresh s
  | some n =>
    if n.taken.contains sub then fresh (dropSnap s who idx)
    else
      let t := dropSnap s who idx
      ((n.values.lookup sub).getD 0#32, if last = some sub then t else { t with snaps := t.snaps ++ [{ n with taken := n.taken ++ [sub] }] })

/-- A read of one entry by a requester, rs snapshots included; an AUX access reads the sink, whose answer is free (R196, DESIGN CHOICE, log 33). -/
def entryRead (s : State) (who : Nat) (r : DictRow) (idx sub : Nat) : Word × State :=
  if r.acc = .rs ∧ !(engineOf idx == some 16 && !(domainOn s 21)) then rsRead s who idx sub
  else if idx = 0x2340 ∧ sub = 3 then
    let (f, s1) := drawFree s
    let s2 := auxAccess s1 0#8 false (if f % 2 = 0 then none else some (BitVec.ofNat 8 (f / 2)))
    (entryWord s2 r idx sub, s2)
  else (entryWord s r idx sub, s)

end Sys2Proof.Machine
end

