-- ==== Sys2Proof/Machine/Flags.lean ====
section
/-! DEFINITION. What the Buzhail units compute and the status bits they set (R266 to R270, R299): ALU results and overflow, comparisons, products,
quotients, and binary32 arithmetic with its flags. -/
namespace Sys2Proof.Machine

/-! ### The ALU (R266, R299) -/

/-- The ALU operations in the order of R266. -/
inductive AluOp where
  | add | sub | rsub | and | or | xor | andn | shl | shr | sra | rotl | min | max | minu | maxu | neg | not | sext8 | sext16
  deriving DecidableEq, Repr

/-- The operations by their port offset from 41 or 61. -/
def aluOps : List AluOp :=
  [.add, .sub, .rsub, .and, .or, .xor, .andn, .shl, .shr, .sra, .rotl, .min, .max, .minu, .maxu, .neg, .not, .sext8, .sext16]

/-- The operand and the trigger value give the result. -/
def aluRes (op : AluOp) (o t : Word) : Word := match op with
  | .add => o + t
  | .sub => o - t
  | .rsub => t - o
  | .and => o &&& t
  | .or => o ||| t
  | .xor => o ^^^ t
  | .andn => o &&& ~~~t
  | .shl => o <<< (t.toNat % 256)
  | .shr => o >>> (t.toNat % 256)
  | .sra => o.sshiftRight (t.toNat % 256)
  | .rotl => o.rotateLeft (t.toNat % 32)
  | .min => if o.slt t then o else t
  | .max => if t.slt o then o else t
  | .minu => if o.ult t then o else t
  | .maxu => if t.ult o then o else t
  | .neg => -t
  | .not => ~~~t
  | .sext8 => (t.truncate 8).signExtend 32
  | .sext16 => (t.truncate 16).signExtend 32

/-- The exact signed result of the operations that can overflow. -/
def aluExact (op : AluOp) (o t : Word) : Option Int := match op with
  | .add => some (o.toInt + t.toInt)
  | .sub => some (o.toInt - t.toInt)
  | .rsub => some (t.toInt - o.toInt)
  | .neg => some (-t.toInt)
  | _ => none

/-- Signed overflow: the exact result is not the result's signed value. -/
def aluOvf (op : AluOp) (o t : Word) : Bool := match aluExact op o t with
  | some x => !(x == (aluRes op o t).toInt)
  | none => false

/-! ### Comparisons, products, quotients (R267 to R269, R299) -/

/-- The comparisons in port order from 98. -/
inductive CmpOp where
  | eq | ne | lt | ge | ltu | geu
  deriving DecidableEq, Repr

def cmpOps : List CmpOp := [.eq, .ne, .lt, .ge, .ltu, .geu]

/-- The relation of A and B. -/
def cmpRes (op : CmpOp) (a b : Word) : Bool := match op with
  | .eq => a == b
  | .ne => !(a == b)
  | .lt => a.slt b
  | .ge => !(a.slt b)
  | .ltu => a.ult b
  | .geu => !(a.ult b)

/-- The multiplications in port order from 105. -/
inductive MulOp where
  | ls | lu | hs | hu
  deriving DecidableEq, Repr

def mulOps : List MulOp := [.ls, .lu, .hs, .hu]

/-- The product on Buzhail-W; on Buzhail-S the low forms multiply the low halves. -/
def mulRes (small : Bool) (op : MulOp) (o t : Word) : Word := match op with
  | .ls => if small then intWord (toSigned 16 o.toNat * toSigned 16 t.toNat) else o * t
  | .lu => if small then natWord (o.toNat % 65536 * (t.toNat % 65536)) else o * t
  | .hs => intWord (o.toInt * t.toInt / 2 ^ 32)
  | .hu => natWord (o.toNat * t.toNat / 2 ^ 32)

/-- Quotient and remainder; a divisor of 0 gives all ones and the dividend. -/
def divRes (signed : Bool) (o t : Word) : Word × Word :=
  if t = 0#32 then (0xFFFFFFFF#32, o)
  else if signed then (intWord (o.toInt.tdiv t.toInt), intWord (o.toInt.tmod t.toInt))
  else (natWord (o.toNat / t.toNat), natWord (o.toNat % t.toNat))

/-! ### Binary32 (R270) -/

/-- The flags of fpu.flags. -/
def fInvalid : Nat := 1
def fOverflow : Nat := 2
def fUnderflow : Nat := 4
def fInexact : Nat := 8

/-- A binary32 value as the FPU reads it: a subnormal is a zero of its sign. A finite value is (-1)^neg * mant * 2^exp. -/
inductive F32 where
  | nan (signalling : Bool)
  | inf (neg : Bool)
  | zero (neg : Bool)
  | fin (neg : Bool) (mant : Nat) (exp : Int)
  deriving DecidableEq, Repr

/-- Reads a word as binary32. -/
def fRead (w : Word) : F32 :=
  let n := w.toNat
  let neg := bitAt n 31
  let e := bits n 23 8
  let f := bits n 0 23
  if e = 255 then (if f = 0 then .inf neg else .nan (f < 2 ^ 22)) else if e = 0 then .zero neg else .fin neg (2 ^ 23 + f) ((e : Int) - 150)

/-- The canonical NaN, an infinity, a zero. -/
def fNan : Word := 0x7FC00000#32
def fInf (neg : Bool) : Word := if neg then 0xFF800000#32 else 0x7F800000#32
def fZero (neg : Bool) : Word := if neg then 0x80000000#32 else 0#32

/-- Rounds (-1)^neg * m * 2^e to nearest, ties to even, with the flags. A result below the least normal number is a zero (R270). -/
def fRound (neg : Bool) (m : Nat) (e : Int) : Word × Nat :=
  if m = 0 then (fZero neg, 0)
  else
    let len := Nat.log2 m + 1
    let drop := len - 24
    let q := m / 2 ^ drop
    let r := m % 2 ^ drop
    let half := 2 ^ drop / 2
    let up := decide (0 < drop) && (decide (half < r) || (r == half && q % 2 == 1))
    let q1 := if up then q + 1 else q
    let inexact := if r = 0 then 0 else fInexact
    let wide := decide (2 ^ 24 ≤ q1)
    let mant := (if wide then q1 / 2 else q1) * 2 ^ (24 - len)
    let be : Int := e + (len : Int) - 24 + (if wide then 1 else 0) + 150
    if 255 ≤ be then (fInf neg, fOverflow + fInexact)
    else if be ≤ 0 then (fZero neg, fUnderflow + fInexact)
    else (natWord ((if neg then 2 ^ 31 else 0) + be.toNat * 2 ^ 23 + (mant - 2 ^ 23)), inexact)

/-- A NaN result: INVALID when an operand was signalling or the operation itself is invalid. -/
def fNanRes (invalid : Bool) : Word × Nat := (fNan, if invalid then fInvalid else 0)

/-- A signalling NaN. -/
def fSig : F32 → Bool
  | .nan s => s
  | _ => false

/-- A NaN. -/
def fIsNan : F32 → Bool
  | .nan _ => true
  | _ => false

/-- A finite value as a signed integer times 2^exp. -/
def fInt : F32 → Int × Int
  | .fin neg m e => (if neg then -(m : Int) else m, e)
  | _ => (0, 0)

/-- Negates a value. -/
def fFlip : F32 → F32
  | .inf n => .inf (!n)
  | .zero n => .zero (!n)
  | .fin n m e => .fin (!n) m e
  | x => x

/-- The sum. -/
def fAdd (a b : F32) : Word × Nat :=
  if fIsNan a || fIsNan b then fNanRes (fSig a || fSig b)
  else match a, b with
    | .inf x, .inf y => if x == y then (fInf x, 0) else fNanRes true
    | .inf x, _ => (fInf x, 0)
    | _, .inf y => (fInf y, 0)
    | .zero x, .zero y => (fZero (x && y), 0)
    | _, _ =>
      let (ma, ea) := fInt a
      let (mb, eb) := fInt b
      let e := if ma = 0 then eb else if mb = 0 then ea else if ea < eb then ea else eb
      let sum := (if ma = 0 then 0 else ma * 2 ^ (ea - e).toNat) + (if mb = 0 then 0 else mb * 2 ^ (eb - e).toNat)
      fRound (decide (sum < 0)) sum.natAbs e

/-- The sign of a value that is not a NaN. -/
def fNeg : F32 → Bool
  | .inf n => n
  | .zero n => n
  | .fin n _ _ => n
  | .nan _ => false

/-- The product. -/
def fMul (a b : F32) : Word × Nat :=
  let neg := fNeg a != fNeg b
  if fIsNan a || fIsNan b then fNanRes (fSig a || fSig b)
  else match a, b with
    | .inf _, .zero _ => fNanRes true
    | .zero _, .inf _ => fNanRes true
    | .inf _, _ => (fInf neg, 0)
    | _, .inf _ => (fInf neg, 0)
    | .fin _ m e, .fin _ n f => fRound neg (m * n) (e + f)
    | _, _ => (fZero neg, 0)

/-- Order of two values that are not NaN; the zeros are equal. -/
def fLess (a b : F32) : Bool := match a, b with
  | .inf x, .inf y => x && !y
  | .inf x, _ => x
  | _, .inf y => !y
  | _, _ =>
    let (ma, ea) := fInt a
    let (mb, eb) := fInt b
    let e := if ea < eb then ea else eb
    decide (ma * 2 ^ (ea - e).toNat < mb * 2 ^ (eb - e).toNat)

/-- A word with a subnormal read as zero. -/
def fFlush (w : Word) : Word := match fRead w with
  | .zero n => fZero n
  | _ => w

/-- The smaller of two, or the larger; −0 lies below +0. -/
def fMinMax (larger : Bool) (o t : Word) : Word × Nat :=
  let a := fRead o
  let b := fRead t
  let inv := if fSig a || fSig b then fInvalid else 0
  if fIsNan a && fIsNan b then (fNan, inv)
  else if fIsNan a then (fFlush t, inv)
  else if fIsNan b then (fFlush o, inv)
  else
    let less := fLess a b || (!(fLess b a) && fNeg a && !(fNeg b))
    (if less != larger then fFlush o else fFlush t, inv)

/-- A value truncated to an integer in a range: saturated and INVALID outside it, INEXACT when a fraction was cut. -/
def fToInt (lo hi : Int) (w : Word) : Word × Nat :=
  let clamp (x : Int) (inexact : Bool) : Word × Nat :=
    if x < lo then (intWord lo, fInvalid) else if hi < x then (intWord hi, fInvalid) else (intWord x, if inexact then fInexact else 0)
  match fRead w with
  | .nan _ => (0#32, fInvalid)
  | .inf neg => (intWord (if neg then lo else hi), fInvalid)
  | .zero _ => (0#32, 0)
  | .fin neg m e =>
    let big := m * 2 ^ (min e.toNat 64)
    let q := big / 2 ^ (-e).toNat
    clamp (if neg then -(q : Int) else q) (decide (big % 2 ^ (-e).toNat ≠ 0))

/-- The FPU operations in port order from 145. -/
inductive FpuOp where
  | add | sub | mul | min | max | abs | neg | sw | swu | ws | wus | eq | lt | le
  deriving DecidableEq, Repr

def fpuOps : List FpuOp := [.add, .sub, .mul, .min, .max, .abs, .neg, .sw, .swu, .ws, .wus, .eq, .lt, .le]

/-- A comparison's result: 1 or 0. -/
def fBool (b : Bool) : Word := if b then 1#32 else 0#32

/-- Result and flags of an FPU operation on the operand and the trigger value. -/
def fpuRes (op : FpuOp) (o t : Word) : Word × Nat :=
  let a := fRead o
  let b := fRead t
  let nan := fIsNan a || fIsNan b
  match op with
  | .add => fAdd a b
  | .sub => fAdd a (fFlip b)
  | .mul => fMul a b
  | .min => fMinMax false o t
  | .max => fMinMax true o t
  | .abs => (t &&& 0x7FFFFFFF#32, 0)
  | .neg => (t ^^^ 0x80000000#32, 0)
  | .sw => fRound (decide (t.toInt < 0)) t.toInt.natAbs 0
  | .swu => fRound false t.toNat 0
  | .ws => fToInt (-(2 ^ 31)) (2 ^ 31 - 1) t
  | .wus => fToInt 0 (2 ^ 32 - 1) t
  | .eq => (fBool (!nan && !(fLess a b) && !(fLess b a)), if fSig a || fSig b then fInvalid else 0)
  | .lt => (fBool (!nan && fLess a b), if nan then fInvalid else 0)
  | .le => (fBool (!nan && !(fLess b a)), if nan then fInvalid else 0)

end Sys2Proof.Machine
end

