-- ==== Sys2Proof/Machine/Operands.lean ====
section
/-! DEFINITION. The operand forms of the Buzhail cores (R257 to R263, R279 to R282): parcels, issue groups, ports with their direction by core
type, extensions, and the steps of the decode table. -/
namespace Sys2Proof.Machine

/-- Whether a processor is a Buzhail-S: the Warden and the legal core (R257). -/
def coreSmall (c : Nat) : Bool := decide (8 ≤ c)

/-- The source of a move: a port, or a value that the parcel holds. -/
inductive Src where
  | port (n : Nat)
  | value (w : Word)
  deriving DecidableEq, Repr

/-- A move as decoded: destination, extension, source, guard and inversion (guard 0 without inversion for unconditional moves), and whether it
is a Long A parcel. -/
structure RawMove where
  dst : Nat
  ext : Nat
  src : Src
  guard : Nat
  inv : Bool
  longA : Bool
  deriving DecidableEq, Repr

/-- An unconditional move. -/
def plainMove (dst ext : Nat) (src : Src) : RawMove := ⟨dst, ext, src, 0, false, false⟩

/-- A short parcel (R261). -/
def shortMove (h : Nat) : RawMove :=
  plainMove (bits h 8 7) 0 (if bitAt h 7 then .value (intWord (toSigned 7 (bits h 0 7))) else .port (bits h 0 7))

/-- A long parcel of form A or B (R261); an armed immediate-high latch gives bits [31:21] of form A's immediate (R274). -/
def longMove (w : Nat) (latch : Option Nat) : RawMove :=
  if bitAt w 30 then ⟨bits w 17 9, bits w 0 8, .port (bits w 8 9), bits w 27 3, bitAt w 26, false⟩
  else
    let imm := match latch with
      | some v => natWord (v % 2048 * 2 ^ 21 + bits w 0 21)
      | none => intWord (toSigned 21 (bits w 0 21))
    ⟨bits w 21 9, 0, .value imm, 0, false, true⟩

/-- An issue group: its moves and its length in bytes (R260), from the halfword at the fetch address and the next one. -/
def groupOf (h0 h1 : Nat) (latch : Option Nat) : List RawMove × Nat :=
  if bitAt h0 15 then ([longMove (h0 * 65536 + h1) latch], 4)
  else if bitAt h1 15 then ([shortMove h0], 2)
  else ([shortMove h0, shortMove h1], 4)

/-- A step of the decode table as a move, with the macro's argument and extension (R281). -/
def stepMove (w : Nat) (arg : Word) (ext : Nat) : RawMove :=
  let sel := bits w 18 2
  plainMove (bits w 0 9) (bits w 20 8) (if sel = 1 then .value arg else if sel = 2 then .value (natWord ext) else if sel = 3 then .value 0#32
    else .port (bits w 9 9))

/-- A step that faults with RESERVED_FIELD (R282). -/
def stepReserved (w : Nat) : Bool :=
  let d := bits w 0 9
  (decide (88 ≤ d) && decide (d ≤ 95)) || decide (496 ≤ d) || bits w 18 2 == 3

/-! ### Ports (R263, R257, R221) -/

/-- The coprocessor blocks of R280: the signal store, planes, DMA, blitter, audio queue, network queue. -/
inductive Cop where
  | ss | pl | dma | blt | aq | nq
  deriving DecidableEq, Repr

/-- The block of an assigned coprocessor port. -/
def copBlockOf (p : Nat) : Option Cop :=
  if 256 ≤ p ∧ p ≤ 260 then some .ss else if 272 ≤ p ∧ p ≤ 275 then some .pl else if 288 ≤ p ∧ p ≤ 293 then some .dma
  else if 304 ≤ p ∧ p ≤ 308 then some .blt else if 320 ≤ p ∧ p ≤ 323 then some .aq else if 336 ≤ p ∧ p ≤ 338 then some .nq else none

/-- The blocks that a processor's type has. -/
def copGranted (c : Nat) (b : Cop) : Bool :=
  if c < 8 then true else if c = 8 then b == .ss || b == .dma || b == .nq else false

/-- Whether a processor has a coprocessor port. -/
def copPort (c p : Nat) : Bool := match copBlockOf p with
  | some b => copGranted c b
  | none => false

/-- Whether a port can be read by processor c. -/
def portReads (c p : Nat) : Bool :=
  if p < 40 then true
  else if [40, 80, 93, 96, 97, 104, 120, 121, 122, 128, 129, 132, 176, 178, 179, 180, 181, 182, 183, 184, 185, 192, 194, 195, 196, 197, 198,
    199].contains p then true
  else if [60, 144, 159].contains p then !(coreSmall c)
  else if 112 ≤ p ∧ p ≤ 115 then !(c == 9)
  else [256, 260, 272, 275, 288, 293, 304, 307, 320, 321, 323, 338].contains p && copPort c p

/-- Whether a port can be written or triggered by processor c. -/
def portWrites (c p : Nat) : Bool :=
  if p < 60 then true
  else if p < 80 then !(coreSmall c)
  else if p ≤ 93 then true
  else if 96 ≤ p ∧ p ≤ 106 then true
  else if p = 107 ∨ p = 108 then !(coreSmall c)
  else if 114 ≤ p ∧ p ≤ 118 then !(c == 9)
  else if [120, 123, 127, 128, 130, 131, 176, 177, 179, 180, 181, 182, 183, 184, 185, 193, 194, 197, 198, 199].contains p then true
  else if 144 ≤ p ∧ p ≤ 159 then !(coreSmall c)
  else if p = 200 then !(c == 9)
  else if 496 ≤ p ∧ p < 512 then true
  else !([260, 275, 293, 307, 323, 338].contains p) && copPort c p

/-- Whether a destination defines an extension value (R261, R279, R280, R372). -/
def extDefined (p e : Nat) : Bool :=
  if 496 ≤ p then true
  else if p = 257 ∨ p = 336 then decide (e ≤ 1)
  else if p = 273 then decide (1 ≤ e) && decide (e ≤ 0x12)
  else if p = 274 then decide (1 ≤ e % 128) && decide (e % 128 ≤ 0x12)
  else if 289 ≤ p ∧ p ≤ 292 then decide (e < 16)
  else if p = 322 then decide (1 ≤ e) && decide (e ≤ 8)
  else e == 0

/-- A step that would fault whatever the core's state (R282, R284): reserved, of a port that R263 does not assign so, or with an extension that its
destination does not define. -/
def stepBad (c w : Nat) : Bool :=
  let m := stepMove w 0#32 0
  stepReserved w || !(portWrites c m.dst) || !(extDefined m.dst m.ext) || (match m.src with
    | .port p => !(portReads c p)
    | .value _ => false)

/-- The units of R264 and R259 behind a trigger port; two triggers of one unit in a group are one operation. -/
def unitOf (p : Nat) : Option Nat :=
  if 41 ≤ p ∧ p < 60 then some 0 else if 61 ≤ p ∧ p < 80 then some 1 else if 105 ≤ p ∧ p ≤ 108 then some 2
  else if (81 ≤ p ∧ p ≤ 87) ∨ p = 127 then some 3 else if p = 130 ∨ p = 131 then some 4 else if 145 ≤ p ∧ p ≤ 158 then some 5
  else if 98 ≤ p ∧ p ≤ 103 then some 6 else if 88 ≤ p ∧ p ≤ 92 then some 7 else none

/-- Width and direction of a load or store port: bytes, store, sign extension. -/
def accessOf (p : Nat) : Option (Nat × Bool × Bool) :=
  if p = 81 then some (4, false, false) else if p = 82 then some (2, false, false) else if p = 83 then some (1, false, false)
  else if p = 84 then some (2, false, true) else if p = 85 then some (1, false, true) else if p = 86 then some (4, true, false)
  else if p = 87 then some (2, true, false) else if p = 127 then some (1, true, false) else none

/-- Whether a port moves the core to another group: the branch unit. -/
def isBranch (p : Nat) : Bool := p == 88 || p == 89 || p == 90

end Sys2Proof.Machine
end

