-- ==== Sys2Proof/Machine/DictWrite.lean ====
section
/-! DEFINITION. Writing the dictionary (16, 20): owners, the checks of a local store and of a COP write, what a write of each entry does, and writes of
several paths in one clock. -/
namespace Sys2Proof.Machine

/-! ### Writers and owners (R419) -/

/-- The processor behind a writer, by a store or by the local request path (R417). -/
def writerProc : Writer → Option Nat
  | .proc p => some p.val
  | .cop (.proc p) => some p.val
  | _ => none

/-- A write by COP, the local path included. -/
def writerCop : Writer → Bool
  | .cop _ => true
  | _ => false

/-- The processor that an entry serves, where its owner is that processor (R27, R364, R368, R479). -/
def servedProc (s : State) (idx sub : Nat) : Nat :=
  if idx = 0x2102 then pinOwner s sub else if idx = 0x2103 then patOwner s (sub / 16) else if idx = 0x2480 then sub - 16 else sub

/-- Whether a writer may write an entry; in the safe service state PWR_RESTART has no owner to serve it (R419, R422, R437). -/
def mayWrite (s : State) (r : DictRow) (idx sub : Nat) (w : Writer) (keyed : Bool) : Bool := match r.owner with
  | .any => true
  | .warden => writerProc w == some 8 || (s.pwr.safe && idx == 0x2040 && sub == 0x0A)
  | .own => writerProc w == some (servedProc s idx sub)
  | .keyed => keyed || writerProc w == some 8

/-- A write refused for its owner (R419). -/
def notOwner (s : State) : State := setFlag (bump s (entryKey 0x1200 0x11)) (entryKey 0x1200 3) 1

/-! ### What a write does -/

/-- A write to CORE_MC_DATA (R281, R284): refused while the core runs or its table is locked, else stored and checked. -/
def mcDataWrite (s : State) (cop : Bool) (c v : Nat) : State × Nat :=
  let x := coreOf s c
  if x.lock || x.run == 1 || x.run == 2 then (if cop then (s, 3) else (setFlag s (coreKey c 8) 1, 0))
  else
    let sel := fld s (coreKey c 2) 0 9
    let s1 := setCore s c { x with mc := mapSet (fun _ => 0x10000000#32) x.mc sel (natWord (v % 2 ^ 29)) }
    (if stepBad c v then setFld s1 (coreKey c 4) 1 10 (1 + 2 * sel) else s1, 0)

/-- PWR_RESTART (R434 to R436). -/
def restartReq (s : State) (kind : Nat) : State := if kind = 0 then warmStart s else if kind = 1 then coldStart s else powerCycle s

/-- A write to a wo entry whose content is accepted: its action and, by COP, the status it answers. -/
def woAct (s : State) (w : Writer) (who : Option CopHdr) (idx sub v : Nat) : State × Nat :=
  let cop := writerCop w
  let go := bitAt v 0
  let whenGo (t : State) : State × Nat := (if go then t else s, 0)
  if isArm (entryKey idx sub) then (stagedStore s ⟨entryKey idx sub, 1, v, none⟩, 0)
  else if idx = 0x1200 then dictSave s v who
  else if idx = 0x1232 then whenGo (appDone s sub)
  else if idx = 0x2040 then
    (if sub = 2 then stateReq s (bits v 0 2) (bitAt v 2) else if sub = 5 then domainReq s (bits v 0 5) (bitAt v 8) cop
    else if sub = 9 then whenGo (bootOk s) else (restartReq s (bits v 0 2), 0))
  else if idx = 0x2045 then ({ s with raised := s.raised ++ [4000 + 8 * bits v 0 6 + bits v 8 3] }, 0)
  else if idx = 0x2080 then (ringDoorbell s (bits v 0 8), 0)
  else if idx = 0x20C0 then
    (if sub = 1 then tmGroupStart s (setBits 32 v) else if sub = 2 then tmGroupStop s (setBits 32 v)
    else if sub = 3 then tmStagger s (bits v 0 5) (bits v 8 6) else if sub = 4 then tmGroupStart s ((setBits 8 v).map (· + 32))
    else tmGroupStop s ((setBits 8 v).map (· + 32)), 0)
  else if 0x2150 ≤ idx ∧ idx < 0x2160 then
    (if cop && go && chState s (idx - 0x2150) == 1 then (s, 3) else (chCommand s (idx - 0x2150) v cop, 0))
  else if idx = 0x2180 then
    (if cop && go && bltRuns s then (s, 3)
    else let s1 := if go then bltRun s (bltList s) cop else s; (if bitAt v 1 then bltAbort s1 else s1, 0))
  else if idx = 0x21C0 then (if sub = 0x0A then setN s (entryKey idx sub) v else tbSetHi s v, 0)
  else if idx = 0x2200 then (ssClearReq s v, 0)
  else if idx = 0x22C8 then (commitReq s v, 0)
  else if idx = 0x2340 then whenGo (hpTrain s)
  else if idx = 0x2400 then
    (if audFull s then (s, if cop then 3 else 0)
    else (audPush s (pairN s (entryKey 0x2400 0x10) (entryKey 0x2400 0x11)) (regN s (entryKey 0x2400 0x12)) v, 0))
  else if idx = 0x2440 then (perfCmd s v, 0)
  else if idx = 0x2444 then stRequest s v cop who
  else if idx = 0x24C2 then whenGo (if sub = 4 then outAck s else idRequest s)
  else if idx = 0x2900 then lcRequest s v false
  else (s, 0)

/-- Records the value last written to an rw entry (R439). -/
def shadowSet (s : State) (k v : Nat) : State := setPwr s { s.pwr with shadow := mapSet (fun _ => none) s.pwr.shadow k (some (natWord v)) }

/-- A write to an rw entry: `value` replaces the bits of `mask`. -/
def rwAct (s0 : State) (cop : Bool) (idx sub mask value : Nat) : State × Nat :=
  let k := entryKey idx sub
  let new := maskClear (regN s0 k) mask ||| value
  let s := shadowSet s0 k new
  match coreOfIdx idx with
  | some c => if sub = 3 then mcDataWrite s0 cop c value else (setN s k new, 0)
  | none =>
  if isStaged k then (stagedStore s ⟨k, mask, value, none⟩, 0)
  else if 0x2084 ≤ idx ∧ idx < 0x2088 then
    let src := (idx - 0x2084) * 256 + sub
    (if enginePresent s.variant (sourceEngine src) then routeWritten s src new else s0, 0)
  else if 0x20D0 ≤ idx ∧ idx < 0x20F8 then (tmWrite s (if idx < 0x20F0 then idx - 0x20D0 else idx - 0x20F0 + 32) sub new, 0)
  else if idx = 0x2100 then (patGrantWritten s new, 0)
  else if idx = 0x2101 then (pinMuxWritten s sub new, 0)
  else if idx = 0x2102 then (icRelevel (pinCfgWritten s sub new) (592 + sub), 0)
  else if idx = 0x2103 then (patWritten s (sub / 16) k new, 0)
  else if idx = 0x22C8 ∧ sub = 3 then
    let s1 := setN s k (new % 2 ^ 31)
    (if bitAt value 31 then modeSubmit s1 (new % 2 ^ 31) else s1, 0)
  else if idx = 0x2340 ∧ sub = 3 then
    let (f, s1) := drawFree s
    (auxAccess s1 (BitVec.ofNat 8 new) true (if f % 2 = 0 then none else some (BitVec.ofNat 8 (f / 2))), 0)
  else if idx = 0x2384 ∧ sub = 2 then
    (if mask = 0 then s0 else { s with gfx := { s.gfx with coefStaged := mapSet coefReset s.gfx.coefStaged (coefKey s) (toSigned 16 new) } }, 0)
  else if idx = 0x2415 then (tdmPins s (tdmWritten s sub new) sub, 0)
  else (setN s k new, 0)

/-- A write of a word whose content is accepted. -/
def wordAct (s : State) (w : Writer) (who : Option CopHdr) (r : DictRow) (idx sub mask value : Nat) : State × Nat := match r.acc with
  | .w1c => (if idx = 0x2088 then pendingClear s sub value else clearFlags s (entryKey idx sub) value, 0)
  | .wo => woAct s w who idx sub value
  | .rw => rwAct s (writerCop w) idx sub mask value
  | _ => (s, 0)

/-- A write of a STR or DOMAIN entry by one message: keys of 32 bytes, addresses of 16, legal messages of 1 to 256, fuses; a slot image needs a
segmented transfer (R222, R408, R422, R438, R444). -/
def blobAct (s : State) (idx sub : Nat) (b : List Byte) : State × Nat :=
  if idx = 0x1100 then (if b.length = 16 then (blobSet s (entryKey idx sub) b, 0) else (s, 2))
  else if idx = 0x1102 then (if b.length = 32 then (blobSet s (entryKey idx sub) b, 0) else (s, 2))
  else if idx = 0x24C2 then
    (if b.isEmpty || decide (256 < b.length) then (s, 2) else if s.bm.inFull || s.bm.state == bmOff then (s, 3) else (msgIn s b, 0))
  else if idx = 0x2900 then fuseProg s b none
  else (s, 10)

/-! ### Local stores (R12, R25, R419, R420) -/

/-- Whether a local store to an entry is accepted by its row, its power and its owner, apart from its content. -/
def localReaches (s : State) (idx sub : Nat) : Option DictRow := match dictRow? idx sub with
  | some r => if entryAbsent s idx sub || !(entryPowered s r idx sub true) || isBytes r.typ || r.typ == .u64 || entryOffline s idx sub then none
      else some r
  | none => none

/-- A local store of a processor reaches an entry. A store that faults, or holds for an engine at step 2, changes nothing here. A store to a current copy
that has a staged twin is a store to a read-only entry (R12, R96): it is discarded and counted, though R42 row 1 names one that takes effect (DEDUCED,
log 107). -/
def localWrite (s : State) (p : Fin 9) (idx sub v : Nat) : State := match localReaches s idx sub with
  | none => s
  | some r =>
    if r.acc = .ro then bump s (entryKey 0x1200 0x10)
    else if r.acc = .rs then s
    else if !(mayWrite s r idx sub (.proc p) false) then notOwner s
    else
      let c := checkWrite s r idx sub v
      let s1 := if c.rsvd then rsvdWrite s idx else s
      let s2 := if c.cfg then cfgError s1 idx else s1
      if c.cfg && r.acc == .wo then s2 else (wordAct s2 (.proc p) none r idx sub c.mask c.value).1

/-! ### COP writes (R408, R476) -/

/-- One entry of a COP write: the status of the first check that fails, with the state a refusal leaves, or 0 with the state after the write. -/
def copEntry (s : State) (w : Writer) (h : Option CopHdr) (idx sub : Nat) (v : CopValue) : State × Nat :=
  let st := reachStatus s idx sub true
  if st ≠ 0 then (s, st)
  else match dictRow? idx sub with
  | none => (s, 7)
  | some r =>
    let who := h.filter (fun x => x.replyReq)
    if r.acc = .ro then (s, 8)
    else if !(mayWrite s r idx sub w (match h with
      | some x => x.key == some 0
      | none => false)) then (notOwner s, 4)
    else match v with
    | .bytes b => if !(isBytes r.typ) then (s, 9) else if entryOffline s idx sub then (s, 3) else blobAct s idx sub b
    | .word x =>
      if isBytes r.typ then (s, 9)
      else if r.acc = .rs then (s, 0)
      else
        let c := checkWrite s r idx sub x.toNat
        if c.rsvd || c.cfg then (s, 2) else if entryOffline s idx sub then (s, 3) else wordAct s w who r idx sub c.mask c.value

/-- The first entry of a block that fails: its subindex, with the state the refusal leaves and the status. -/
def blockFail (s : State) (w : Writer) (h : Option CopHdr) (idx : Nat) : Nat → List CopValue → Option (Nat × State × Nat)
  | _, [] => none
  | sub, v :: vs =>
    let (t, st) := copEntry s w h idx sub v
    if st = 0 then blockFail s w h idx (sub + 1) vs else some (sub, t, st)

/-- The writes of an accepted block, in one clock. -/
def blockApply (s : State) (w : Writer) (h : Option CopHdr) (idx : Nat) : Nat → List CopValue → State
  | _, [] => s
  | sub, v :: vs => blockApply (copEntry s w h idx sub v).1 w h idx (sub + 1) vs

/-- A value of bytes. -/
def isBlob : CopValue → Bool
  | .bytes _ => true
  | .word _ => false

/-- A COP WRITE of a block: checked in full, then written; the status and the failing subindex. -/
def copBlock (s : State) (w : Writer) (h : Option CopHdr) (idx sub : Nat) (vs : List CopValue) : State × Nat × Nat :=
  if decide (1 < vs.length) && vs.any isBlob then (s, 9, sub)
  else match blockFail s w h idx sub vs with
    | some (n, t, st) => (t, st, n)
    | none => (blockApply s w h idx sub vs, 0, 0)

/-! ### Writes of one clock (R409) -/

/-- The precedence of a path: the SPI host over the network over local writers. -/
def pathRank : Writer → Nat
  | .cop .spi => 2
  | .cop (.port _) => 1
  | _ => 0

/-- Whether a write passes the checks and so takes part in R409. -/
def writePasses (s : State) (q : DictReq) : Bool := match q.writer with
  | .bellmetal => false
  | .proc p => match localReaches s q.idx q.sub with
    | some r => !(r.acc == .ro) && !(r.acc == .rs) && mayWrite s r q.idx q.sub (.proc p) false
    | none => false
  | .cop path => (copEntry s (.cop path) none q.idx q.sub (.word q.value)).2 == 0

/-- One write of a clock, without a rival. -/
def writeOne (s : State) (q : DictReq) : State := match q.writer with
  | .proc p => localWrite s p q.idx q.sub q.value.toNat
  | .cop path => (copEntry s (.cop path) none q.idx q.sub (.word q.value)).1
  | .bellmetal => s

/-- A write that loses to a write of higher precedence (R409). -/
def writeLoses (s : State) (ws : List DictReq) (q : DictReq) : Bool :=
  writePasses s q && ws.any (fun x => x.idx == q.idx && x.sub == q.sub && decide (pathRank q.writer < pathRank x.writer) && writePasses s x)

/-- The writes of one clock: every loser is counted and flagged, the others take effect. -/
def dictClock (s : State) (ws : List DictReq) : State :=
  let lost := ws.filter (writeLoses s ws)
  let s1 := (ws.filter (fun q => !(writeLoses s ws q))).foldl writeOne s
  lost.foldl (fun t _ => setFlag (bump t (entryKey 0x1200 0x12)) (entryKey 0x1200 3) 2) s1

/-- A write of one entry, alone in its clock. -/
def dictPut (s : State) (w : Writer) (idx sub : Nat) (v : Word) : State := dictClock s [⟨w, idx, sub, v⟩]

end Sys2Proof.Machine
end

