-- ==== Sys2Proof/Machine/Settle.lean ====
section
/-! DEFINITION. What follows from the sources, events and wakes of one command (12, 16, 17, 19): subscriptions, performance counters, health bits, ladder
incidents and wake causes. Every command's meaning ends here. -/
namespace Sys2Proof.Machine

/-! ### Values in messages and subscriptions (R408, R412) -/

/-- A value in a message. -/
def valueBytes (t : EntryType) (w : Word) : List Byte := match t with
  | .u64 => toBytes 8 w.toNat
  | _ => toBytes 4 w.toNat

/-- The bytes of a STR or DOMAIN entry in a message. -/
def blobBytes (b : List Byte) : List Byte := toBytes 2 b.length ++ toBytes 2 0 ++ b ++ List.replicate ((4 - b.length % 4) % 4) 0#8

/-- A subscription's memory. -/
def subOf (s : State) (n : Nat) : SubState := mapGet (fun _ => {}) s.net.subs n
def setSub (s : State) (n : Nat) (x : SubState) : State := setNet s { s.net with subs := mapSet (fun _ => {}) s.net.subs n x }

/-- SUB_CFG, SUB_TARGET, SUB_DEST of subscription n. -/
def subCfg (s : State) (n : Nat) : Nat := regN s (entryKey (0x1300 + n) 1)
def subTarget (s : State) (n : Nat) : Nat := regN s (entryKey (0x1300 + n) 2)
def subDest (s : State) (n : Nat) : Nat := regN s (entryKey (0x1300 + n) 3)

/-- Whether subscription n runs with a KIND. -/
def subRuns (s : State) (n : Nat) (kind : Bool) : Bool := domainOn s 8 && bitAt (subCfg s n) 0 && bitAt (subCfg s n) 1 == kind

/-- MIN_INTERVAL has passed since the last event. -/
def subReady (s : State) (n : Nat) : Bool := match (subOf s n).lastTime with
  | none => true
  | some t => decide (t + bits (subCfg s n) 16 16 * 1000000 ≤ s.tb.ns)

/-- Sends the EVENT of subscription n, with a time and the value's bytes (R412). -/
def subSend (s : State) (n time idx sub : Nat) (value : List Byte) (v : Nat) : State :=
  let d := subDest s n
  let x := subOf s n
  let body := toBytes 1 n ++ toBytes 1 (bits (subCfg s n) 1 1) ++ toBytes 2 x.missed ++ toBytes 8 time ++ toBytes 2 idx ++ toBytes 1 sub ++
    toBytes 1 0 ++ value
  sendMsg (setSub s n { last := some v, lastTime := some s.tb.ns }) ⟨.port 0, bits d 12 2, bits d 0 12, 4, false, 0, none, 0, 0, body⟩

/-- A source that subscription n watches asserts: an event, or one merged into the next (R412). -/
def subSource (src : Nat) (s : State) (n : Nat) : State :=
  if !(subRuns s n true) || !(subTarget s n % 1024 == src) then s
  else if subReady s n then subSend s n s.tb.ns (subTarget s n % 65536) 0 (toBytes 4 src) src
  else setSub s n { subOf s n with missed := (subOf s n).missed + 1, due := some s.tb.ns }

/-- SUB_SAMPLE: a KIND 0 subscription samples its entry; a KIND 1 subscription sends an event that fell due inside its interval (R412). -/
def subSample (s : State) (n : Nat) : State :=
  let t := subTarget s n
  let x := subOf s n
  if subRuns s n true then
    match x.due with
    | some time => if subReady s n then subSend s n time (t % 65536) 0 (toBytes 4 (t % 1024)) (t % 1024) else s
    | none => s
  else if subRuns s n false then
    let idx := t % 65536
    let sub := bits t 16 8
    if !(reachStatus s idx sub false == 0) then s
    else match dictRow? idx sub with
    | none => s
    | some r =>
      let b := if isBytes r.typ then blobBytes (entryBytes s idx sub) else valueBytes r.typ (entryValue s r idx sub)
      let v := ofBytes b
      if x.last = some v then s
      else if subReady s n then subSend s n s.tb.ns idx sub b v
      else if x.due = some v then s
      else setSub s n { x with missed := x.missed + 1, due := some v }
  else s

/-! ### Performance counters (R463 to R465) -/

/-- An assertion of a source in its engine's counters: SRC_ANY, and SRC_k where it counts pulses or edges. -/
def perfSource (s : State) (src : Nat) : State :=
  let e := src / 16
  if !(decide (src < 592)) || !(domainOn s 8) || !(enginePresent s.variant e) then s
  else (List.range 4).foldl (fun t k =>
    let sel := regN t (perfSelKey (4 * e + k))
    if bits sel 0 8 = 0x10 + src % 16 ∧ (bitAt sel 8 ∨ isEventSource t src) then perfAdd t (4 * e + k) 1 else t) (perfCount s e 2 1)

/-- One engine clock in a counter that counts levels: CLOCK and a flag source's SRC_k (R463, R464). -/
def perfLevel (s : State) (e : Nat) : State :=
  if !(engineOn s e) then s
  else (List.range 4).foldl (fun t k =>
    let sel := regN t (perfSelKey (4 * e + k))
    let c := bits sel 0 8
    if bitAt sel 8 then t
    else if c = 1 ∨ (16 ≤ c ∧ c < 32 ∧ !(isEventSource t (16 * e + c - 16)) ∧ flagSignal t (16 * e + c - 16)) then perfAdd t (4 * e + k) 1
    else t) s

/-! ### What a command leaves to be done -/

/-- A health event bit (R471). -/
def healthSet (s : State) (b : Nat) : State := { s with health := { s.health with now := s.health.now ||| 2 ^ b } }

/-- An assertion of a source apart from the recovery ladder. -/
def sourceNoted (s : State) (src : Nat) : State :=
  let s1 := perfSource s src
  let s2 := match healthBit src with
    | some b => healthSet s1 b
    | none => s1
  (List.range 64).foldl (subSource src) s2

/-- Whether an assertion of a source is an incident of its engine (R439). -/
def isIncident (s : State) (src : Nat) : Bool :=
  decide (src < 592) && enginePresent s.variant (src / 16) && flag s (entryKey 0x2042 (src / 16)) (src % 16)

/-- An incident whose device-wide step is kept: the highest of the command's (R440). The step of an incident on source 18 asserts that source
again; that assertion is no further incident (DESIGN CHOICE, log 34). -/
def takeIncident (a : State × Nat) (e : Nat) (i : Incident) : State × Nat :=
  let before := a.1.raised
  let (t, step) := incident { a.1 with raised := [] } e i
  let added := if e = 1 then t.raised.map (fun r => if r = 18 then 6000 else r) else t.raised
  ({ t with raised := before ++ added }, max a.2 step)

/-- One noted item: a source, a lockup (2000 + e), a health event (3000 + b), REC_CMD (4000 + 8e + step), the Warden watchdog (5000), or source 18
of engine 1's own step (6000). -/
def settleOne (a : State × Nat) (r : Nat) : State × Nat :=
  if r < 2000 then
    let t := sourceNoted a.1 r
    if isIncident t r then takeIncident (t, a.2) (r / 16) (.source r) else (t, a.2)
  else if r < 3000 then
    let b := takeIncident a (r - 2000) .lockup
    if b.1.pwr.bootWait then (startFails b.1, b.2) else b
  else if r < 4000 then (healthSet a.1 (r - 3000), a.2)
  else if r < 5000 then takeIncident a ((r - 4000) / 8) (.cmd ((r - 4000) % 8))
  else if r < 6000 then takeIncident a 0 .watchdog
  else (sourceNoted a.1 18, a.2)

/-- The noted items in rounds, until none is left. -/
def settleRounds : Nat → State × Nat → State × Nat
  | 0, a => a
  | n + 1, a => if a.1.raised.isEmpty then a else settleRounds n (a.1.raised.foldl settleOne ({ a.1 with raised := [] }, a.2))

/-- A halt or resume of the Warden that a debugger asked for during a transition or a recovery step takes place at its end (R454); only a reset leaves a lockup (R304). -/
def lateHalt (s : State) : State := match s.sec.late with
  | none => s
  | some h =>
    if s.pwr.trans.isSome || s.pwr.resuming || recovering s then s
    else
      let t := { s with sec := { s.sec with late := none, halted := if h then s.sec.halted ++ [8] else s.sec.halted.filter (fun k => !(k == 8)) } }
      if h then haltCore t 8 else if (coreOf t 8).lockup then t else setCore t 8 { coreOf t 8 with run := 1 }

/-- The delayed replies of block writes, once the held writes have taken effect (R181). -/
def owedReplies (s : State) : State :=
  if s.raster.inWindow || !s.raster.held.isEmpty then s
  else s.net.stagedOwed.foldl (fun t h => replyStatus t h 2 0 0) (setNet s { s.net with stagedOwed := [] })

/-- The end of a command: everything that its sources, events and wakes bring about; the model's own lists are empty afterwards. -/
def settle (s : State) : State :=
  let a := settleRounds 16 (owedReplies (bmSync s), 0)
  let s1 := if a.2 = 0 then a.1 else deviceStep a.1 a.2
  let s2 := s1.woken.foldl wakeCause { s1 with woken := [] }
  let s3 := (settleRounds 16 (s2, 0)).1
  let s4 := s3.counted.foldl (fun t c => perfCount t c.1 c.2.1 c.2.2) { s3 with counted := [] }
  lateHalt { s4 with raised := [], counted := [], woken := [] }

/-- The end of a meaning. -/
def finish (s : State) : Host.Outcome State Fault Refusal := .next (settle s)

end Sys2Proof.Machine
end

