-- ==== Sys2Proof/Machine/Cop.lean ====
section
/-! DEFINITION. COP messages (16): accepting a message from any path, reading and writing blocks, segmented transfers, signal frames, paging and polling. -/
namespace Sys2Proof.Machine

/-! ### READ and WRITE (R408, R475 to R478) -/

/-- The requester of a message, for snapshots (R13). -/
def msgRequester (h : CopHdr) : Nat := match h.path with
  | .proc p => p.val
  | .spi => 16
  | .port _ => 32 + h.src

/-- An application-defined index. -/
def isAppIdx (idx : Nat) : Bool := decide (0x3000 ≤ idx) && decide (idx < 0x4000)

/-- A malformed message (R406, R420): counted, and answered BAD_MSG where a reply is due. -/
def badMsg (s : State) (h : CopHdr) (typ : Nat) : State := replyStatus (msgError s) h typ 9 0

/-- The status of reading one entry by COP. -/
def readStatus (s : State) (idx sub : Nat) : Nat :=
  if 255 < sub then 7
  else if reachStatus s idx sub false ≠ 0 then reachStatus s idx sub false
  else if entryOffline s idx sub then 3 else 0

/-- Whether an entry holds bytes. -/
def blobEntry (idx sub : Nat) : Bool := match dictRow? idx sub with
  | some r => isBytes r.typ
  | none => false

/-- The value of one readable entry in a READ reply. -/
def readValue (s : State) (who idx sub : Nat) : List Byte × State := match dictRow? idx sub with
  | none => ([], s)
  | some r =>
    if isBytes r.typ then (blobBytes (entryBytes s idx sub), s)
    else if r.acc = .rs then (valueBytes r.typ (entryValue s r idx sub), s)
    else let (w, t) := entryRead s who r idx sub; (valueBytes r.typ w, t)

/-- The values of a block, in order. -/
def readBlock (who idx : Nat) : Nat → Nat → State → List Byte × State
  | 0, _, s => ([], s)
  | n + 1, sub, s =>
    let (b, t) := readValue s who idx sub
    let (bs, u) := readBlock who idx n (sub + 1) t
    (b ++ bs, u)

/-- A READ (R408): rs subindexes come from one capture, and a snapshot that the requester held is consumed (R13). -/
def copRead (s : State) (h : CopHdr) (idx sub count : Nat) : State :=
  let who := msgRequester h
  let subs := (List.range count).map (· + sub)
  let answer (t : State) (st fail : Nat) (v : List Byte) : State := reply t h 1 st (toBytes 1 st ++ toBytes 1 fail ++ toBytes 2 0 ++ v)
  if count = 0 ∨ 64 < count then badMsg s h 1
  else if isAppIdx idx then
    (if s.pwr.safe then answer s 12 sub [] else if 256 < sub + count then answer s 7 0 [] else appRequest s ⟨h, idx, sub, count, false, [], 0⟩)
  else match subs.find? (fun k => !(readStatus s idx k == 0)) with
  | some k => answer s (readStatus s idx k) k []
  | none =>
    if subs.any (blobEntry idx) && decide (1 < count) then badMsg s h 1
    else
      let s1 := if subs.any (fun k => (rsSubs idx).contains k) then dropSnap s who idx else s
      let (v, s2) := readBlock who idx count sub s1
      if blobEntry idx sub && decide (1024 < (entryBytes s idx sub).length) then answer s2 10 sub [] else answer s2 0 0 v

/-- The words of a block's values. -/
def valueWords : List CopValue → List Word
  | [] => []
  | .word w :: vs => w :: valueWords vs
  | .bytes b :: vs => natWord (ofBytes (b.take 4)) :: valueWords vs

/-- Whether a block write to staged entries holds writes beyond the 64 of the window: its reply is delayed until C_f + 1 (R181). -/
def beyondHeld (s : State) (idx sub n : Nat) : Bool :=
  s.raster.inWindow && decide (64 < s.raster.held.length) && (List.range n).any (fun i => isStaged (entryKey idx (sub + i)))

/-- A WRITE (R408, R420). -/
def copWrite (s : State) (h : CopHdr) (idx sub : Nat) (vs : List CopValue) : State :=
  if vs.isEmpty || decide (64 < vs.length) then badMsg s h 2
  else if isAppIdx idx then
    (if vs.any isBlob then badMsg s h 2 else if s.pwr.safe then replyStatus s h 2 12 sub
    else if 256 < sub + vs.length then replyStatus s h 2 7 0 else appRequest s ⟨h, idx, sub, vs.length, true, valueWords vs, 0⟩)
  else
    let (t, st, fail) := copBlock s (.cop h.path) (some h) idx sub vs
    if st = 9 then badMsg t h 2
    else if st = 0 && beyondHeld t idx sub vs.length then setNet t { t.net with stagedOwed := t.net.stagedOwed ++ [h] }
    else replyStatus t h 2 st fail

/-- The values of a WRITE body by the types of their entries. -/
def parseValues (idx : Nat) : Nat → Nat → List Byte → Option (List CopValue)
  | 0, _, b => if b.isEmpty then some [] else none
  | n + 1, sub, b => match dictRow? idx sub with
    | some r =>
      if isBytes r.typ then
        let len := ofBytes (b.take 2)
        if b.length < 4 + (len + 3) / 4 * 4 then none
        else (parseValues idx n (sub + 1) (b.drop (4 + (len + 3) / 4 * 4))).map (fun vs => .bytes ((b.drop 4).take len) :: vs)
      else
        let w := if r.typ = .u64 then 8 else 4
        if b.length < w then none else (parseValues idx n (sub + 1) (b.drop w)).map (fun vs => .word (natWord (ofBytes (b.take w))) :: vs)
    | none => if b.length < 4 then none else (parseValues idx n (sub + 1) (b.drop 4)).map (fun vs => .word (natWord (ofBytes (b.take 4))) :: vs)

/-! ### Segmented transfers (R411, R437, R438) -/

/-- A transfer's identity: its path, sender and tag. -/
def sameTransfer (t : Transfer) (h : CopHdr) : Bool := t.hdr.path == h.path && t.hdr.src == h.src && t.hdr.tag == h.tag

/-- Replaces the transfer of a requester, or removes it. -/
def putTransfer (s : State) (h : CopHdr) (x : Option Transfer) : State :=
  setNet s { s.net with transfers := s.net.transfers.filterMap (fun t => if sameTransfer t h then x else some t) }

/-- The status of opening a transfer. -/
def segStatus (s : State) (h : CopHdr) (idx sub dir : Nat) : Nat :=
  let st := reachStatus s idx sub (dir == 0)
  if st ≠ 0 ∧ !(st == 12 && dir == 0 && idx == 0x2046) then st
  else match dictRow? idx sub with
  | none => 7
  | some r =>
    if dir = 0 ∧ r.acc = .ro then 8
    else if dir = 0 ∧ mayWrite s r idx sub (.cop h.path) (h.key == some 0) = false then 4
    else if !(r.typ == .domain) then 9
    else if entryOffline s idx sub || decide (4 ≤ s.net.transfers.length) || s.net.transfers.any (fun t => t.idx == idx && t.sub == sub) then 3
    else if dir = 0 ∧ idx = 0x2046 ∧ s.pwr.safe = false ∧ fld s kPwrBoot 3 1 = sub - 1 then 3
    else 0

/-- The reply to SEG_START. -/
def segReply (s : State) (h : CopHdr) (st : Nat) (tail : List Byte) : State :=
  reply s h 5 st (toBytes 1 st ++ toBytes 2 1024 ++ toBytes 1 8 ++ tail)

/-- The segment at an offset of a transfer from the device. -/
def segment (t : Transfer) (off : Nat) : List Byte := toBytes 4 off ++ (t.data.drop off).take 1024

/-- The device sends the window from the lowest offset not yet acknowledged; the local path has one reply for one segment. -/
def sendWindow (s : State) (t : Transfer) : State :=
  if isLocal t.hdr.path then s
  else ((List.range 8).map (fun i => t.next + 1024 * i)).foldl
    (fun u off => if off < t.total then sendMsg u ⟨t.hdr.path, 0, t.hdr.src, 6, false, t.hdr.tag, t.hdr.key, 0, 0, segment t off⟩ else u) s

/-- SEG_START. -/
def segStart (s : State) (h : CopHdr) (idx sub dir total crc : Nat) : State :=
  if 1 < dir then badMsg s h 5
  else
    let st := segStatus s h idx sub dir
    if st = 9 then badMsg s h 5
    else if st ≠ 0 then
      (if st = 4 then segReply (notOwner s) h st [] else segReply s h st [])
    else if dir = 0 then
      segReply (setNet s { s.net with transfers := s.net.transfers ++ [⟨h, idx, sub, false, total, crc, 0, 0, []⟩] }) h 0 []
    else
      let b := match dictRow? idx sub with
        | some r => if r.acc = .wo then [] else entryBytes s idx sub
        | none => []
      let t : Transfer := ⟨h, idx, sub, true, b.length, crc32 b, 0, 0, b⟩
      let s1 := segReply s h 0 (toBytes 4 b.length ++ toBytes 4 (crc32 b))
      if b.isEmpty then s1 else sendWindow (setNet s1 { s1.net with transfers := s1.net.transfers ++ [t] }) t

/-- SEG_ACK with NEXT; over the local path it is the reply to the segment. -/
def segAckSend (s : State) (h : CopHdr) (next : Nat) : State :=
  if isLocal h.path then reply s h 6 0 (toBytes 4 next)
  else sendMsg s ⟨h.path, 0, h.src, 7, false, h.tag, h.key, 0, 0, toBytes 4 next⟩

/-- A transfer ends with a status: nothing more is said of OK, any other status is sent as a reply of TYPE SEG_START (DESIGN CHOICE, log 35). -/
def segEnd (s : State) (h : CopHdr) (st : Nat) : State :=
  let s1 := putTransfer s h none
  if st = 0 ∨ isLocal h.path then s1 else oweMsg s1 ⟨h.path, 0, h.src, 5, true, h.tag, h.key, 0, st, toBytes 1 st ++ toBytes 2 1024 ++ toBytes 1 8⟩

/-- The whole object has arrived: the entry takes it, or the flash programming that the entry defines begins (R413, R438). -/
def segTaken (s : State) (t : Transfer) : State × Nat :=
  if !(crc32 t.data == t.crc) then (s, 11)
  else if t.idx = 0x2046 then
    (if s.net.lop.isSome then (s, 3)
    else (lopStart s 6 (if t.hdr.replyReq then some t.hdr else none) (bootSlot s (t.sub - 1)) t.data, 0))
  else blobAct s t.idx t.sub t.data

/-- SEG_DATA (R411): the segment at NEXT is kept, any other discarded. Acknowledged after every window, at every gap and at the end. -/
def segData (s : State) (h : CopHdr) (off : Nat) (b : List Byte) : State :=
  match s.net.transfers.find? (fun t => sameTransfer t h && !t.fromDevice) with
  | none => if isLocal h.path then replyStatus s h 6 11 0 else s
  | some t =>
    if 1024 < b.length then badMsg s h 6
    else if off ≠ t.next ∨ b.isEmpty then segAckSend (putTransfer s h (some { t with unacked := 0 })) h t.next
    else
      let data := (t.data ++ b).take t.total
      let t1 := { t with data := data, next := data.length, unacked := t.unacked + 1 }
      if data.length = t.total then
        let s1 := segAckSend s h data.length
        let (s2, st) := segTaken s1 t1
        segEnd s2 h st
      else if t1.unacked = 8 ∨ isLocal h.path then segAckSend (putTransfer s h (some { t1 with unacked := 0 })) h t1.next
      else putTransfer s h (some t1)

/-- SEG_ACK to the device: what it acknowledges is done; the next window follows, or the transfer ends. -/
def segAck (s : State) (h : CopHdr) (next : Nat) : State :=
  match s.net.transfers.find? (fun t => sameTransfer t h && t.fromDevice) with
  | none => if isLocal h.path then replyStatus s h 7 11 0 else s
  | some t =>
    let t1 := { t with next := max t.next (min next t.total) }
    if isLocal h.path then
      (if t1.next = t.total then reply (putTransfer s h none) h 7 0 (segment t1 t1.next) else reply (putTransfer s h (some t1)) h 7 0 (segment t1 t1.next))
    else if t1.next = t.total then putTransfer s h none
    else sendWindow (putTransfer s h (some t1)) t1

/-- 200 ms without an acknowledgement: the device resends from the last NEXT. -/
def segResend (s : State) (i : Nat) : State := match s.net.transfers[i]? with
  | some t => if t.fromDevice then sendWindow s t else s
  | none => s

/-- 5 s without progress: the transfer ends with SEG_ERROR. -/
def segTimeout (s : State) (i : Nat) : State := match s.net.transfers[i]? with
  | some t => segEnd s t.hdr 11
  | none => s

/-! ### Polling (R421) -/

/-- Whether the device polls. -/
def polls (s : State) : Bool := engineOn s 7 && regN s (entryKey 0x1200 1) == 1 && flag s (entryKey 0x1201 1) 0

/-- The record of device d in the poll table. -/
def pollRecord (s : State) (d : Nat) : Nat := (regN s (entryKey 0x1201 4) + 8 * (d - fld s (entryKey 0x1201 2) 0 12)) % sramSize

/-- The periods since the last reply of device d, one more than AGE; 0 while it was never polled. -/
def pollAge (s : State) (d : Nat) : Nat := mapGet (fun _ => 0) s.net.pollAge d
def setPollAge (s : State) (d a : Nat) : State := setNet s { s.net with pollAge := mapSet (fun _ => 0) s.net.pollAge d a }

/-- A READ of POLL_ENTRY to the next device; its record ages. -/
def pollSend (s : State) : State :=
  if !(polls s) then s
  else
    let lo := fld s (entryKey 0x1201 2) 0 12
    let hi := fld s (entryKey 0x1201 2) 16 12
    let d := if s.net.pollNext < lo ∨ hi < s.net.pollNext then lo else s.net.pollNext
    let e := regN s (entryKey 0x1201 3)
    let a := pollAge s d
    let s1 := if a = 0 then sramWrite s (pollRecord s d) (toBytes 4 0xFF) else sramWrite s (pollRecord s d + 1) (toBytes 1 (min 255 a))
    let s2 := setPollAge (setNet s1 { s1.net with pollNext := if d = hi then lo else d + 1 }) d (min 255 a + 1)
    sendMsg s2 ⟨.port 0, 0, d, 1, false, d, none, 0, 0, toBytes 2 (e % 65536) ++ toBytes 1 (bits e 16 8) ++ toBytes 1 1⟩

/-- The reply of device d lands in its record. -/
def pollReply (s : State) (d status value : Nat) : State :=
  if !(polls s) || decide (d < fld s (entryKey 0x1201 2) 0 12) || decide (fld s (entryKey 0x1201 2) 16 12 < d) then s
  else setPollAge (sramWrite s (pollRecord s d) (toBytes 4 (status % 256) ++ toBytes 4 value)) d 1

/-! ### Accepting a message (R402, R404 to R406, R414 to R416) -/

/-- Whether a message is addressed to the device (R405); over the local path DEST and MODE are ignored (R417). -/
def addressed (s : State) (path : CopPath) (mode dest : Nat) : Bool :=
  isLocal path || (mode == 0 && dest == deviceId s) ||
    (mode == 1 && decide (dest < 256) && flag s (entryKey 0x1101 (dest / 32)) (dest % 32)) || mode == 2

/-- Whether COP_AUTH_POLICY requires a tag for a TYPE (R415). -/
def tagRequired (s : State) (typ : Nat) : Bool :=
  let p := fld s (entryKey 0x1100 8) 0 2
  p == 2 || (p == 1 && [2, 3, 5, 9].contains typ)

/-- A message that fails authentication (R415). -/
def authFails (s : State) : State := perfEvent (netFlag (netCount s 9) 2) 7 0x23 1

/-- A message rejected by its SEQ (R416). -/
def replayFails (s : State) : State := perfEvent (netFlag (netCount s 0x0A) 3) 7 0x23 1

/-- An authenticated message's SEQ (R416): the sender's entry updated, or the message rejected. -/
def seqAccept (s : State) (src seq : Nat) : Option State :=
  let floor := regN s (entryKey 0x1103 1)
  match s.net.senders.lookup src with
  | some last =>
    if seq ≤ last then none
    else some (setNet s { s.net with senders := s.net.senders.filter (fun e => !(e.1 == src)) ++ [(src, seq)] })
  | none =>
    if seq ≤ floor then none
    else if s.net.senders.length < 64 then some (setNet s { s.net with senders := s.net.senders ++ [(src, seq)] })
    else
      let old := s.net.senders.headD (0, 0)
      some (setN (setNet s { s.net with senders := s.net.senders.drop 1 ++ [(src, seq)] }) (entryKey 0x1103 1) (max floor old.2))

/-- Records of a signal frame's body. -/
def parseRecords (b : List Byte) : List UpdateRec :=
  (chunksOf 8 180 b).map (fun c => ⟨natWord (ofBytes (c.take 4)), natWord (ofBytes (c.drop 4))⟩)

/-- A signal frame over COP; a local request is always answered. -/
def copSignals (s : State) (h : CopHdr) (rs : List UpdateRec) : State :=
  signalFrame s { h with replyReq := h.replyReq || isLocal h.path } rs

/-- A PAGING body (R414). -/
def copPaging (s : State) (h : CopHdr) (stream rate time : Nat) (samples : List Nat) : State :=
  if 2 < rate ∨ samples.isEmpty ∨ 480 < samples.length then badMsg s h 9
  else if !(engineOn s 16) then replyStatus s h 9 6 0
  else replyStatus (paging s stream rate time samples) h 9 0 0

/-- What an accepted message of a TYPE does (R406). -/
def copType (s : State) (h : CopHdr) (isReply : Bool) (typ : Nat) (b : List Byte) : State :=
  let at_ (i n : Nat) : Nat := ofBytes ((b.drop i).take n)
  if isReply then (if typ = 1 then pollReply s h.src (at_ 0 1) (at_ 4 4) else s)
  else if typ = 1 then (if b.length = 4 then copRead s h (at_ 0 2) (at_ 2 1) (at_ 3 1) else badMsg s h 1)
  else if typ = 2 then
    (if b.length < 4 then badMsg s h 2
    else match parseValues (at_ 0 2) (at_ 3 1) (at_ 2 1) (b.drop 4) with
    | some vs => copWrite s h (at_ 0 2) (at_ 2 1) vs
    | none => badMsg s h 2)
  else if typ = 3 then
    (let n := at_ 0 2
    if b.length < 4 ∨ at_ 2 2 ≠ 0 ∨ n = 0 ∨ 180 < n ∨ b.length ≠ 4 + 8 * n then badMsg s h 3 else copSignals s h (parseRecords (b.drop 4)))
  else if typ = 5 then (if b.length = 12 then segStart s h (at_ 0 2) (at_ 2 1) (at_ 3 1) (at_ 4 4) (at_ 8 4) else badMsg s h 5)
  else if typ = 6 then (if b.length < 4 then badMsg s h 6 else segData s h (at_ 0 4) (b.drop 4))
  else if typ = 7 then (if b.length = 4 then segAck s h (at_ 0 4) else badMsg s h 7)
  else if typ = 9 then
    (let n := at_ 12 2
    if b.length < 16 ∨ at_ 3 1 ≠ 0 ∨ at_ 14 2 ≠ 0 ∨ b.length ≠ 16 + 2 * n then badMsg s h 9
    else copPaging s h (at_ 0 2) (at_ 2 1) (at_ 4 8) ((chunksOf 2 480 (b.drop 16)).map ofBytes))
  else if typ = 4 ∨ typ = 8 then (if isLocal h.path then replyStatus s h typ 9 0 else s)
  else badMsg s h typ

/-- A message counted as received (R422, R465). -/
def countRx (s : State) : State := perfEvent (netCount s 7) 7 0x20 1

/-- A message that waking concerns (R397): the network wakes the Warden in Breeze. -/
def copWakes (s : State) (h : CopHdr) : State :=
  if h.wake && !(isLocal h.path) && pwrState s == 1 && flag s (entryKey 0x21C0 0x0C) 0 then { s with woken := s.woken ++ [3] } else s

/-- A message that has passed its checks. -/
def copAccepted (s : State) (h : CopHdr) (isReply : Bool) (typ : Nat) (body : List Byte) : State :=
  copType (copWakes (if isLocal h.path then s else countRx s) h) h isReply typ body

/-- The length of the fixed part of a message's body (R402, R408 to R414); a reply's is its status. -/
def fixedBody (isReply : Bool) (typ : Nat) : Nat :=
  if isReply then 4 else if typ = 4 then 16 else if typ = 5 then 12 else if typ = 8 then 8 else if typ = 9 then 16
  else if 1 ≤ typ ∧ typ ≤ 7 then 4 else 0

/-- A message arrives over a path (R402 to R417). -/
def copMessage (s : State) (path : CopPath) (m : List Byte) : State :=
  let at_ (i n : Nat) : Nat := ofBytes ((m.drop i).take n)
  let auth := bitAt (at_ 0 1) 4
  let typ := at_ 1 1
  let src := at_ 4 2 % 4096
  let slot := at_ 4 2 / 4096
  let h : CopHdr := ⟨path, src, bits (at_ 2 2) 12 2, at_ 2 2 % 4096, at_ 6 2, if auth && !(isLocal path) then some slot else none,
    bitAt (at_ 0 1) 5, bitAt (at_ 0 1) 7⟩
  if m.length < 12 + (if auth then 16 else 0) + fixedBody (bitAt (at_ 0 1) 6) typ ∨ at_ 0 1 % 16 ≠ 1 then (if isLocal path then replyStatus (msgError s) h typ 9 0 else msgError s)
  else if !(addressed s path h.mode h.dest) then s
  else
    let signed := m.take (m.length - if auth then 16 else 0)
    let tagOk := match copKey s slot with
      | some k => auth && copTag k signed == m.drop (m.length - 16)
      | none => false
    if !(isLocal path) && (if auth then !tagOk else tagRequired s typ) then authFails s
    else if auth && !(isLocal path) then
      match seqAccept s src (at_ 8 4) with
      | none => replayFails s
      | some t => copAccepted t h (bitAt (at_ 0 1) 6) typ (signed.drop 12)
    else copAccepted s h (bitAt (at_ 0 1) 6) typ (signed.drop 12)

/-! ### The SPI host (R403) -/

/-- A host frame of a message. -/
def hostFrame (m : List Byte) : List Byte :=
  let b := toBytes 2 m.length ++ m
  b ++ toBytesBE 2 (crc16 b)

/-- A transfer of the SPI host: the frame in, and in the same transfer the oldest outgoing message or LEN 0. -/
def spiTransfer (s : State) (b : List Byte) : State :=
  if !(domainOn s 24) then s
  else
    let s1 := setNet s { s.net with spiOut := s.net.spiOut.drop 1, toHost := some (hostFrame (s.net.spiOut.headD [])) }
    let len := ofBytes (b.take 2)
    if b.length < 4 ∨ 1472 < len ∨ b.length ≠ len + 4 ∨ crc16 (b.take (len + 2)) ≠ ofBytesBE (b.drop (len + 2)) then msgError s1
    else if len = 0 then s1
    else copMessage s1 .spi ((b.drop 2).take len)

/-! ### Ethernet (R393 to R395, R402) -/

/-- The VLAN entry of a VID, if a valid one exists. -/
def vlanEntry (s : State) (p : Nat → Bool) : Option Nat := ((List.range 16).map (fun i => regN s (entryKey 0x21C6 i))).find? (fun v => bitAt v 15 && p v)

/-- The one's complement sum of 16-bit words, folded. -/
def onesSum (b : List Byte) : Nat :=
  let t := ((chunksOf 2 1024 b).map (fun c => if c.length = 2 then ofBytesBE c else ofBytesBE c * 256)).sum
  let f := t % 65536 + t / 65536
  f % 65536 + f / 65536

/-- The COP message of a UDP datagram: its ports, length and checksum over the pseudo-header `pseudo` (R402). -/
def udpMessage (s : State) (pseudo u : List Byte) : Option (List Byte) :=
  let port := regN s (entryKey 0x1100 2)
  let len := ofBytesBE ((u.drop 4).take 2)
  if u.length < 8 ∨ len < 8 ∨ u.length < len ∨ (ofBytesBE (u.take 2) ≠ port ∧ ofBytesBE ((u.drop 2).take 2) ≠ port) then none
  else if ofBytesBE ((u.drop 6).take 2) ≠ 0 ∧ onesSum (pseudo ++ toBytesBE 2 len ++ u.take len) ≠ 0xFFFF then none
  else some ((u.take len).drop 8)

/-- The COP message of an Ethernet payload and the length its path allows; fragments are discarded. -/
def frameMessage (s : State) (etype : Nat) (p : List Byte) : Option (List Byte × Nat) :=
  let b (i : Nat) : Nat := ofBytes ((p.drop i).take 1)
  if etype = 0x0800 then
    let hl := 4 * (b 0 % 16)
    let total := ofBytesBE ((p.drop 2).take 2)
    if b 0 / 16 ≠ 4 ∨ hl < 20 ∨ b 9 ≠ 17 ∨ bits (ofBytesBE ((p.drop 6).take 2)) 0 14 ≠ 0 then none
    else (udpMessage s ((p.drop 12).take 8 ++ [0#8, 17#8]) ((p.take total).drop hl)).map (fun m => (m, 1472))
  else if etype = 0x86DD then
    (if b 0 / 16 ≠ 6 ∨ b 6 ≠ 17 then none
    else (udpMessage s ((p.drop 8).take 32 ++ [0#8, 17#8]) ((p.drop 40).take (ofBytesBE ((p.drop 4).take 2)))).map (fun m => (m, 1452)))
  else none

/-- The port where an address was learned. -/
def macPort (s : State) (mac : Nat) : Option Nat := s.net.macs.lookup mac

/-- Learns a source address; a full table of 1024 keeps its entries. -/
def macLearn (s : State) (mac k : Nat) : State :=
  let rest := s.net.macs.filter (fun e => !(e.1 == mac))
  if 1024 ≤ rest.length then s else setNet s { s.net with macs := rest ++ [(mac, k)] }

/-- A frame received on port k: dropped for a bad check sequence, learned, forwarded to the other external port, and taken at port 2 when it carries
COP; `own` says that its destination is the device's own address. -/
def ethFrame (s : State) (k : Nat) (f : List Byte) (fcs own : Bool) : State :=
  if !(engineOn s 7) || !(flag s (entryKey 0x21C0 1) k) || !fcs || decide (f.length < 14) then s
  else
    let dst := ofBytesBE (f.take 6)
    let src := ofBytesBE ((f.drop 6).take 6)
    let multi := bitAt (ofBytes (f.take 1)) 0
    let tagged := ofBytesBE ((f.drop 12).take 2) == 0x8100
    let tci := ofBytesBE ((f.drop 14).take 2)
    let vlan := if tagged then vlanEntry s (fun v => v % 4096 == tci % 4096) else none
    let pcp := if tagged then tci / 8192 else match vlanEntry s (fun v => bitAt v (12 + k)) with
      | some v => bits v 16 3
      | none => 0
    let member (p : Nat) : Bool := match vlan with
      | some v => bitAt v (12 + p)
      | none => true
    if !(member k) then s
    else
      let s1 := if bitAt (ofBytes ((f.drop 6).take 1)) 0 then s else macLearn s src k
      let out := 1 - k
      let goes := !own && (multi || !(macPort s dst == some k)) && member out && flag s (entryKey 0x21C0 1) out
      let s2 := if goes then perfEvent (setNet s1 { s1.net with lastForward := some (out, pcp, f) }) 7 0x22 1 else s1
      if !(own || multi) || !(member 2) then s2
      else
        let at_ := if tagged then 18 else 14
        match frameMessage s2 (ofBytesBE ((f.drop (at_ - 2)).take 2)) (f.drop at_) with
        | none => s2
        | some (m, limit) => if limit < m.length then msgError s2 else copMessage s2 (.port (Fin.ofNat 2 k)) m

end Sys2Proof.Machine
end

