-- ==== Sys2Proof/Machine/CoreMem.lean ====
section
/-! DEFINITION. The memory that a processor sees (R19 to R27, R221, R228, R271, R293, R294): address ranges with their checks, loads, stores, the store
buffer's overlap and draining. -/
namespace Sys2Proof.Machine

/-- Where an access goes: local RAM, or a space with an offset in it (the 40-bit address for external memory). -/
inductive Target where
  | iram (a : Nat)
  | dram (a : Nat)
  | away (sp : Space) (off : Nat)
  deriving DecidableEq, Repr

/-- The 40-bit address behind the external window of processor c (R26). -/
def extAddr (s : State) (c a : Nat) : Nat := fld s (entryKey 0x2480 (0x10 + c)) 0 2 * 0x80000000 + (a - 0x80000000)

/-- Index and subindex behind an offset of the dictionary window (R25). -/
def winIdx (off : Nat) : Nat := off / 1024
def winSub (off : Nat) : Nat := off / 4 % 256

/-- Fault code of an access to a dictionary entry, or 0 (R2, R25, R475, R477). -/
def dictFault (s : State) (off : Nat) (store : Bool) : Nat :=
  let idx := winIdx off
  let sub := winSub off
  if entryAbsent s idx sub && (blockAbsent s idx || (dictRow? idx sub).isSome) then 4
  else match dictRow? idx sub with
  | none => 5
  | some r => if !(entryPowered s r idx sub store) || (store && (isBytes r.typ || r.typ == .u64)) then 5 else 0

/-- Whether the legal core may store to a word of the MRAM (R228). -/
def mramOpen (s : State) (off : Nat) : Bool :=
  if off < 0x60000 then !(off / 0x30000 == activeSlot s) && !(s.bm.lop == 2)
  else if off < 0xA0000 then false
  else if off < 0xB0000 then s.bm.sessionType == 2
  else if off < 0xC0000 then s.bm.sessionType == 1
  else decide (0xC1000 ≤ off)

/-- Whether the legal core may store to a bank of the tile store (R221, R237). -/
def tileOpen (s : State) (bank : Nat) : Bool := !(s.bm.bankActive == bank) && !(s.bm.bankPending == some bank) && !(s.bm.bankChecking == some bank)

/-- An access of the legal core: its target, or a fault code (R221). -/
def legalTarget (s : State) (a width : Nat) (store : Bool) : Except Nat Target :=
  if a < 0x20000 then .ok (.iram a)
  else if a < 0x30000 then .ok (.dram (a - 0x20000))
  else if 0x08000000 ≤ a ∧ a < 0x08100000 then
    (if !(domainOn s 6) || (store && (!(width == 4) || !(mramOpen s (a - 0x08000000)))) then .error 5 else .ok (.away .mram (a - 0x08000000)))
  else if 0x0C000000 ≤ a ∧ a < 0x0C040000 then
    (if store && !(tileOpen s ((a - 0x0C000000) / 131072)) then .error 5 else .ok (.away .tile (a - 0x0C000000)))
  else if 0x0D000000 ≤ a ∧ a < 0x0D001000 then
    (if isFrontReg (a - 0x0D000000) && loadCells s.variant == 0 then .error 4
    else if !(width == 4) || (isFrontReg (a - 0x0D000000) && !(domainOn s 5)) then .error 5
    else .ok (.away .bmRegs (a - 0x0D000000)))
  else .error 5

/-- An access of an application core or the Warden (R19 to R21, R24, R27). -/
def mainTarget (s : State) (c a width : Nat) (store : Bool) : Except Nat Target :=
  let need (ok : Bool) (t : Target) : Except Nat Target := if ok then .ok t else .error 5
  if a < 0x10000 then need (decide (a < iramSize c)) (.iram a)
  else if a < 0x20000 then need (decide (a - 0x10000 < dramSize c)) (.dram (a - 0x10000))
  else if 0x10000000 ≤ a ∧ a < 0x10400000 then need (domainOn s 8) (.away .sram (a - 0x10000000))
  else if 0x20000000 ≤ a ∧ a < 0x20800000 then need (domainOn s 14) (.away .vsram (a - 0x20000000))
  else if 0x30000000 ≤ a ∧ a < 0x30100000 then need (width == 4 && engineOn s 8) (.away .staging (a - 0x30000000))
  else if 0x30100000 ≤ a ∧ a < 0x30200000 then need (width == 4 && !store && engineOn s 8) (.away .display (a - 0x30100000))
  else if 0x30200000 ≤ a ∧ a < 0x30240000 then need (!(width == 2) && engineOn s 8) (.away .attr (a - 0x30200000))
  else if 0x30240000 ≤ a ∧ a < 0x30248000 then need (width == 4 && !store && engineOn s 8) (.away .dirty (a - 0x30240000))
  else if 0x40000000 ≤ a ∧ a < 0x44000000 then
    (if dictFault s (a - 0x40000000) store = 4 then .error 4
    else need (width == 4 && dictFault s (a - 0x40000000) store == 0) (.away .dict (a - 0x40000000)))
  else if 0x80000000 ≤ a then
    (if !(enginePresent s.variant 18) then .error 4 else need (extOk s (extAddr s c a) width) (.away .ext (extAddr s c a)))
  else .error 5

/-- An access of processor c: its target, or the code of the fault it raises (R20, R300, R302). -/
def coreTarget (s : State) (c a width : Nat) (store : Bool) : Except Nat Target :=
  if a % width ≠ 0 then .error 3 else if c = 9 then legalTarget s a width store else mainTarget s c a width store

/-! ### Loads -/

/-- A loaded value extended to a word. -/
def extendLoad (width : Nat) (signed : Bool) (v : Nat) : Word :=
  if signed then intWord (toSigned (8 * width) v) else natWord (v % 2 ^ (8 * width))

/-- Bytes of local RAM. -/
def localBytes (x : Core) : Target → Nat → List Byte
  | .iram a, n => (List.range n).map (fun i => byteAt x.iram (a + i))
  | .dram a, n => (List.range n).map (fun i => byteAt x.dram (a + i))
  | _, _ => []

/-- The dirty bits of 32 signals. -/
def dirtyWord (s : State) (n : Nat) : Nat := (List.range 32).foldl (fun a i => if dirtyOf s (n + i) then a + 2 ^ i else a) 0

/-- The number that a load away from local RAM returns, with the state after it: a read of a dictionary entry or a partition register can act. -/
def awayRead (s : State) (c : Nat) (sp : Space) (off width : Nat) : Nat × State := match sp with
  | .sram => (ofBytes (readBytes sramSize s.mem.sram off width), s)
  | .vsram => (ofBytes (readBytes vsramSize s.mem.vsram off width), s)
  | .ext => (ofBytes (extRead s off width), mcGranules (requestsPass s (reqCore c) 1) false off 1)
  | .staging => (stagOf s (off / 4) % 2 ^ 25, s)
  | .display => (dispOf s (off / 4), s)
  | .attr => ((List.range width).foldl (fun a i => a + attrOf s (off + i) * 256 ^ i) 0, s)
  | .dirty => (dirtyWord s (8 * off), s)
  | .dict => match dictRow? (winIdx off) (winSub off) with
    | some r => let (w, t) := entryRead s c r (winIdx off) (winSub off); (w.toNat, t)
    | none => (0, s)
  | .mram => (ofBytes (mramLoad s off width), s)
  | .tile => (ofBytes ((List.range width).map (fun i => byteAt s.bm.tile (off + i))), s)
  | .bmRegs => let (t, v) := bmRegRead s off; (v, t)

/-! ### Stores -/

/-- The spaces whose stores the store buffer holds (R293). -/
def buffered : Space → Bool
  | .sram => true
  | .vsram => true
  | .staging => true
  | .attr => true
  | .ext => true
  | _ => false

/-- A store takes effect at its target. A store of several attribute bytes is one write a byte, the lowest first, so each that is refused counts and the
last is the one recorded (R51, R57; DESIGN CHOICE, log 111). -/
def awayWrite (s : State) (c : Nat) (e : StoreEntry) : State := match e.space with
  | .sram => sramWrite s e.addr (toBytes e.width e.data)
  | .vsram => if domainOn s 14 then vsramWrite s e.addr (toBytes e.width e.data) else s
  | .ext => if extOk s e.addr e.width then mcGranules (requestsPass (extWrite s e.addr (toBytes e.width e.data)) (reqCore c) 1) true e.addr 1 else s
  | .staging => if engineOn s 8 then stagingStore s (e.addr / 4) (natWord e.data) c else s
  | .attr => if engineOn s 8 then (List.range e.width).foldl (fun t i => attrWrite t (e.addr + i) (e.data / 256 ^ i) c) s else s
  | .dict => localWrite s (Fin.ofNat 9 c) (winIdx e.addr) (winSub e.addr) e.data
  | .mram =>
    let s1 := mramPut s e.addr (toBytes 4 e.data)
    if 0xA0000 ≤ e.addr ∧ e.addr < 0xC0000 then
      setBm s1 { s1.bm with sessionWritten := true, ctl := { s1.bm.ctl with marker := s1.bm.ctl.marker.map (fun m => (m.1, true)) } }
    else s1
  | .tile => setBm s { s.bm with tile := mapSetMany memReset s.bm.tile e.addr (toBytes e.width e.data) }
  | .bmRegs => bmRegWrite s e.addr e.data
  | _ => s

/-! ### The store buffer (R293 to R295) -/

/-- Whether a store touches an access of `n` bytes in a space. -/
def storeOverlaps (sp : Space) (off n : Nat) (e : StoreEntry) : Bool := e.space == sp && decide (e.addr < off + n) && decide (off < e.addr + e.width)

/-- The signal store's views, whose loads are never forwarded. -/
def signalView : Space → Bool
  | .staging => true
  | .display => true
  | .attr => true
  | .dirty => true
  | _ => false

/-- What the buffer means for a load: nothing, a forwarded value, or a wait for overlapping stores. -/
inductive Forward where
  | free
  | value (v : Nat)
  | wait
  deriving DecidableEq, Repr

/-- R294 for a load of `n` bytes: the youngest overlapping store decides. -/
def forwardOf (x : Core) (sp : Space) (off n : Nat) : Forward :=
  match (x.stores.filter (storeOverlaps sp off n)).getLast? with
  | none => .free
  | some e =>
    if signalView sp then .wait
    else if e.addr ≤ off ∧ off + n ≤ e.addr + e.width then .value (e.data / 256 ^ (off - e.addr) % 256 ^ n)
    else .wait

end Sys2Proof.Machine
end

