-- ==== Sys2Proof/Machine/Cores.lean ====
section
/-! DEFINITION. The Buzhail cores (10, 11): fetching and prediction, reading and writing ports, units with their latencies, holds, macros, faults,
interrupt entry and exit. Every command of a core issues a group through `issueGroup`. -/
namespace Sys2Proof.Machine

/-! ### A core's registers and units -/

/-- A general register; a0 reads 0. -/
def regOf (x : Core) (n : Nat) : Word := if n = 0 then 0#32 else mapGet (fun _ => 0#32) x.regs n

/-- Operand and result of a unit (0 alu0, 1 alu1, 2 mul, 3 lsu, 4 div, 5 fpu, 6 cmp: cmp.a and cmp.g; result 7 is div.r). -/
def opdOf (x : Core) (u : Nat) : Word := mapGet (fun _ => 0#32) x.opd u
def resOf (x : Core) (u : Nat) : Word := mapGet (fun _ => 0#32) x.res u
def setOpd (x : Core) (u : Nat) (v : Word) : Core := { x with opd := mapSet (fun _ => 0#32) x.opd u v }
def setRes (x : Core) (u : Nat) (v : Word) : Core := { x with res := mapSet (fun _ => 0#32) x.res u v }

/-- A coprocessor register, by its port. -/
def copOf (x : Core) (p : Nat) : Word := mapGet (fun _ => 0#32) x.copr p
def setCop (x : Core) (p : Nat) (v : Word) : Core := { x with copr := mapSet (fun _ => 0#32) x.copr p v }

/-- A guard; p0 reads 1. -/
def guardOf (x : Core) (g : Nat) : Bool := g == 0 || bitAt x.guards g

/-- Writes a guard; p0 discards. -/
def setGuard (x : Core) (g : Nat) (b : Bool) : Core := if g = 0 then x else { x with guards := putBits x.guards g 1 (if b then 1 else 0) }

/-- Changes a processor. -/
def onCore (s : State) (c : Nat) (f : Core → Core) : State := setCore s c (f (coreOf s c))

/-- A core event in its performance counters (R465); the legal core has none. -/
def coreEvent (s : State) (c code n : Nat) : State := if c = 9 then s else perfEvent s (coreEngine c) code n

/-- Whether a processor is clocked: its domain is on, for the legal core the partition runs. -/
def coreOn (s : State) (c : Nat) : Bool := if c = 9 then legalRuns s else procPresent s.variant c && engineOn s (coreEngine c)

/-- The results due by clock t complete, oldest first, with their status and flags; the division likewise (R264, R265, R269). -/
def completeBy (x : Core) (t : Nat) : Core :=
  let y := (x.flight.filter (fun f => decide (f.due ≤ t))).foldl
    (fun z f => { setRes z f.unit f.value with sticky := z.sticky ||| f.status, fpuFlags := z.fpuFlags ||| f.flags })
    { x with flight := x.flight.filter (fun f => !(decide (f.due ≤ t))) }
  match y.div with
  | some d => if d.due ≤ t then { setRes (setRes y 4 d.q) 7 d.r with div := none, sticky := y.sticky ||| (if d.divz then 64 else 0) } else y
  | none => y

/-! ### Fetch (R286, R287, R297) -/

/-- One clock of the fetcher: another word while the queue of four has room, within the instruction RAM. -/
def fetchClock (c : Nat) (x : Core) (t : Nat) : Core :=
  if x.queue.2.length < 4 ∧ 4 * (x.queue.1 + x.queue.2.length) < iramSize c then { x with queue := (x.queue.1, x.queue.2 ++ [t]) } else x

/-- The fetcher from clock t for n clocks. -/
def fetchClocks (c : Nat) (x : Core) (t n : Nat) : Core := (List.range (min n 8)).foldl (fun y i => fetchClock c y (t + i)) x

/-- Whether the words of a group have been fetched for issue in clock t. -/
def wordsReady (x : Core) (addr len t : Nat) : Bool :=
  [addr / 4, (addr + len - 1) / 4].all (fun w => match x.queue.2[w - x.queue.1]? with
    | some f => decide (f + 2 ≤ t)
    | none => false)

/-- The clock in which a group can issue, with the fetcher run up to it. -/
def awaitWords (c addr len : Nat) : Nat → Core → Nat → Core × Nat
  | 0, x, t => (x, t)
  | n + 1, x, t => if wordsReady x addr len t then (x, t) else awaitWords c addr len n (fetchClock c x t) (t + 1)

/-- The words that a group has used leave the queue; of a word whose second half is next, a parcel has issued. -/
def dropWords (x : Core) (next : Nat) : Core :=
  { x with queue := (next / 4, x.queue.2.drop (next / 4 - x.queue.1)), used := next % 4 == 2 }

/-- The words in the queue of which no parcel has issued: wrong-path words when the queue is discarded (R287). -/
def unusedWords (x : Core) : Nat := x.queue.2.length - (if x.used then 1 else 0)

/-- Fetch restarts at an address: the queue is discarded, and the words of the old path no longer matter (R287, R297). -/
def restartAt (x : Core) (addr : Nat) (fetched : List Nat) : Core :=
  { x with pc := addr, queue := (addr / 4, fetched), used := false, stale := [] }

/-- A byte of instruction memory as a group at `addr` of at most `len` bytes executes it: the old contents within 16 bytes after a store (R297). -/
def fetchByte (x : Core) (addr len a : Nat) : Byte :=
  match x.stale.find? (fun e => e.2.1 == a && decide (e.1 ≤ addr) && decide (addr + len ≤ e.1 + 16)) with
  | some e => e.2.2
  | none => byteAt x.iram a

/-- A halfword of instruction memory. -/
def fetchHalf (x : Core) (addr len a : Nat) : Nat := ofBytes [fetchByte x addr len a, fetchByte x addr len (a + 1)]

/-- The group at an address. -/
def fetchGroup (x : Core) (addr : Nat) : List RawMove × Nat :=
  let latch := x.immHi.map Prod.fst
  let short := groupOf (fetchHalf x addr 2 addr) (fetchHalf x addr 2 (addr + 2)) latch
  if short.2 = 2 then short else groupOf (fetchHalf x addr 4 addr) (fetchHalf x addr 4 (addr + 2)) latch

/-! ### Reading ports (R263, R273, R276, R278) -/

/-- ctl.ctx.FAULT: the innermost context was entered through a fault slot. -/
def inFault (x : Core) : Bool := match x.stack with
  | sh :: _ => sh.byFault
  | [] => false

/-- Whether ctl.usel selects a unit that the core has (R276). -/
def unitSelected (c : Nat) (x : Core) : Bool := decide (x.usel < 7) && !(coreSmall c && (x.usel == 1 || x.usel == 5))

/-- The rotation position p at a core's clock (R28): an application core counts core clocks, the 16 MHz Warden fifty of them in each of its own. -/
def rotPos (c : Nat) (x : Core) : Nat := (x.rot + (if c = 8 then 50 * x.cyc else x.cyc)) % 10

/-- The owner of turn t of slot 9 (R28). -/
inductive Turn
  | warden
  | blitter
  | network
  | reader
  deriving DecidableEq, Repr

/-- The turn that slot 9 takes at a core's clock (R28). -/
def turnAt (c : Nat) (x : Core) : Turn :=
  let t := (x.rot + (if c = 8 then 50 * x.cyc else x.cyc)) / 10 % 4
  if t = 0 then .warden else if t = 1 then .blitter else if t = 2 then .network else .reader

/-- The latency of a load from shared SRAM by application core c that issues at its present clock (R29). -/
def slotLatency (c : Nat) (x : Core) : Nat := 2 + (c + 10 - rotPos c x) % 10

/-- The clocks until the slot of application core c has served a store, from its present clock on (R293). -/
def slotWait (c : Nat) (x : Core) : Nat := 1 + (c + 10 - rotPos c x) % 10

/-- core.status without ROT. -/
def statusWord (c : Nat) (x : Core) : Nat :=
  x.sticky + (if x.predOff then 2 ^ 8 else 0) + (if x.immHi.isSome then 2 ^ 9 else 0) + x.level * 2 ^ 16 + c * 2 ^ 24 + (if coreSmall c then 2 ^ 28 else 0)

/-- The pad levels of a half (R275). -/
def padWord (s : State) (lo n : Nat) : Nat := (List.range n).foldl (fun a i => if padLevel s (lo + i) then a + 2 ^ i else a) 0

/-- The pad levels of a half as core c reads them in its clock x.cyc: through two core clocks, so that a change it made itself in the clock before is not
seen yet (R362); changes from outside the core are seen at once (DESIGN CHOICE, log 98). -/
def padsRead (s : State) (x : Core) (lo n : Nat) : Nat :=
  match x.pads with
  | some (at_, changed, old) =>
    if x.cyc ≤ at_ + 1 then maskClear (padWord s lo n) (bits changed lo n) + maskAnd (bits old lo n) (bits changed lo n) else padWord s lo n
  | none => padWord s lo n

/-- The value of a readable port, with the state after the read: core.cyc latches its high half, and what the spec leaves open is free: the
saved context at depth 0. -/
def portValue (s : State) (c p : Nat) : Word × State :=
  let x := coreOf s c
  let pure_ (n : Nat) : Word × State := (natWord n, s)
  if p < 32 then (regOf x p, s)
  else if p < 40 then pure_ (if guardOf x (p - 32) then 1 else 0)
  else if p = 40 then (resOf x 0, s)
  else if p = 60 then (resOf x 1, s)
  else if p = 80 then (resOf x 3, s)
  else if p = 93 then (x.link, s)
  else if p = 96 then (resOf x 6, s)
  else if p = 97 then (opdOf x 6, s)
  else if p = 104 then (resOf x 2, s)
  else if p = 112 then pure_ (padsRead s x 0 32)
  else if p = 113 then pure_ (padsRead s x 32 16)
  else if p = 114 then pure_ (bits s.pins.out 0 32)
  else if p = 115 then pure_ (bits s.pins.out 32 16)
  else if p = 120 then pure_ (statusWord c x + (if c = 9 then 0 else rotPos c x))
  else if p = 121 then (natWord x.cyc, setCore s c { x with cych := natWord (x.cyc / 2 ^ 32) })
  else if p = 122 then (x.cych, s)
  else if p = 128 then (resOf x 4, s)
  else if p = 129 then (resOf x 7, s)
  else if p = 132 then pure_ (if x.div.isSome then 1 else 0)
  else if p = 144 then (resOf x 5, s)
  else if p = 159 then pure_ x.fpuFlags
  else if p = 176 then pure_ (if x.predOff then 1 else 0)
  else if p = 178 then pure_ (x.level + 32 * x.stack.length + (if inFault x then 1024 else 0))
  else if p = 179 then pure_ x.usel
  else if p = 180 then (if unitSelected c x then opdOf x x.usel else 0#32, s)
  else if p = 181 then (if unitSelected c x then resOf x x.usel else 0#32, s)
  else if p = 182 then (if x.usel = 4 then resOf x 7 else 0#32, s)
  else if p = 183 then pure_ x.mcsel
  else if p = 184 then (mapGet (fun _ => 0x10000000#32) x.mc x.mcsel, s)
  else if p = 185 then pure_ (if x.lock then 1 else 0)
  else if p = 192 then pure_ (if inFault x then 0 else irqClaim s c)
  else if p = 194 then pure_ (thrOf s c)
  else if p = 195 then pure_ x.fault
  else if p = 196 then pure_ x.fpc
  else if p = 197 then
    (match x.stack with
    | sh :: _ => pure_ sh.pc
    | [] => let (f, t) := drawFree s; (natWord f, t))
  else if p = 198 then
    (match x.stack with
    | sh :: _ => pure_ (sh.guards / 2 % 128 * 2 + 1)
    | [] => let (f, t) := drawFree s; (natWord (f % 128 * 2 + 1), t))
  else if p = 199 then (x.vbase, s)
  else if p = 323 then pure_ (64 - s.aud.queue.length)
  else (copOf x p, s)

/-- The value of a move's source. -/
def srcValue (s : State) (c : Nat) : Src → Word × State
  | .value w => (w, s)
  | .port p => portValue s c p

/-- Whether a move executes (R262). -/
def moveRuns (x : Core) (m : RawMove) : Bool := guardOf x m.guard != m.inv

/-- Reads the sources of a group's moves. -/
def readMoves (s : State) (c : Nat) : List RawMove → List Move × State
  | [] => ([], s)
  | m :: ms =>
    let runs := moveRuns (coreOf s c) m
    let (v, t) := if runs then srcValue s c m.src else (0#32, s)
    let (rest, u) := readMoves t c ms
    (⟨m.dst, m.ext, v, runs⟩ :: rest, u)

/-! ### Faults (R300 to R304) -/

/-- Whether a coprocessor's unit can be reached: the plane that pl.sel names, or the engine of the block (R279). -/
def copReached (s : State) (x : Core) (p : Nat) : Bool := match copBlockOf p with
  | some .ss => engineOn s 8
  | some .pl => !(p == 273 || p == 274) || engineOn s (20 + (copOf x 272).toNat % 8)
  | some .dma => engineOn s 5
  | some .blt => engineOn s 6
  | some .aq => engineOn s 16
  | some .nq => domainOn s 8
  | none => true

/-- The port of a move that faults with UNASSIGNED_PORT (R261, R263, R283, R300): one that R263 does not assign so, the decode table's while it is locked,
bru.retint at nesting depth 0. -/
def portFault (x : Core) (c : Nat) (m : RawMove) : Option Nat :=
  let badSrc := match m.src with
    | .port p => if portReads c p then none else some p
    | .value _ => none
  match badSrc with
  | some p => some p
  | none =>
    if !(portWrites c m.dst) || ((m.dst == 183 || m.dst == 184) && x.lock) || (m.dst == 91 && x.stack.isEmpty) then some m.dst else none

/-- The decode fault of a move: code and port (R261, R263, R279, R302). It is raised whether or not the move's guard holds (R262). -/
def decodeFault (x : Core) (c : Nat) (m : RawMove) : Option (Nat × Nat) :=
  match portFault x c m with
  | some p => some (1, p)
  | none => if !(extDefined m.dst m.ext) then some (2, m.dst) else none

/-- The target address of a branch move; none where there is none. -/
def branchTarget (x : Core) (dst : Nat) (v : Word) : Option Nat :=
  if dst = 88 ∨ dst = 89 then some v.toNat else if dst = 90 then some x.link.toNat
  else if dst = 91 then x.stack.head?.map (·.pc) else none

/-- What a write of irq.complete would do on the legal core, whose nesting is always checked (DESIGN CHOICE, log 36). -/
def legalComplete (s : State) (src : Nat) : Option State := match stackOf s 9 with
  | [] => none
  | (t, _) :: rest => if t = src then some (setStack s 9 rest) else none

/-- A write of irq.complete (R318). -/
def coreComplete (s : State) (c src : Nat) : Option State := if c = 9 then legalComplete s src else irqComplete s c src

/-- The fault of a move that executes with value v: code, DETAIL and port (R300, R302). An access at or above EXT_MEM_SIZE is refused at the core and
never reaches the controller, so ADDR_ERROR of R39, its count and its address stay (DESIGN CHOICE, log 11). -/
def accessFault (s : State) (c : Nat) (m : RawMove) (v : Word) : Option (Nat × Nat × Nat) :=
  let x := coreOf s c
  let copro := match m.src with
    | .port p => !(copReached s x p)
    | .value _ => false
  match accessOf m.dst with
  | some (width, store, _) => (match coreTarget s c v.toNat width store with
    | .error code => some (code, if code = 5 then (if store then 3 else 2) else 0, m.dst)
    | .ok _ => if copro then some (5, 4, m.dst) else none)
  | none =>
    if 88 ≤ m.dst ∧ m.dst ≤ 91 then
      (match branchTarget x m.dst v with
      | none => some (1, 0, m.dst)
      | some a => if a % 2 = 1 then some (3, 0, m.dst) else if iramSize c ≤ a then some (5, 1, m.dst) else none)
    else if !(copReached s x m.dst) || copro then some (5, 4, m.dst)
    else if m.dst = 193 ∧ (coreComplete s c (v.toNat % 1024)).isNone then some (6, 0, m.dst)
    else none

/-- The fault of a move. -/
def moveFault (s : State) (c : Nat) (m : RawMove) : Option (Nat × Nat × Nat) :=
  match decodeFault (coreOf s c) c m with
  | some (code, port) => some (code, 0, port)
  | none => if moveRuns (coreOf s c) m then accessFault s c m (srcValue s c m.src).1 else none

/-- The entry of a core's entries that holds faults, where it has one. -/
def noteFault (s : State) (c word addr : Nat) : State :=
  if c = 9 then s else icAssert (setN (setN s (coreKey c 5) word) (coreKey c 6) addr) (16 * coreEngine c)

/-- A lockup (R304): the core halts, and its ladder takes step 2. -/
def lockup (s : State) (c code addr : Nat) : State :=
  let s1 := onCore s c (fun x => { x with run := 3, lockup := true, held := none, fault := 7 + 256 * code, fpc := addr })
  let s2 := noteFault s1 c (7 + 256 * code) addr
  if c = 9 then s2 else { s2 with raised := s2.raised ++ [2000 + coreEngine c] }

/-- VEC_BASE: bits [9:0] and the bits above the instruction RAM are ignored (R278). -/
def vecBase (c : Nat) (x : Core) : Nat := x.vbase.toNat % iramSize c / 1024 * 1024

/-- Entry to a slot in clock t: the context is saved and fetch restarts at the vector (R305); a chained entry keeps the guards that the finished handler
left (R307), and an interrupt's handler issues its first group before a later request (R306). -/
def enterSlot (s : State) (c t saved level slot : Nat) (byFault : Bool) : State :=
  let x := coreOf s c
  let s1 := coreEvent (coreEvent s c 0x23 (unusedWords x)) c 0x26 1
  let a := vecBase c x + 8 * slot
  setCore s1 c { restartAt x a [t] with
    run := 1, cyc := t + 1, level := level, stack := ⟨saved, x.guards, x.level, byFault⟩ :: x.stack, immHi := none, held := none, prev := [],
    guards := if byFault then x.guards else (x.returned.map Prod.fst).getD x.guards, returned := none, fresh := !byFault }

/-- Fault entry (R303), or the lockup of R304. `addr` is the address that the fault reports. The fetcher still runs in the faulting group's last clock. -/
def takeFault (s : State) (c code detail port addr : Nat) : State :=
  let x := fetchClock c (coreOf s c) (coreOf s c).cyc
  if inFault x || decide (31 ≤ x.stack.length) then lockup s c code addr
  else
    let word := code + 256 * detail + 65536 * port
    let s1 := noteFault (setCore s c { x with fault := word, fpc := addr }) c word addr
    enterSlot (if c = 9 then s1 else bump s1 (coreKey c 7)) c (x.cyc + 1) addr 31 code true

/-! ### What holds a group (R23, R279, R293 to R296) -/

/-- What a group waits for: nothing, the store buffer or an acceptance, an overlap, data. -/
inductive Wait where
  | none | accept | overlap | data
  deriving DecidableEq, Repr

/-- Whether the audio queue's GO would find the queue full. -/
def goWaits (s : State) (off : Nat) : Bool := winIdx off == 0x2400 && winSub off == 0x13 && audFull s

/-- The source that a store to a routing entry masks from its processor under MASK_SYNC 1: its group holds until the write is accepted (R293, R320). -/
def maskStore (s : State) (c : Nat) (off data : Nat) : Option Nat :=
  let idx := winIdx off
  let sub := winSub off
  let src := (idx - 0x2084) * 256 + sub
  if 0x2084 ≤ idx ∧ idx < 0x2088 then
    match localReaches s idx sub with
    | some r =>
      let old := regN s (routeKey src)
      if mayWrite s r idx sub (.proc (Fin.ofNat 9 c)) false && isMaskWrite old (applyChecked (checkWrite s r idx sub data) old) && maskSync s (routeProc old) then
        some src
      else none
    | none => none
  else none

/-- What a load or store waits for. -/
def accessWait (s : State) (c : Nat) (x : Core) (width : Nat) (store : Bool) (t : Target) : Wait := match t with
  | .iram _ => .none
  | .dram _ => .none
  | .away sp off =>
    if store then
      (if buffered sp && c != 9 then (if 4 ≤ x.stores.length then .accept else .none)
      else if sp == .dict && (!x.stores.isEmpty || entryOffline s (winIdx off) (winSub off) || goWaits s off ||
        (heldFull s && isStaged (entryKey (winIdx off) (winSub off))) ||
        (maskStore s c off (opdOf x 3).toNat).isSome) then .accept else .none)
    else match forwardOf x sp off width with
      | .value _ => .none
      | .wait => .overlap
      | .free =>
        if sp == .dict && (!x.stores.isEmpty || entryOffline s (winIdx off) (winSub off)) then .accept
        else if sp == .display && s.ss.walk.isSome then .accept else .data

/-- Local requests of a processor that are not done. -/
def openReqs (s : State) (c : Nat) : Nat := (s.net.reqs.filter (fun r => r.proc == c && !(r.state == 3))).length

/-- What a move to a coprocessor port waits for. -/
def copWait (s : State) (c : Nat) (x : Core) (p : Nat) : Wait :=
  if !x.stores.isEmpty then .accept
  else if p = 258 ∧ s.ss.walk.isSome then .accept
  else if (p = 273 ∨ p = 274) ∧ engineOffline s (20 + (copOf x 272).toNat % 8) then .accept
  else if p = 322 ∧ audFull s then .accept
  else if p = 336 ∧ 8 ≤ openReqs s c then .accept
  else .none

/-- What one move that executes waits for. -/
def moveWait (s : State) (c : Nat) (x : Core) (m : Move) : Wait :=
  if !m.runs then .none
  else match accessOf m.dst with
  | some (width, store, _) => (match coreTarget s c m.value.toNat width store with
    | .ok t => accessWait s c x width store t
    | .error _ => .none)
  | none =>
    if 256 ≤ m.dst ∧ m.dst < 496 then copWait s c x m.dst
    else if m.dst = 92 ∧ !x.stores.isEmpty then .accept else .none

/-- What a group waits for: an acceptance before data. Only the last trigger of a unit counts (R259). -/
def groupWait (s : State) (c : Nat) (x : Core) (ms : List Move) : Wait :=
  let last := (ms.filter (fun m => m.runs && (unitOf m.dst).isSome)).getLast?
  let ws := ms.map (fun m => if unitOf m.dst = some 3 && (match last with
    | some l => unitOf l.dst == some 3 && l != m
    | none => false) then .none else moveWait s c x m)
  if ws.contains .overlap then .overlap else if ws.contains .accept then .accept else if ws.contains .data then .data else .none

/-! ### Writing ports -/

/-- The readable ports whose value a move changes at the end of its group. -/
def changedPorts (x : Core) (m : Move) : List Nat :=
  let p := m.dst
  let res (u : Nat) : Nat := [40, 60, 104, 80, 128, 144, 96].getD u 0
  if 98 ≤ p ∧ p ≤ 103 then [32 + (resOf x 6).toNat % 8]
  else if 114 ≤ p ∧ p ≤ 118 then [114, 115]
  else if p = 89 then [93] else if p = 123 then [120] else if p = 176 then [176, 120] else if p = 179 then [179, 180, 181, 182]
  else if p = 180 then (if x.usel = 6 then [97, 180] else [180]) else if p = 181 then [res x.usel, 181] else if p = 182 then [129, 182]
  else if p = 183 then [183, 184] else if p = 193 then [192] else if p = 257 then [256] else if p = 258 ∨ p = 259 then [260]
  else if p = 274 then [275] else if p = 292 then [293] else if p = 306 then [307] else if p = 322 then [323] else if p = 337 then [338]
  else if p < 40 ∨ [93, 96, 97, 120, 159, 184, 185, 194, 197, 198, 199, 256, 272, 288, 304, 320, 321].contains p then [p]
  else []

/-- What the ports that a group changes held before it, for the early target of the next group (R291). -/
def oldPorts (s : State) (c : Nat) (ms : List Move) : SMap (Option Word) :=
  ((ms.filter (fun m => m.runs)).flatMap (changedPorts (coreOf s c))).foldl
    (fun old p => mapSet (fun _ => none) old p (some (portValue s c p).1)) []

/-- A write of the pin port at the end of clock e; the core reads what it changed from clock e + 2 on (R275, R362). -/
def pinWrite (s : State) (c e : Nat) (f : Nat → Bool → Bool) : State :=
  let t := gpioWrite s c f
  onCore t c (fun y => { y with pads := some (e, padWord s 0 48 ^^^ padWord t 0 48, padWord s 0 48) })

/-- A write to a port that is no trigger, at the end of clock e; `at_` is the group's address, for imm.hi. -/
def portWrite (s : State) (c e at_ p : Nat) (v : Word) : State :=
  let x := coreOf s c
  let n := v.toNat
  let put (y : Core) : State := setCore s c y
  if p = 0 then s
  else if p < 32 then put { x with regs := mapSet (fun _ => 0#32) x.regs p v }
  else if p < 40 then put (setGuard x (p - 32) (bitAt n 0))
  else if p = 40 then put (setOpd x 0 v)
  else if p = 60 then put (setOpd x 1 v)
  else if p = 80 then put (setOpd x 3 v)
  else if p = 93 then put { x with link := v }
  else if p = 96 then put (setRes x 6 (natWord (n % 8)))
  else if p = 97 then put (setOpd x 6 v)
  else if p = 104 then put (setOpd x 2 v)
  else if p = 114 then pinWrite s c e (fun k old => if k < 32 then bitAt n k else old)
  else if p = 115 then pinWrite s c e (fun k old => if 32 ≤ k then bitAt n (k - 32) else old)
  else if p = 120 then put { x with sticky := maskClear x.sticky (maskAnd n 0xF0) }
  else if p = 123 then put { x with immHi := some (n % 2048, at_) }
  else if p = 128 then put (setOpd x 4 v)
  else if p = 144 then put (setOpd x 5 v)
  else if p = 159 then put { x with fpuFlags := maskClear x.fpuFlags (n % 16) }
  else if p = 176 then put { x with predOff := bitAt n 0 }
  else if p = 179 then put { x with usel := n % 8 }
  else if p = 180 then put (if unitSelected c x then setOpd x x.usel v else x)
  else if p = 181 then
    put (if !(unitSelected c x) || x.flight.any (fun f => f.unit == x.usel && f.due == e + 1) ||
        (x.usel == 4 && x.div.any (fun d => d.due == e + 1)) then x
      else setRes x x.usel (if x.usel = 6 then natWord (n % 8) else v))
  else if p = 182 then put (if x.usel = 4 ∧ x.div.any (fun d => d.due == e + 1) = false then setRes x 7 v else x)
  else if p = 183 then put { x with mcsel := n % 512 }
  else if p = 184 then put { x with mc := mapSet (fun _ => 0x10000000#32) x.mc x.mcsel (natWord (n % 2 ^ 29)) }
  else if p = 185 then put { x with lock := x.lock || bitAt n 0 }
  else if p = 193 then (coreComplete s c (n % 1024)).getD s
  else if p = 194 then setThr s c (n % 32)
  else if p = 197 then put { x with stack := match x.stack with
    | sh :: rest => { sh with pc := n } :: rest
    | [] => [] }
  else if p = 198 then put { x with stack := match x.stack with
    | sh :: rest => { sh with guards := n / 2 % 128 * 2 } :: rest
    | [] => [] }
  else if p = 199 then put { x with vbase := natWord (n % iramSize c / 1024 * 1024) }
  else if p = 200 then ringDoorbell s (n % 256)
  else if p = 272 then put (setCop x p (natWord (n % 8)))
  else if p = 288 ∨ p = 304 then put (setCop x p (natWord (n % 256)))
  else if p = 256 ∨ p = 320 ∨ p = 321 then put (setCop x p v)
  else s

/-- Whether a destination is a trigger. -/
def isTrigger (p : Nat) : Bool :=
  (unitOf p).isSome || (decide (116 ≤ p) && decide (p ≤ 118)) || p == 177 || decide (496 ≤ p) ||
    [257, 258, 259, 273, 274, 289, 290, 291, 292, 305, 306, 308, 322, 336, 337].contains p

/-! ### Triggers -/

/-- Puts a result in flight. -/
def launch (x : Core) (f : Flight) : Core := { x with flight := x.flight ++ [f] }

/-- A store to local instruction RAM: groups in the next 16 bytes may still execute the old bytes (R297). -/
def iramStore (x : Core) (groupEnd a : Nat) (b : List Byte) : Core :=
  let old := (List.range b.length).map (fun i => (groupEnd, a + i, byteAt x.iram (a + i)))
  { x with iram := writeBytes (2 ^ 32) x.iram a b, stale := x.stale ++ old.filter (fun e => decide (groupEnd ≤ e.2.1) && decide (e.2.1 < groupEnd + 16)) }

/-- A load or store, at the end of clock e; data from outside local RAM can be read by the next group (R264, R271, R293, R294). -/
def lsuTrigger (s : State) (c e groupEnd : Nat) (width : Nat) (store signed : Bool) (a : Word) : State :=
  let x := coreOf s c
  let data := (opdOf x 3).toNat
  let res (due v : Nat) (y : Core) : Core := launch y ⟨3, due, extendLoad width signed v, 0, 0⟩
  match coreTarget s c a.toNat width store with
  | .error _ => s
  | .ok t =>
    if store then
      match t with
      | .iram o => setCore s c (iramStore x groupEnd o (toBytes width data))
      | .dram o => setCore s c { x with dram := writeBytes (2 ^ 32) x.dram o (toBytes width data) }
      | .away sp o =>
        let entry : StoreEntry := ⟨sp, o, width, data % 256 ^ width⟩
        if buffered sp && c != 9 then setCore s c { x with stores := x.stores ++ [entry] } else awayWrite s c entry
    else
      match t with
      | .away sp o => (match forwardOf x sp o width with
        | .value v => setCore s c (res (e + 2) v x)
        | _ => let (v, s1) := awayRead s c sp o width; onCore s1 c (res (e + 1) v))
      | local_ => setCore s c (res (e + 2) (ofBytes (localBytes x local_ width)) x)

/-- The shared SRAM offset of a request buffer: the address modulo the SRAM, its low three bits ignored (R417, DESIGN CHOICE, log 37). -/
def bufferAt (v : Word) : Nat := v.toNat % sramSize / 8 * 8

/-- Submits a local COP request (R417). -/
def nqSubmit (s : State) (c : Nat) (v : Word) (notify : Bool) : State :=
  let a := bufferAt v
  let w := sramWord s a
  let m := readBytes sramSize s.mem.sram (a + 8) (w % 65536)
  let tag := ofBytes ((m.drop 6).take 2)
  copMessage (setNet s { s.net with reqs := s.net.reqs ++ [⟨c, tag, a, w / 65536, notify, 2, 0⟩] }) (.proc (Fin.ofNat 9 c)) m

/-- The status of the oldest local request with a tag; a done request is forgotten (R417). -/
def nqStatus (s : State) (c tag : Nat) : Nat × State :=
  match s.net.reqs.find? (fun r => r.proc == c && r.tag == tag) with
  | none => (0, s)
  | some r =>
    (r.state + 256 * r.status,
      if r.state = 3 then setNet s { s.net with reqs := s.net.reqs.eraseP (fun q => q.proc == c && q.tag == tag) } else s)

/-- A staged entry of a plane, or its current copy, as a load of the dictionary window returns it (R25, R280). -/
def planeEntry (s : State) (n : Nat) (cur : Bool) (sub : Nat) : Nat :=
  let idx := 0x2500 + 64 * n + (if cur then 1 else 0)
  match dictRow? idx sub with
  | some r => (entryValue s r idx sub).toNat
  | none => 0

/-- A coprocessor trigger (R280). -/
def copTrigger (s : State) (c p ext : Nat) (v : Word) : State :=
  let x := coreOf s c
  let n := v.toNat
  let plane := (copOf x 272).toNat % 8
  let put (t : State) (port k : Nat) : State := onCore t c (fun y => setCop y port (natWord k))
  if p = 257 then
    let ctl := copOf x 256
    let s1 := localUpdate s ⟨v, ctl⟩ c
    if bitAt ext 0 then put s1 256 (putBits ctl.toNat 0 18 (ctl.toNat + 1)) else s1
  else if p = 258 then put s 260 (dispOf s (n % 262144))
  else if p = 259 then put s 260 (stagOf s (n % 262144) % 2 ^ 25)
  else if p = 273 then localWrite s (Fin.ofNat 9 c) (0x2500 + 64 * plane) ext n
  else if p = 274 then put s 275 (planeEntry s plane (bitAt ext 7) (ext % 128))
  else if p = 289 then dmaStart s ext (n + (copOf x 288).toNat % 256 * 2 ^ 32) false
  else if p = 290 then dmaBell s ext
  else if p = 291 then dmaHalt s ext
  else if p = 292 then put s 293 (regN s (chKey ext 7))
  else if p = 305 then bltRun s (n + (copOf x 304).toNat % 256 * 2 ^ 32) false
  else if p = 306 then put s 307 (regN s kBltStatus)
  else if p = 308 then bltAbort s
  else if p = 322 then audPush s ((copOf x 320).toNat + 2 ^ 32 * (copOf x 321).toNat) n ext
  else if p = 336 then nqSubmit s c v (bitAt ext 0)
  else let (k, s1) := nqStatus s c (n % 65536); put s1 338 k

/-- A division starts; a running one is abandoned (R269, R299). -/
def divTrigger (s : State) (c e : Nat) (signed : Bool) (t : Word) : State :=
  let x := coreOf s c
  let busy := x.div.any (fun d => decide (e < d.due))
  let (q, r) := divRes signed (opdOf x 4) t
  let y := { x with div := some ⟨e + 18, q, r, t == 0#32⟩, sticky := x.sticky ||| (if busy then 128 else 0) }
  coreEvent (setCore s c y) c 0x25 (if busy then 1 else 0)

/-- A trigger, at the end of clock e of the group that ends at `groupEnd`; `later` are the group's moves after this one. -/
def trigger (s : State) (c e groupEnd : Nat) (m : Move) (later : List Move) : State :=
  let x := coreOf s c
  let n := m.value.toNat
  match unitOf m.dst with
  | some 0 => setCore s c (match aluOps[m.dst - 41]? with
    | some op => launch x ⟨0, e + 1, aluRes op (opdOf x 0) m.value, if aluOvf op (opdOf x 0) m.value then 16 else 0, 0⟩
    | none => x)
  | some 1 => setCore s c (match aluOps[m.dst - 61]? with
    | some op => launch x ⟨1, e + 1, aluRes op (opdOf x 1) m.value, if aluOvf op (opdOf x 1) m.value then 32 else 0, 0⟩
    | none => x)
  | some 2 => setCore s c (match mulOps[m.dst - 105]? with
    | some op => launch x ⟨2, e + (if coreSmall c then 2 else 3), mulRes (coreSmall c) op (opdOf x 2) m.value, 0, 0⟩
    | none => x)
  | some 3 => (match accessOf m.dst with
    | some (width, store, signed) => lsuTrigger s c e groupEnd width store signed m.value
    | none => s)
  | some 4 => divTrigger s c e (m.dst == 130) m.value
  | some 5 => setCore s c (match fpuOps[m.dst - 145]? with
    | some op => let (r, f) := fpuRes op (opdOf x 5) m.value; launch x ⟨5, e + 4, r, 0, f⟩
    | none => x)
  | some 6 => setCore s c (match cmpOps[m.dst - 98]? with
    | some op =>
      let g := (resOf x 6).toNat % 8
      if later.any (fun k => k.runs && k.dst == 32 + g) then x else setGuard x g (cmpRes op (opdOf x 6) m.value)
    | none => x)
  | some _ => s
  | none =>
    if m.dst = 116 then pinWrite s c e (fun k old => if gpioMask n k then true else old)
    else if m.dst = 117 then pinWrite s c e (fun k old => if gpioMask n k then false else old)
    else if m.dst = 118 then pinWrite s c e (fun k old => if gpioMask n k then !old else old)
    else if m.dst = 177 then setCore s c { x with run := 2 }
    else if m.dst < 496 then copTrigger s c m.dst m.ext m.value
    else s

/-! ### The end of a group -/

/-- The direct writes of a group, in address order: the first of two writes of one destination is discarded (R259). -/
def directWrites (s : State) (c e at_ : Nat) : List Move → State
  | [] => s
  | m :: ms =>
    let ms' := ms.filter (fun k => k.runs)
    directWrites (if m.runs && !(isTrigger m.dst) && !(ms'.any (fun k => k.dst == m.dst)) then portWrite s c e at_ m.dst m.value else s) c e at_ ms

/-- The triggers of a group: of one unit only the last (R259). -/
def triggers (c e groupEnd : Nat) : List Move → State → State
  | [], s => s
  | m :: ms, s =>
    let dup := (unitOf m.dst).isSome && ms.any (fun k => k.runs && unitOf k.dst == unitOf m.dst)
    triggers c e groupEnd ms (if m.runs && isTrigger m.dst && !dup then trigger s c e groupEnd m ms else s)

/-- The counter of the branch predictor that serves an address (R290). -/
def predCounter (x : Core) (addr : Nat) : Nat := mapGet (fun _ => 1) x.pred (addr / 4 % 1024)

/-- The counter of a guarded branch moves with its outcome. -/
def predUpdate (c : Nat) (x : Core) (addr : Nat) (guarded taken : Bool) : Core :=
  if coreSmall c || x.predOff || !guarded then x
  else { x with pred := mapSet (fun _ => 1) x.pred (addr / 4 % 1024) (if taken then min 3 (predCounter x addr + 1) else predCounter x addr - 1) }

/-- The return-address stack after a call or a return (R292). -/
def rasUpdate (c : Nat) (x : Core) (dst next : Nat) : Core :=
  if dst = 89 then { x with ras := (next :: x.ras).take (if coreSmall c then 4 else 8) } else if dst = 90 then { x with ras := x.ras.drop 1 } else x

/-- Whether the fetcher has fetched the early target of a branch predicted taken in the group's last clock: it has one, inside the instruction
RAM, and the group leaves the fetcher its clock (R286, R288, R298). -/
def earlyFetched (c : Nat) (fetches : Bool) (predicted : Bool × Option Nat) : Bool :=
  predicted.1 && fetches && predicted.2.any (fun a => decide (a < iramSize c))

/-- The outcome of a branch group with last clock b (R288): where fetch restarts and when, wrong-path words, mispredictions. `fetches` says whether the
group left the fetcher clock b. A branch predicted taken that is not taken goes on in sequence (R297). -/
def branchEnd (s : State) (c b addr next : Nat) (predicted : Bool × Option Nat) (guarded fetches : Bool) (target : Option (Nat × Nat)) : State :=
  let x := coreOf s c
  let lost := unusedWords x
  let early := if earlyFetched c fetches predicted then 1 else 0
  match target with
  | none =>
    let y := predUpdate c x addr guarded false
    if predicted.1 then coreEvent (coreEvent (setCore s c { restartAt y next [] with stale := y.stale }) c 0x23 (lost + early)) c 0x24 1
    else setCore s c { y with pc := next }
  | some (dst, a) =>
    let y := rasUpdate c (predUpdate c x addr guarded true) dst next
    let y1 := if dst = 89 then { y with link := natWord next } else y
    if predicted.1 ∧ predicted.2 = some a then coreEvent (setCore s c (restartAt y1 a (if early = 1 then [b] else []))) c 0x23 lost
    else coreEvent (coreEvent (setCore s c (restartAt y1 a [])) c 0x23 (lost + early)) c 0x24 1

/-- The request that stands for a processor: its priority, its slot, and the state once it is entered. -/
def coreRequest (s : State) (c : Nat) : Option (Nat × Nat × State) :=
  if c = 9 then (lglPresented s).map (fun k => (k, k, setStack (lglClaim s k) 9 ((k, k) :: stackOf s 9)))
  else
    let fresh := (icPresented s c).map (fun src => let r := regN s (routeKey src); (routePrio r, routeSlot r, icEnter s c src))
    match lateWindow s c, fresh with
    | some w, none => some (w.prio, w.slot, icEnterLate s c w)
    | some w, some f => if f.1 ≤ w.prio then some (w.prio, w.slot, icEnterLate s c w) else some f
    | none, f => f

/-- The request that a core enters before its next group: its priority exceeds the core's level and threshold, and no handler that was just entered
still waits for its first group (R305, R306). -/
def entered (s : State) (c : Nat) : Option (Nat × Nat × State) :=
  if (coreOf s c).fresh then none else (coreRequest s c).filter (fun r => decide ((coreOf s c).level < r.1) && decide (thrOf s c < r.1))

/-- bru.retint at the end of clock x (R307): the shadow entry is popped; the finished handler's guards are kept for a chained entry, with whether a
request stands at the end of x. -/
def retInt (s : State) (c : Nat) : State :=
  let x := coreOf s c
  match x.stack with
  | [] => s
  | sh :: rest =>
    let y : Core := { restartAt x sh.pc [] with stack := rest, guards := sh.guards, level := sh.level }
    coreEvent (setCore s c { y with returned := some (x.guards, (entered (setCore s c y) c).isSome) }) c 0x23 (unusedWords x)

/-- Whether a group accesses local RAM, which takes the fetcher's clock (R287). -/
def ramAccess (c : Nat) (ms : List Move) : Bool := ms.any (fun m => m.runs && (match accessOf m.dst with
  | some _ => decide (m.value.toNat < (if c = 9 then 0x20000 else 0x10000))
  | none => false))

/-- Whether the fetcher has the last clock of a group to itself: not when the group accesses instruction RAM (R286). -/
def fetcherFree (c : Nat) (ms : List Move) : Bool := !(ramAccess c ms)

/-- A core at the last clock of a group that ends at `next` and occupies `n` clocks: the fetcher ran in them, but for a last clock that an access or
the early target of a predicted branch takes, and results due completed (R258, R286, R288). -/
def groupEnds (c : Nat) (g : HeldGroup) (x : Core) (n next : Nat) : Core :=
  let lost := if ramAccess c g.moves || (g.predicted.any (fun p => p.1)) then 1 else 0
  { fetchClocks c (completeBy x (x.cyc + (n - 1))) x.cyc (n - lost) with cyc := x.cyc + (n - 1), held := none, prev := [], pc := next }

/-- A core's clock moves on. -/
def clockTo (t : Nat) (y : Core) : Core := { y with cyc := t }

/-- What the branch move of a group does at its end: the last of them that executes, or a predicted one that does not (R272, R288, R295, R307). -/
def groupBranch (s1 s3 : State) (c e next : Nat) (g : HeldGroup) : State :=
  match ((g.moves.filter (fun m => unitOf m.dst == some 7)).filter (fun m => m.runs)).getLast?, g.predicted with
  | some m, p =>
    if m.dst = 91 then retInt s3 c
    else if m.dst = 92 then coreEvent (onCore s3 c (fun y => restartAt y next [])) c 0x23 (unusedWords (coreOf s3 c))
    else match branchTarget (coreOf s1 c) m.dst m.value with
      | some a => branchEnd s3 c e g.addr next (p.getD (false, none)) g.guarded (fetcherFree c g.moves) (some (m.dst, a))
      | none => s3
  | none, some p => branchEnd s3 c e g.addr next p g.guarded (fetcherFree c g.moves) none
  | none, none => s3

/-- A held or ready group completes: it occupies `n` clocks, and its writes, triggers and branch take effect at the end of the last (R258, R272). -/
def finishGroup (s : State) (c : Nat) (g : HeldGroup) (n : Nat) : State :=
  let x := coreOf s c
  let e := x.cyc + (n - 1)
  let next := g.addr + g.len
  let s0 := coreEvent (setCore s c (groupEnds c g x n next)) c 0x21 (n - 1)
  let s1 := onCore s0 c (fun y => { y with prev := oldPorts s0 c g.moves })
  let s2 := triggers c e next g.moves (directWrites s1 c e g.addr g.moves)
  groupBranch s1 (onCore s2 c (clockTo (e + 1))) c e next g

end Sys2Proof.Machine
end

