-- ==== Sys2Proof/Machine/CoreRun.lean ====
section
/-! DEFINITION. Issuing the groups of a Buzhail core (10, 11): prediction, macros, holds and how they end, interrupt entry, and the steps that a core's
commands share. -/
namespace Sys2Proof.Machine

/-! ### Prediction (R289, R291) -/

/-- What a port holds at the start of the clock before clock t: a value that the group just before wrote is not yet there. -/
def earlyPort (s : State) (c t p : Nat) : Word :=
  let x := coreOf s c
  match (if t = x.cyc then mapGet (fun _ => none) x.prev p else none) with
  | some w => w
  | none => (portValue (setCore s c { completeBy x (t - 1) with cyc := t - 1 }) c p).1

/-- The early target of a branch move. -/
def earlyTarget (s : State) (c t : Nat) (m : RawMove) : Option Nat :=
  if m.dst = 90 then (coreOf s c).ras.head?
  else match m.src with
  | .value w => some w.toNat
  | .port p => some (earlyPort s c t p).toNat

/-- The prediction of a branch move at `addr` that issues in clock t: taken or not, and the early target. -/
def predictMove (s : State) (c t addr : Nat) (m : RawMove) : Bool × Option Nat :=
  let x := coreOf s c
  let early := earlyTarget s c t m
  let taken :=
    if x.predOff then false
    else if m.guard = 0 then !m.inv
    else if coreSmall c then early.any (fun a => decide (a < addr))
    else decide (2 ≤ predCounter x addr)
  (taken, early)

/-! ### Macros (R281, R282) -/

/-- A step of the decode table. -/
def stepWord (x : Core) (k i : Nat) : Nat := (mapGet (fun _ => 0x10000000#32) x.mc (32 * k + i)).toNat

/-- The fault of a macro's step, in the order of R302; it names the step's destination port (R282). -/
def stepFault (s : State) (c w : Nat) (arg : Word) (ext : Nat) : Option (Nat × Nat × Nat) :=
  let m := stepMove w arg ext
  if (portFault (coreOf s c) c m).isSome then some (1, 0, m.dst)
  else if stepReserved w then some (2, 0, m.dst)
  else (moveFault s c m).map (fun f => (f.1, f.2.1, m.dst))

/-- Holds step i of macro k as the group in issue, its source read and the immediate-high latch used up, or takes the step's fault. -/
def armStep (s : State) (c : Nat) (g : HeldGroup) (k i : Nat) (arg : Word) (ext : Nat) : State :=
  let w := stepWord (coreOf s c) k i
  match stepFault s c w arg ext with
  | some (code, detail, port) => takeFault (onCore s c (fun y => { y with held := none })) c code detail port g.faultAt
  | none =>
    let (ms, s1) := readMoves s c [stepMove w arg ext]
    coreEvent (onCore s1 c (fun y =>
      { y with immHi := none, held := some { g with moves := ms, mac := some (k, i, arg, ext), forData := false, overlap := false, masked := none } })) c 0x27 1

/-! ### A group in issue -/

/-- Whether step i of macro k is the last. -/
def lastStep (x : Core) (k i : Nat) : Bool := bitAt (stepWord x k i) 28 || i == 31

/-- The clocks that a group occupies whose load data arrive after `n` clocks: for shared SRAM on an application core the latency of R29. -/
def dataClocks (s : State) (c : Nat) (ms : List Move) (n : Nat) : Nat :=
  let shared := ms.any (fun m => m.runs && (match accessOf m.dst with
    | some (width, false, _) => (match coreTarget s c m.value.toNat width false with
      | .ok (.away .sram _) => true
      | _ => false)
    | _ => false))
  if shared && decide (c < 8) then slotLatency c (coreOf s c) else max 1 n

/-- Whether a move that executes is a store to MRAM. -/
def mramMove (s : State) (c : Nat) (m : Move) : Bool := m.runs && (match accessOf m.dst with
  | some (width, true, _) => (match coreTarget s c m.value.toNat width true with
    | .ok (.away .mram _) => true
    | _ => false)
  | _ => false)

/-- The clocks that a group without load data occupies: one, and up to 25 more, free, for a store of the legal core to MRAM (R221, R296). -/
def storeClocks (s : State) (c : Nat) (ms : List Move) : Nat × State :=
  if c == 9 && ms.any (mramMove s c) then let (f, t) := drawFree s; (1 + f % 26, t) else (1, s)

/-- Whether a group waits for the acceptance of a mask write that it has sent. -/
def maskPending (s : State) (g : HeldGroup) : Bool := g.masked.any (fun src => s.ic.waiting.any (fun w => w.source == src))

/-- What a held group waits for: its mask write, then what its moves wait for. -/
def heldWait (s : State) (c : Nat) (g : HeldGroup) : Wait := if maskPending s g then .accept else groupWait s c (coreOf s c) g.moves

/-- A store of a held group that is a synchronised mask write reaches the controller, once nothing else holds it back (R293, R320); the move is done. -/
def sendMask (s : State) (c : Nat) (g : HeldGroup) : HeldGroup × State :=
  match g.moves.findSome? (fun m => if m.runs && m.dst == 86 && (coreOf s c).stores.isEmpty then
      (match coreTarget s c m.value.toNat 4 true with
      | .ok (.away .dict off) => if entryOffline s (winIdx off) (winSub off) then none else
        (maskStore s c off (opdOf (coreOf s c) 3).toNat).map (fun src => (m, src, off))
      | _ => none) else none) with
  | some (m, src, off) =>
    ({ g with masked := some src, moves := g.moves.map (fun k => if k = m then { k with runs := false } else k) },
      awayWrite s c ⟨.dict, off, 4, (opdOf (coreOf s c) 3).toNat⟩)
  | none => (g, s)

/-- Drives the group in issue as far as it goes: it waits, or it completes, and a macro goes on to its next step. `arrived` is how many clocks the
data of a waiting load took, where they have come. -/
def drive : Nat → State → Nat → Option Nat → State
  | 0, s, _, _ => s
  | fuel + 1, s, c, arrived =>
    match (coreOf s c).held with
    | none => s
    | some g =>
      let hold (h : HeldGroup) (t : State) : State := onCore t c (fun y => { y with held := some h })
      let done (s : State) (n : Nat) : State :=
        let t := finishGroup s c g n
        match g.mac with
        | some (k, i, arg, ext) =>
          if lastStep (coreOf s c) k i || ((coreOf t c).run != 1 && (coreOf t c).run != 2) then t
          else drive fuel (armStep (onCore t c (fun y => completeBy y y.cyc)) c g k (i + 1) arg ext) c none
        | none => t
      match heldWait s c g, arrived with
      | .overlap, _ => if g.overlap then s else hold { g with overlap := true } (coreEvent s c 0x22 1)
      | .accept, _ => let (h, t) := if maskPending s g then (g, s) else sendMask s c g; hold { h with forData := false } t
      | .data, none => hold { g with forData := true } s
      | .data, some n => done s (dataClocks s c g.moves n)
      | .none, _ => let (n, t) := storeClocks s c g.moves; done t n

/-- The steps that one command can drive: a macro has at most 32. -/
def driveFuel : Nat := 40

/-- A core at the clock in which a group issues: results due complete, a chained entry's guards are used up, an entered handler has issued its first
group, and the group's words leave the queue (R258, R286, R306, R307). -/
def groupIssues (y : Core) (t next : Nat) : Core :=
  { dropWords (completeBy y t) next with cyc := t, returned := none, fresh := false, pc := next }

/-- A core whose group is in issue, its sources read: the latch of imm.hi is used up (R274). -/
def groupHeld (g : HeldGroup) (y : Core) : Core := { y with immHi := none, held := some g }

/-- Issues a group whose words stand in the queue in clock t, on the core `y` of that clock: a fault, a macro, or its moves (R258, R260, R300). -/
def issueWords (s : State) (c : Nat) (raws : List RawMove) (addr len faultAt : Nat) (y : Core) (t : Nat) : State :=
  let bru := (raws.filter (fun m => isBranch m.dst)).getLast?
  let predicted := bru.map (predictMove (setCore s c y) c t addr)
  let s1 := coreEvent (setCore s c (groupIssues y t (addr + len))) c 0x20 1
  match raws.findSome? (moveFault s1 c) with
  | some (code, detail, port) => takeFault s1 c code detail port faultAt
  | none =>
    let g : HeldGroup := ⟨[], addr, len, faultAt, predicted, bru.any (fun m => !(m.guard == 0) || m.inv), none, false, false, none⟩
    match raws.find? (fun m => decide (496 ≤ m.dst) && moveRuns (coreOf s1 c) m) with
    | some m =>
      let (arg, s2) := srcValue s1 c m.src
      drive driveFuel (armStep s2 c g (m.dst - 496) 0 arg m.ext) c none
    | none =>
      let (ms, s2) := readMoves s1 c raws
      drive driveFuel (onCore s2 c (groupHeld { g with moves := ms })) c none

/-- The address that a fault of the group at `addr` reports: that of an imm.hi move before it (R274, R302). -/
def faultAddr (x : Core) (addr : Nat) : Nat := match x.immHi with
  | some (_, a) => a
  | none => addr

/-- Issues a group at `addr`: outside the instruction RAM it faults, else it waits for its words (R286, R302). -/
def issueGroup (s : State) (c : Nat) (raws : List RawMove) (addr len : Nat) : State :=
  let x := coreOf s c
  if iramSize c < addr + len then takeFault (onCore s c (fun y => { y with immHi := none, returned := none })) c 5 1 0 (faultAddr x addr)
  else
    let w := awaitWords c addr len 8 x x.cyc
    issueWords s c raws addr len (faultAddr x addr) w.1 w.2

/-- Issues the group at the program counter. -/
def issueNext (c : Nat) (s : State) : State :=
  let x := coreOf s c
  let (raws, len) := fetchGroup x x.pc
  issueGroup s c raws x.pc len

/-- Issues a long parcel at the program counter whose one move is given. -/
def issueMove (c : Nat) (m : RawMove) (s : State) : State := issueGroup s c [m] (coreOf s c).pc 4

/-! ### Interrupt entry (R305 to R307, R223) -/

/-- A core at E0 of an entry (R305): the first clock in which it would issue a group, with the fetcher run up to it; the present clock for a core that
waits. After bru.retint E0 is the clock after its last when the request stood then, else one later, and the words fetched of the
returned-to path up to E0 are there to be discarded (R307; DEDUCED, log 97). -/
def entryAt (c : Nat) (x : Core) : Core :=
  match x.returned with
  | some (_, now) => let k := if now then 0 else 1; { fetchClocks c x x.cyc (k + 1) with cyc := x.cyc + k }
  | none =>
    let len := (fetchGroup x x.pc).2
    if x.run == 2 || decide (iramSize c < x.pc + len) then x
    else let w := awaitWords c x.pc len 8 x x.cyc; { w.1 with cyc := w.2 }

/-- Enters a request. -/
def enterRequest (s : State) (c : Nat) (r : Nat × Nat × State) : State :=
  if 31 ≤ (coreOf s c).stack.length then lockup s c 0 (coreOf s c).pc
  else
    let y := entryAt c (coreOf s c)
    enterSlot (onCore r.2.2 c (fun _ => y)) c y.cyc y.pc r.1 r.2.1 false

/-- The clocks that a core spent in ctl.wait pass when it goes on: how many is open, so they are free (R273, R276; log 29). -/
def waited (s : State) (c : Nat) : State :=
  let x := coreOf s c
  if x.run == 2 then
    let (f, t) := drawFree s
    setCore t c { fetchClocks c (completeBy x (x.cyc + f)) x.cyc f with cyc := x.cyc + f }
  else s

/-- Whether a waiting core issues again: an interrupt that its threshold lets through is pending (R276). -/
def wakes (s : State) (c : Nat) : Bool := match coreRequest s c with
  | some r => decide (thrOf s c < r.1)
  | none => false

/-! ### Steps that commands share -/

/-- A single step that a debugger asked for ends with the group (R455). -/
def stepEnd (c : Nat) (s : State) : State :=
  let x := coreOf s c
  if x.stepReq && x.held.isNone && x.run != 3 then setCore s c { x with run := 3, stepReq := false } else s

/-- Whether a core issues groups: it is clocked and neither in reset nor halted. -/
def coreIssues (s : State) (c : Nat) : Bool := coreOn s c && ((coreOf s c).run == 1 || (coreOf s c).run == 2)

/-- A core that waited runs again. -/
def coreRuns (y : Core) : Core := { y with run := 1 }

/-- A core's clock passes `n` clocks in which its group holds: units and the fetcher run, and the clocks count (R273, R286, R296). -/
def holdClocks (s : State) (c n : Nat) : State :=
  coreEvent (onCore s c (fun y => { fetchClocks c (completeBy y (y.cyc + n)) y.cyc n with cyc := y.cyc + n })) c 0x21 n

/-- The fault of a held group whose access no longer succeeds at the end of its hold (R301). -/
def heldFault (s : State) (c : Nat) (g : HeldGroup) : Option (Nat × Nat × Nat) :=
  (g.moves.filter (fun m => m.runs)).findSome? (fun m => accessFault s c (plainMove m.dst m.ext (.value m.value)) m.value)

/-- A held group goes on after `n` clocks of its hold, with the clocks that its load's data took where they have come. -/
def resume (s : State) (c n : Nat) (arrived : Option Nat) : State :=
  match (coreOf s c).held with
  | none => s
  | some g => match heldFault s c g with
    | some (code, detail, port) => takeFault (onCore s c (fun y => { y with held := none })) c code detail port g.faultAt
    | none => drive driveFuel (if g.forData then s else holdClocks s c n) c arrived

/-- One step of a core: a held group goes on, a request is entered in place of the next group, or the group issues. -/
def coreStep (s : State) (c : Nat) (issue : State → State) : State :=
  let x := coreOf s c
  if !(coreIssues s c) then s
  else if x.held.isSome then stepEnd c (resume s c 1 none)
  else if x.run == 2 && !(wakes s c) then s
  else match (if x.immHi.isSome then none else entered s c) with
  | some r => stepEnd c (enterRequest (waited s c) c (r.1, r.2.1, waited r.2.2 c))
  | none => stepEnd c (issue (onCore (waited s c) c coreRuns))

/-- The data of a held load return after `n` clocks (R23, R29). -/
def dataReturn (s : State) (c n : Nat) : State := if coreIssues s c then stepEnd c (resume s c 1 (some n)) else s

/-- The clocks that a held group spends until the oldest store has drained: to the end of the core's own slot for shared SRAM (R293). -/
def drainClocks (c : Nat) (x : Core) (e : StoreEntry) : Nat := if e.space == .sram && decide (c < 8) then slotWait c x else 1

/-- Whether the target of a buffered store can accept it: it has power. A store in the buffer always completes, once its target does (R293). -/
def storeTaken (s : State) (e : StoreEntry) : Bool := match e.space with
  | .sram => domainOn s 8
  | .vsram => domainOn s 14
  | .ext => engineOn s 18
  | .staging => engineOn s 8
  | .attr => engineOn s 8
  | _ => true

/-- The oldest buffered store is accepted; a held group tries again when it has drained (R293). -/
def storeDrain (s : State) (c : Nat) : State :=
  if !(coreOn s c) then s
  else match (coreOf s c).stores with
  | [] => s
  | e :: rest =>
    if !(storeTaken s e) then s else
    let s1 := awayWrite (onCore s c (fun y => { y with stores := rest })) c e
    if (coreOf s1 c).held.isSome && coreIssues s1 c then stepEnd c (resume s1 c (drainClocks c (coreOf s1 c) e) none) else s1

/-- The core's clock runs to a later clock, and the results due by then complete (R264). -/
def runClock (s : State) (c t : Nat) : State :=
  onCore s c (fun x => { fetchClocks c (completeBy x t) x.cyc (t - x.cyc) with cyc := max x.cyc t, prev := [] })

/-- The oldest result in flight completes. -/
def resultComplete (s : State) (c : Nat) : State :=
  if !(coreOn s c) || (coreOf s c).held.isSome then s
  else match (coreOf s c).flight with
  | [] => s
  | f :: fs => runClock s c (fs.foldl (fun t g => min t g.due) f.due)

/-- The running division completes (R269). -/
def divDone (s : State) (c : Nat) : State :=
  if !(coreOn s c) || (coreOf s c).held.isSome then s
  else match (coreOf s c).div with
  | none => s
  | some d => runClock s c d.due

/-- The interrupt entry of a core whose request stands. -/
def intEntry (s : State) (c : Nat) : State :=
  let x := coreOf s c
  if !(coreIssues s c) || x.held.isSome || x.immHi.isSome then s
  else match entered s c with
  | some r => stepEnd c (enterRequest (waited s c) c (r.1, r.2.1, waited r.2.2 c))
  | none => s

/-- A fault of the group at the program counter (R300 to R304); only BUS_ERROR has a DETAIL. -/
def faultEntry (s : State) (c code detail port : Nat) : State :=
  if !(coreIssues s c) then s
  else
    let x := coreOf s c
    let addr := match x.held with
      | some g => g.faultAt
      | none => (x.immHi.map Prod.snd).getD x.pc
    stepEnd c (takeFault (setCore s c { x with run := 1, held := none, immHi := none, returned := none }) c code (if code = 5 then detail else 0) port addr)

end Sys2Proof.Machine
end

