-- ==== Sys2Proof/Machine/Debug.lean ====
section
/-! DEFINITION. The debug port (R451 to R458): the TAP's instructions, capabilities, authentication, and debugger accesses. -/
namespace Sys2Proof.Machine

/-! ### Capabilities (R455) -/

/-- Whether the table's cell holds a capability: 0 A, 1 W, 2 L, 3 X, 4 M, 5 K, numbered as in PERM. -/
def capCell (s : State) (b : Nat) : Bool :=
  let lc := s.sec.fuses.lifecycle
  if s.sec.dbg = 0 then false
  else if pwrState s = 2 then b == 5 && !(lc == 2 && s.sec.dbg == 1)
  else if lc = 2 then s.sec.dbg == 2 && (b == 4 || (b == 0 && pwrState s == 0))
  else b == 1 || b == 3 || b == 4 || (b == 0 && pwrState s == 0) || (b == 2 && (lc == 3 || (lc == 1 && s.sec.dbg == 2 && !s.bm.sealClosed)))

/-- Whether the debugger has a capability: an authenticated one needs it in its grant too; without supplies nothing answers. -/
def capable (s : State) (b : Nat) : Bool := s.pwr.supply && capCell s b && (!(s.sec.dbg == 2) || bitAt s.sec.grant b)

/-- The capability that a DAP target needs. -/
def targetCap (t : Nat) : Nat := if t < 8 then 0 else if t = 8 then 1 else if t = 9 then 2 else 4

/-! ### The TAP (R451) -/

/-- Shifts an instruction with the content of its data register; pads that EXTEST drove are released. -/
def tapShift (s : State) (ir dr : Nat) : State :=
  if s.pwr.supply then
    let t := setSec s { s.sec with ir := ir, dr := dr }
    if s.sec.ir = 3 then pinsChanged s t else t
  else s

/-- BYPASS: every instruction that the present state does not allow. -/
def tapBypass (s : State) : State := tapShift s 0x1F 0

/-- IDCODE. -/
def tapIdcode (s : State) : State := tapShift s 1 (secIdcode s)

/-- The levels of the pads, as a scan captures them. -/
def padCapture (s : State) : Nat := (List.range 48).foldl (fun a i => if padLevel s i then a + 2 ^ i else a) 0

/-- SAMPLE/PRELOAD: the pads are captured, and the scan value is loaded. -/
def tapSample (s : State) (v : Nat) : State :=
  if capable s 3 then
    let t := tapShift s 2 (padCapture s)
    setSec t { t.sec with scan := v % 2 ^ 48 }
  else tapBypass s

/-- EXTEST: the pads are captured and driven from the scan value. -/
def tapExtest (s : State) (v : Nat) : State :=
  if capable s 3 then pinsChanged s (setSec s { s.sec with ir := 3, dr := padCapture s, scan := v % 2 ^ 48 }) else tapBypass s

/-! ### Attaching and authentication (R452, R453) -/

/-- A debugger attaches. -/
def dbgAttach (s : State) : State :=
  if s.sec.dbg = 0 ∧ s.pwr.supply then icAssert (setSec s { s.sec with dbg := 1, ir := 9, dr := 1, forced := false }) 579 else s

/-- The debug state returns to DETACHED; a partition that was forced restarts (R456). -/
def dbgDetach (s : State) : State :=
  let halted := if s.sec.forced then s.sec.halted.filter (fun k => !(k == 9)) else s.sec.halted
  let t := setSec s { s.sec with dbg := 0, grant := 0, nonce := none, response := none, forced := false, halted := halted, ir := 9, dr := 0 }
  pinsChanged s (if s.sec.forced && !(s.bm.state == bmOff) then bmPublish (bmRestart t) else t)

/-- TRST_N low: detached, and the TAP's instruction is IDCODE. -/
def tapReset (s : State) : State :=
  let t := dbgDetach s
  setSec t { t.sec with ir := 1, dr := secIdcode t }

/-- A challenge is answered no sooner than 1 s after a failed response. -/
def challengeHeld (s : State) : Bool := match s.sec.failedAt with
  | some t => decide (timeNow s < t + 1000000000)
  | none => false

/-- DBG_CHALLENGE: a fresh nonce, with the unique identifier above it; zeros without domain 8. -/
def dbgChallenge (s : State) : State :=
  if s.sec.dbg = 0 then tapBypass s
  else if !(domainOn s 8) then tapShift s 0x0A 0
  else if challengeHeld s then s
  else
    let (n, t) := drawFree s
    let n := n % 2 ^ 128
    tapShift (setSec t { t.sec with nonce := some n, failedAt := none }) 0x0A (n + 2 ^ 128 * s.sec.fuses.uid)

/-- A failed authentication. -/
def authFail (s : State) : State :=
  let t := setSec s { s.sec with dbg := 1, grant := 0, response := none, failedAt := some (timeNow s) }
  if domainOn s 8 then perfEvent (setFlag (bump t (entryKey 0x2900 0x0D)) (entryKey 0x2900 0x0C) 0) 36 0x21 1 else t

/-- DBG_RESPONSE: the response is checked against the nonce that stands now. -/
def dbgResponse (s : State) (perm : Nat) (key sig : List Byte) : State :=
  if s.sec.dbg = 0 then tapBypass s
  else if !(domainOn s 8) then authFail (tapShift s 0x0B 0)
  else
    let t := tapShift s 0x0B 0
    setSec t { t.sec with response := some ⟨perm % 2 ^ 32, (key ++ List.replicate 64 0#8).take 64, (sig ++ List.replicate 64 0#8).take 64, t.sec.nonce⟩ }

/-- Whether a response is good (R453). -/
def responseGood (s : State) (r : DbgResponse) : Bool := match r.nonce with
  | none => false
  | some n =>
    s.sec.nonce == some n && decide (r.perm < 128) &&
      verifyImage s.sec.fuses.dbgHash (r.key ++ r.sig) (sha256 (toBytes 16 n ++ toBytes 8 s.sec.fuses.uid ++ toBytes 4 r.perm)) == 0

/-- The check of a response ends. -/
def authCheckDone (s : State) : State := match s.sec.response with
  | none => s
  | some r =>
    let t := perfEvent s 36 0x20 1
    if responseGood s r then setSec t { t.sec with dbg := 2, grant := r.perm, nonce := none, response := none } else authFail t

/-- DBG_WAKE (R457). -/
def dbgWake (s : State) : State := if capable s 5 then wakeCause (tapShift s 0x0C 1) 5 else tapBypass s

/-! ### Debugger accesses (R454, R456) -/

/-- The data register after a DAP operation: OK, DENIED or ERROR, and read data. -/
def dapAnswer (s : State) (result data : Nat) : State := tapShift s 8 (result + 2 ^ 40 * (data % 2 ^ 32))
def dapOk : Nat := 1
def dapDenied : Nat := 2
def dapError : Nat := 4

/-- The first access to the partition in a session forces debug into it. -/
def forceDebug (s : State) : State :=
  if s.sec.forced then s
  else
    let t := debugForced s (s.sec.grant % 256) (if s.sec.fuses.lifecycle = 1 then 1 else 2)
    setSec t { t.sec with forced := true, halted := if t.sec.halted.contains 9 then t.sec.halted else t.sec.halted ++ [9] }

/-- Whether a DAP operation on a target is allowed. -/
def dapAllowed (s : State) (t : Nat) : Bool := decide (t ≤ 10) && capable s (targetCap t) && (!(t == 9) || !(s.bm.state == bmOff))

/-- The processor as which the interconnect is accessed. -/
def dapAgent (t : Nat) : Nat := if t = 10 then 8 else t

/-- The target of a debugger's word access: as the processor's own, and for the interconnect without local RAM. -/
def dapTarget (s : State) (t a : Nat) (store : Bool) : Except Nat Target :=
  if t < 10 && !(coreOn s t || (t == 9 && domainOn s 4)) then .error 5
  else if t = 10 ∧ a < 0x20000 then .error 5
  else coreTarget s (dapAgent t) a 4 store

/-- SEC_LIFECYCLE in the map of R19, which capability I reads. -/
def lifecycleAddr : Nat := 0x40000000 + 0x2900 * 1024 + 4

/-- A debugger reads a word; one of the display view completes after the walk (R63). -/
def dapRead (s : State) (t a : Nat) : State :=
  if !s.pwr.supply then s
  else if t = 10 ∧ a = lifecycleAddr ∧ domainOn s 8 then dapAnswer s dapOk s.sec.fuses.lifecycle
  else if !(dapAllowed s t) then dapAnswer s dapDenied 0
  else
    let s1 := if t = 9 then forceDebug s else s
    match dapTarget s1 t a false with
    | .error _ => dapAnswer s1 dapError 0
    | .ok (.away sp off) =>
      let (v, s2) := awayRead (if sp = .display then walkFinish s1 else s1) (dapAgent t) sp off 4
      dapAnswer s2 dapOk v
    | .ok tg => dapAnswer s1 dapOk (ofBytes (localBytes (coreOf s1 t) tg 4))

/-- A debugger writes a word. -/
def dapWrite (s : State) (t a v : Nat) : State :=
  if !s.pwr.supply then s
  else if !(dapAllowed s t) then dapAnswer s dapDenied 0
  else
    let s1 := if t = 9 then forceDebug s else s
    match dapTarget s1 t a true with
    | .error _ => dapAnswer s1 dapError 0
    | .ok (.away sp off) => dapAnswer (awayWrite s1 (dapAgent t) ⟨sp, off, 4, v % 2 ^ 32⟩) dapOk 0
    | .ok (.iram o) => dapAnswer (onCore s1 t (fun x => { x with iram := writeBytes (2 ^ 32) x.iram o (toBytes 4 v) })) dapOk 0
    | .ok (.dram o) => dapAnswer (onCore s1 t (fun x => { x with dram := writeBytes (2 ^ 32) x.dram o (toBytes 4 v) })) dapOk 0

/-- Whether a halt or resume of the Warden must wait. -/
def wardenWaits (s : State) (t : Nat) : Bool := t == 8 && (s.pwr.trans.isSome || s.pwr.resuming || recovering s)

/-- A debugger halts a processor. -/
def dapHalt (s : State) (t : Nat) : State :=
  if !s.pwr.supply then s
  else if !(dapAllowed s t) then dapAnswer s dapDenied 0
  else if t = 9 then dapAnswer (forceDebug s) dapOk 0
  else if t = 10 || !(coreOn s t) then dapAnswer s dapError 0
  else if wardenWaits s t then setSec s { s.sec with late := some true }
  else if coreIssues s t then
    let s1 := haltCore s t
    dapAnswer (setSec s1 { s1.sec with halted := s1.sec.halted ++ [t] }) dapOk 0
  else dapAnswer s dapOk 0

/-- A debugger resumes a processor, for one group when `step`; one that has locked up stays so until a reset (R304). The legal core restarts its
partition instead. -/
def dapResume (s : State) (t : Nat) (step : Bool) : State :=
  if !s.pwr.supply then s
  else if !(dapAllowed s t) then dapAnswer s dapDenied 0
  else if t = 9 then
    let s1 := forceDebug s
    let s2 := bmPublish (bmRestart s1)
    dapAnswer (setSec s2 { s2.sec with halted := s2.sec.halted.filter (fun k => !(k == 9)) }) dapOk 0
  else if t = 10 || !(coreOn s t) then dapAnswer s dapError 0
  else if wardenWaits s t then setSec s { s.sec with late := some false }
  else if s.sec.halted.contains t && !(coreOf s t).lockup then
    let s1 := onCore s t (fun x => { x with run := 1, stepReq := step })
    let halted := if step then s1.sec.halted else s1.sec.halted.filter (fun k => !(k == t))
    dapAnswer (setSec s1 { s1.sec with halted := halted }) dapOk 0
  else dapAnswer s dapOk 0

end Sys2Proof.Machine
end

