-- ==== Sys2Proof/Machine/CmdDisplay.lean ====
section
/-! DEFINITION. The meanings of the commands of the dictionary, the signal store, the raster, the planes, the composer and the outputs. Every meaning ends
with `finish`, which brings about what its events cause. -/
namespace Sys2Proof.Machine

/-- A COP message of the network or the SPI host is counted, and may wake the device; a local request is neither (R397, R417, R422). -/
def copReceived (s : State) (h : CopHdr) : State := if isLocal h.path then s else copWakes (countRx s) h

/-! ### The dictionary and COP -/

/-- DICT_WRITE (R420, R409): the writes of one clock. -/
def execDictWrite (ws : List DictReq) (s : State) : Host.Outcome State Fault Refusal := finish (dictClock s ws)

/-- A read of an rs entry that its requester can reach. -/
def snapshotRead (s : State) (who : Requester) (idx sub : Nat) : State := match dictRow? idx sub with
  | some r => if r.acc = .rs ∧ reachStatus s idx sub false = 0 then (rsRead s (requesterCode who) idx sub).2 else s
  | none => s

/-- RS_READ (R13). -/
def execRsRead (who : Requester) (idx sub : Nat) (s : State) : Host.Outcome State Fault Refusal := finish (snapshotRead s who idx sub)

/-- COP_READ (R408). -/
def execCopRead (h : CopHdr) (idx sub count : Nat) (s : State) : Host.Outcome State Fault Refusal := finish (copRead (copReceived s h) h idx sub count)

/-- COP_WRITE (R408). -/
def execCopWrite (h : CopHdr) (idx sub : Nat) (values : List CopValue) (s : State) : Host.Outcome State Fault Refusal :=
  finish (copWrite (copReceived s h) h idx sub values)

/-! ### The signal store -/

/-- SIGNAL_FRAME (R410). -/
def execSignalFrame (h : CopHdr) (records : List UpdateRec) (s : State) : Host.Outcome State Fault Refusal := finish (copSignals (copReceived s h) h records)

/-- STAGE_UPDATE (R55 to R58). -/
def execStageUpdate (fromNet fromSpi : Bool) (rivals : List LocalUpdate) (s : State) : Host.Outcome State Fault Refusal :=
  finish (if engineOn s 8 then stageUpdate s fromNet fromSpi rivals else s)

/-- A core's store to the signal store while domain 13 is off faults with BUS_ERROR at its store port (R20, R56). -/
def storeRefused (s : State) (p : Fin 9) (port : Nat) : State := faultEntry s p.val 5 3 port

/-- STAGING_STORE (R53). -/
def execStagingStore (p : Fin 9) (signal : Fin 262144) (w : Word) (s : State) : Host.Outcome State Fault Refusal :=
  finish (if engineOn s 8 then stagingStore s signal.val w p.val else storeRefused s p 86)

/-- ATTR_WRITE (R60). -/
def execAttrWrite (p : Fin 9) (signal : Fin 262144) (b : Byte) (s : State) : Host.Outcome State Fault Refusal :=
  finish (if engineOn s 8 then attrWrite s signal.val b.toNat p.val else storeRefused s p 127)

/-- SS_CLEAR (R68). -/
def execSsClear (w : Writer) (v : Word) (s : State) : Host.Outcome State Fault Refusal := finish (dictPut s w 0x2200 4 v)

/-! ### Commits -/

/-- FRAME_PULSE on GP08 (R486): high for 1 µs from each commit instant, low while the raster is stopped. -/
def framePulse (old s : State) : State :=
  if !s.raster.running then (if bitAt s.pins.func 8 then funcDrive s 8 false else s)
  else if s.raster.lastFrame = old.raster.lastFrame then s
  else
    let t := funcDrive s 8 true
    { t with pins := { t.pins with frameUntil := t.tb.ns + 1000 } }

/-- COMMIT_INSTANT (R179, R62). -/
def execCommitInstant (s : State) : Host.Outcome State Fault Refusal := finish (framePulse s (rasterCommit s))

/-- COMMIT_DONE (R62). -/
def execCommitDone (s : State) : Host.Outcome State Fault Refusal := finish (commitDone s)

/-- IDLE_COMMIT (R67). -/
def execIdleCommit (s : State) : Host.Outcome State Fault Refusal := finish (idleCommit s)

/-- DEADLINE (R181). -/
def execDeadline (s : State) : Host.Outcome State Fault Refusal := finish (deadline s)

/-- STAGED_WRITE (R181): a dictionary write of a staged entry. -/
def execStagedWrite (w : Writer) (idx sub : Nat) (v : Word) (s : State) : Host.Outcome State Fault Refusal :=
  finish (if isStaged (entryKey idx sub) then dictPut s w idx sub v else s)

/-- HELD_WRITE_APPLY (R181). -/
def execHeldWriteApply (s : State) : Host.Outcome State Fault Refusal := finish (heldWriteApply s)

/-- RASTER_COMMIT_REQ (R180). -/
def execRasterCommitReq (w : Writer) (v : Word) (s : State) : Host.Outcome State Fault Refusal := finish (dictPut s w 0x22C8 2 v)

/-- RASTER_CTRL (R183). -/
def execRasterCtrl (w : Writer) (v : Word) (s : State) : Host.Outcome State Fault Refusal := finish (dictPut s w 0x22C8 1 v)

/-- RASTER_MODE_REQ (R184). -/
def execRasterModeReq (w : Writer) (v : Word) (s : State) : Host.Outcome State Fault Refusal := finish (dictPut s w 0x22C8 3 v)

/-- RASTER_STOP (R184). -/
def execRasterStop (s : State) : Host.Outcome State Fault Refusal := finish (framePulse s (rasterStop s))

/-- MODE_DONE (R184). -/
def execModeDone (s : State) : Host.Outcome State Fault Refusal := finish (framePulse s (modeDone s))

/-! ### Lines -/

/-- LINE_LATCH (R89). -/
def execLineLatch (y : Nat) (s : State) : Host.Outcome State Fault Refusal := finish (lineLatch s y)

/-- LINE_FETCH_DONE (R89). -/
def execLineFetchDone (n : Fin 8) (y : Nat) (s : State) : Host.Outcome State Fault Refusal := finish (lineFetchDone s n.val y)

/-- PLANE_FETCH_ERROR (R94). -/
def execPlaneFetchError (n : Fin 8) (y granule : Nat) (s : State) : Host.Outcome State Fault Refusal := finish (fetchError s n.val y granule)

/-- ACTIVE_LINE (R141 to R156). -/
def execActiveLine (y : Nat) (written : List (Fin 8 × Nat)) (sprLate : Bool) (shadowLate : List Nat) (fifoFullAt : Option Nat) (s : State) :
    Host.Outcome State Fault Refusal := finish (activeLine s y written sprLate shadowLate fifoFullAt)

/-- PAL_LOAD_ARM (R87). -/
def execPalLoadArm (w : Writer) (v : Word) (s : State) : Host.Outcome State Fault Refusal := finish (dictPut s w 0x22F0 3 v)

/-- PAL_LOAD_DONE (R87). -/
def execPalLoadDone (s : State) : Host.Outcome State Fault Refusal := finish (palLoadDone s)

/-- RULE_LOAD_ARM (R115). -/
def execRuleLoadArm (w : Writer) (v : Word) (s : State) : Host.Outcome State Fault Refusal := finish (dictPut s w 0x22F1 3 v)

/-- RULE_LOAD_DONE (R116). -/
def execRuleLoadDone (s : State) : Host.Outcome State Fault Refusal := finish (ruleLoadDone s)

/-- SPR_LOAD_ARM (R120). -/
def execSprLoadArm (w : Writer) (v : Word) (s : State) : Host.Outcome State Fault Refusal := finish (dictPut s w 0x2243 3 v)

/-- SPR_LOAD_DONE (R121). -/
def execSprLoadDone (s : State) : Host.Outcome State Fault Refusal := finish (sprLoadDone s)

/-- SPRITE_POSITIONS_DONE (R124). -/
def execSpritePositionsDone (s : State) : Host.Outcome State Fault Refusal := finish (spritePositionsDone s)

/-! ### The line sequencer -/

/-- LS_WRITE (R132): `late` is how many pixel clocks after its scheduled clock it executes. -/
def execLsWrite (late : Nat) (s : State) : Host.Outcome State Fault Refusal := finish (lsStep s 1 late (frameNow s))

/-- LS_WAIT (R132). -/
def execLsWait (late : Nat) (s : State) : Host.Outcome State Fault Refusal := finish (lsStep s 2 late (frameNow s))

/-- LS_MARK (R132). -/
def execLsMark (late : Nat) (s : State) : Host.Outcome State Fault Refusal := finish (lsStep s 4 late (frameNow s))

/-- LS_LOOP (R131). -/
def execLsLoop (s : State) : Host.Outcome State Fault Refusal := finish (lsStep s 3 0 (frameNow s))

/-- LS_END (R131). -/
def execLsEnd (s : State) : Host.Outcome State Fault Refusal := finish (lsStep s 0 0 (frameNow s))

/-! ### Verifier, write-back, heads, Isobar -/

/-- FRAME_VERIFIED (R209). -/
def execFrameVerified (s : State) : Host.Outcome State Fault Refusal := finish (frameVerified s)

/-- WB_DESC_READ (R159). -/
def execWbDescRead (s : State) : Host.Outcome State Fault Refusal := finish (wbDescRead s)

/-- WB_DONE (R159). -/
def execWbDone (s : State) : Host.Outcome State Fault Refusal := finish (wbDone s)

/-- WB_BUS_ERROR (R160). -/
def execWbBusError (address : Nat) (s : State) : Host.Outcome State Fault Refusal := finish (wbBusError s address)

/-- HPD_ASSERT (R175). -/
def execHpdAssert (lanes rate : Nat) (edid : List Byte) (s : State) : Host.Outcome State Fault Refusal := finish (hpdAssert s lanes rate edid)

/-- HPD_LOW (R175). -/
def execHpdLow (s : State) : Host.Outcome State Fault Refusal := finish (hpdLow s)

/-- IRQ_HPD (R175). -/
def execIrqHpd (lockLost : Bool) (s : State) : Host.Outcome State Fault Refusal := finish (irqHpd s lockLost)

/-- HP_RETRAIN (R175, R196). -/
def execHpRetrain (w : Writer) (v : Word) (s : State) : Host.Outcome State Fault Refusal := finish (dictPut s w 0x2340 4 v)

/-- TRAINING_END (R175). -/
def execTrainingEnd (ok : Bool) (cause micros : Nat) (s : State) : Host.Outcome State Fault Refusal := finish (trainingEnd s ok cause micros)

/-- HP_AUX_DATA (R196): a processor's store of `b` or its load; `answer` is the byte that the sink answers with, if it answers. -/
def execHpAuxData (w : Writer) (store : Bool) (b : Byte) (answer : Option Byte) (s : State) : Host.Outcome State Fault Refusal :=
  finish (if w = .bellmetal then s else auxAccess s b store answer)

/-- ISOBAR_WORD (R192). -/
def execIsobarWord (frame : BitVec 64) (crc : BitVec 8) (sameFrame : Bool) (edge : Nat) (s : State) : Host.Outcome State Fault Refusal :=
  finish (isobarWord s frame.toNat crc.toNat sameFrame edge)

/-- ISOBAR_TIMEOUT (R192). -/
def execIsobarTimeout (s : State) : Host.Outcome State Fault Refusal := finish (isobarTimeout s)

end Sys2Proof.Machine
end

