-- ==== Sys2Proof/Machine/CmdCore.lean ====
section
/-! DEFINITION. The meanings of the commands of the Buzhail cores. MOVE_GROUP issues the group that stands at the program counter; a command that
names one trigger issues the 4-byte group at the program counter as the long parcel with that one move. -/
namespace Sys2Proof.Machine

/-- Issues the one-move group that triggers a port with a value. -/
def issueTrigger (s : State) (c : Fin 10) (port ext : Nat) (v : Word) : State := coreStep s c.val (issueMove c.val (plainMove port ext (.value v)))

/-- A command that is one trigger. -/
def triggerCommand (c : Fin 10) (port ext : Nat) (v : Word) (s : State) : Host.Outcome State Fault Refusal := finish (issueTrigger s c port ext v)

/-- The trigger port of an ALU operation (R263, R266). -/
def aluPort (u : Fin 2) (k : Nat) : Nat := 41 + 20 * u.val + k

/-- MOVE_GROUP (R258 to R262). -/
def execMoveGroup (c : Fin 10) (s : State) : Host.Outcome State Fault Refusal := finish (coreStep s c.val (issueNext c.val))

/-- IMM_HI (R274). -/
def execImmHi (c : Fin 10) (v : Word) (s : State) : Host.Outcome State Fault Refusal := triggerCommand c 123 0 v s

/-- ALU_ADD (R266). -/
def execAluAdd (c : Fin 10) (u : Fin 2) (t : Word) (s : State) : Host.Outcome State Fault Refusal := triggerCommand c (aluPort u 0) 0 t s

/-- ALU_SUB (R266). -/
def execAluSub (c : Fin 10) (u : Fin 2) (t : Word) (s : State) : Host.Outcome State Fault Refusal := triggerCommand c (aluPort u 1) 0 t s

/-- ALU_RSUB (R266). -/
def execAluRsub (c : Fin 10) (u : Fin 2) (t : Word) (s : State) : Host.Outcome State Fault Refusal := triggerCommand c (aluPort u 2) 0 t s

/-- ALU_AND (R266). -/
def execAluAnd (c : Fin 10) (u : Fin 2) (t : Word) (s : State) : Host.Outcome State Fault Refusal := triggerCommand c (aluPort u 3) 0 t s

/-- ALU_OR (R266). -/
def execAluOr (c : Fin 10) (u : Fin 2) (t : Word) (s : State) : Host.Outcome State Fault Refusal := triggerCommand c (aluPort u 4) 0 t s

/-- ALU_XOR (R266). -/
def execAluXor (c : Fin 10) (u : Fin 2) (t : Word) (s : State) : Host.Outcome State Fault Refusal := triggerCommand c (aluPort u 5) 0 t s

/-- ALU_ANDN (R266). -/
def execAluAndn (c : Fin 10) (u : Fin 2) (t : Word) (s : State) : Host.Outcome State Fault Refusal := triggerCommand c (aluPort u 6) 0 t s

/-- ALU_SHL (R266). -/
def execAluShl (c : Fin 10) (u : Fin 2) (t : Word) (s : State) : Host.Outcome State Fault Refusal := triggerCommand c (aluPort u 7) 0 t s

/-- ALU_SHR (R266). -/
def execAluShr (c : Fin 10) (u : Fin 2) (t : Word) (s : State) : Host.Outcome State Fault Refusal := triggerCommand c (aluPort u 8) 0 t s

/-- ALU_SRA (R266). -/
def execAluSra (c : Fin 10) (u : Fin 2) (t : Word) (s : State) : Host.Outcome State Fault Refusal := triggerCommand c (aluPort u 9) 0 t s

/-- ALU_ROTL (R266). -/
def execAluRotl (c : Fin 10) (u : Fin 2) (t : Word) (s : State) : Host.Outcome State Fault Refusal := triggerCommand c (aluPort u 10) 0 t s

/-- ALU_MIN (R266). -/
def execAluMin (c : Fin 10) (u : Fin 2) (t : Word) (s : State) : Host.Outcome State Fault Refusal := triggerCommand c (aluPort u 11) 0 t s

/-- ALU_MAX (R266). -/
def execAluMax (c : Fin 10) (u : Fin 2) (t : Word) (s : State) : Host.Outcome State Fault Refusal := triggerCommand c (aluPort u 12) 0 t s

/-- ALU_MINU (R266). -/
def execAluMinu (c : Fin 10) (u : Fin 2) (t : Word) (s : State) : Host.Outcome State Fault Refusal := triggerCommand c (aluPort u 13) 0 t s

/-- ALU_MAXU (R266). -/
def execAluMaxu (c : Fin 10) (u : Fin 2) (t : Word) (s : State) : Host.Outcome State Fault Refusal := triggerCommand c (aluPort u 14) 0 t s

/-- ALU_NEG (R266). -/
def execAluNeg (c : Fin 10) (u : Fin 2) (t : Word) (s : State) : Host.Outcome State Fault Refusal := triggerCommand c (aluPort u 15) 0 t s

/-- ALU_NOT (R266). -/
def execAluNot (c : Fin 10) (u : Fin 2) (t : Word) (s : State) : Host.Outcome State Fault Refusal := triggerCommand c (aluPort u 16) 0 t s

/-- ALU_SEXT8 (R266). -/
def execAluSext8 (c : Fin 10) (u : Fin 2) (t : Word) (s : State) : Host.Outcome State Fault Refusal := triggerCommand c (aluPort u 17) 0 t s

/-- ALU_SEXT16 (R266). -/
def execAluSext16 (c : Fin 10) (u : Fin 2) (t : Word) (s : State) : Host.Outcome State Fault Refusal := triggerCommand c (aluPort u 18) 0 t s

/-- CMP_EQ (R267). -/
def execCmpEq (c : Fin 10) (b : Word) (s : State) : Host.Outcome State Fault Refusal := triggerCommand c 98 0 b s

/-- CMP_NE (R267). -/
def execCmpNe (c : Fin 10) (b : Word) (s : State) : Host.Outcome State Fault Refusal := triggerCommand c 99 0 b s

/-- CMP_LT (R267). -/
def execCmpLt (c : Fin 10) (b : Word) (s : State) : Host.Outcome State Fault Refusal := triggerCommand c 100 0 b s

/-- CMP_GE (R267). -/
def execCmpGe (c : Fin 10) (b : Word) (s : State) : Host.Outcome State Fault Refusal := triggerCommand c 101 0 b s

/-- CMP_LTU (R267). -/
def execCmpLtu (c : Fin 10) (b : Word) (s : State) : Host.Outcome State Fault Refusal := triggerCommand c 102 0 b s

/-- CMP_GEU (R267). -/
def execCmpGeu (c : Fin 10) (b : Word) (s : State) : Host.Outcome State Fault Refusal := triggerCommand c 103 0 b s

/-- MUL_LS (R268). -/
def execMulLs (c : Fin 10) (t : Word) (s : State) : Host.Outcome State Fault Refusal := triggerCommand c 105 0 t s

/-- MUL_LU (R268). -/
def execMulLu (c : Fin 10) (t : Word) (s : State) : Host.Outcome State Fault Refusal := triggerCommand c 106 0 t s

/-- MUL_HS (R268). -/
def execMulHs (c : Fin 10) (t : Word) (s : State) : Host.Outcome State Fault Refusal := triggerCommand c 107 0 t s

/-- MUL_HU (R268). -/
def execMulHu (c : Fin 10) (t : Word) (s : State) : Host.Outcome State Fault Refusal := triggerCommand c 108 0 t s

/-- DIV_S (R269). -/
def execDivS (c : Fin 10) (t : Word) (s : State) : Host.Outcome State Fault Refusal := triggerCommand c 130 0 t s

/-- DIV_U (R269). -/
def execDivU (c : Fin 10) (t : Word) (s : State) : Host.Outcome State Fault Refusal := triggerCommand c 131 0 t s

/-- FADD (R270). -/
def execFadd (c : Fin 10) (t : Word) (s : State) : Host.Outcome State Fault Refusal := triggerCommand c 145 0 t s

/-- FSUB (R270). -/
def execFsub (c : Fin 10) (t : Word) (s : State) : Host.Outcome State Fault Refusal := triggerCommand c 146 0 t s

/-- FMUL (R270). -/
def execFmul (c : Fin 10) (t : Word) (s : State) : Host.Outcome State Fault Refusal := triggerCommand c 147 0 t s

/-- FMIN (R270). -/
def execFmin (c : Fin 10) (t : Word) (s : State) : Host.Outcome State Fault Refusal := triggerCommand c 148 0 t s

/-- FMAX (R270). -/
def execFmax (c : Fin 10) (t : Word) (s : State) : Host.Outcome State Fault Refusal := triggerCommand c 149 0 t s

/-- FABS (R270). -/
def execFabs (c : Fin 10) (t : Word) (s : State) : Host.Outcome State Fault Refusal := triggerCommand c 150 0 t s

/-- FNEG (R270). -/
def execFneg (c : Fin 10) (t : Word) (s : State) : Host.Outcome State Fault Refusal := triggerCommand c 151 0 t s

/-- FCVT_SW (R270). -/
def execFcvtSw (c : Fin 10) (t : Word) (s : State) : Host.Outcome State Fault Refusal := triggerCommand c 152 0 t s

/-- FCVT_SWU (R270). -/
def execFcvtSwu (c : Fin 10) (t : Word) (s : State) : Host.Outcome State Fault Refusal := triggerCommand c 153 0 t s

/-- FCVT_WS (R270). -/
def execFcvtWs (c : Fin 10) (t : Word) (s : State) : Host.Outcome State Fault Refusal := triggerCommand c 154 0 t s

/-- FCVT_WUS (R270). -/
def execFcvtWus (c : Fin 10) (t : Word) (s : State) : Host.Outcome State Fault Refusal := triggerCommand c 155 0 t s

/-- FEQ (R270). -/
def execFeq (c : Fin 10) (t : Word) (s : State) : Host.Outcome State Fault Refusal := triggerCommand c 156 0 t s

/-- FLT (R270). -/
def execFlt (c : Fin 10) (t : Word) (s : State) : Host.Outcome State Fault Refusal := triggerCommand c 157 0 t s

/-- FLE (R270). -/
def execFle (c : Fin 10) (t : Word) (s : State) : Host.Outcome State Fault Refusal := triggerCommand c 158 0 t s

/-- LSU_LDW (R271). -/
def execLsuLdw (c : Fin 10) (a : Word) (s : State) : Host.Outcome State Fault Refusal := triggerCommand c 81 0 a s

/-- LSU_LDH (R271). -/
def execLsuLdh (c : Fin 10) (a : Word) (s : State) : Host.Outcome State Fault Refusal := triggerCommand c 82 0 a s

/-- LSU_LDB (R271). -/
def execLsuLdb (c : Fin 10) (a : Word) (s : State) : Host.Outcome State Fault Refusal := triggerCommand c 83 0 a s

/-- LSU_LDSH (R271). -/
def execLsuLdsh (c : Fin 10) (a : Word) (s : State) : Host.Outcome State Fault Refusal := triggerCommand c 84 0 a s

/-- LSU_LDSB (R271). -/
def execLsuLdsb (c : Fin 10) (a : Word) (s : State) : Host.Outcome State Fault Refusal := triggerCommand c 85 0 a s

/-- LSU_STW (R271). -/
def execLsuStw (c : Fin 10) (a : Word) (s : State) : Host.Outcome State Fault Refusal := triggerCommand c 86 0 a s

/-- LSU_STH (R271). -/
def execLsuSth (c : Fin 10) (a : Word) (s : State) : Host.Outcome State Fault Refusal := triggerCommand c 87 0 a s

/-- LSU_STB (R271). -/
def execLsuStb (c : Fin 10) (a : Word) (s : State) : Host.Outcome State Fault Refusal := triggerCommand c 127 0 a s

/-- DIV_DONE (R269). -/
def execDivDone (c : Fin 10) (s : State) : Host.Outcome State Fault Refusal := finish (divDone s c.val)

/-- RESULT_COMPLETE (R264). -/
def execResultComplete (c : Fin 10) (s : State) : Host.Outcome State Fault Refusal := finish (resultComplete s c.val)

/-- LOAD_DATA_RETURN (R23, R29): the data of the held load return after `clocks` core clocks. -/
def execLoadDataReturn (c : Fin 10) (clocks : Nat) (s : State) : Host.Outcome State Fault Refusal := finish (dataReturn s c.val clocks)

/-- STORE_DRAIN (R293). -/
def execStoreDrain (c : Fin 10) (s : State) : Host.Outcome State Fault Refusal := finish (storeDrain s c.val)

/-- BRU_JMP (R272). -/
def execBruJmp (c : Fin 10) (a : Word) (s : State) : Host.Outcome State Fault Refusal := triggerCommand c 88 0 a s

/-- BRU_CALL (R272). -/
def execBruCall (c : Fin 10) (a : Word) (s : State) : Host.Outcome State Fault Refusal := triggerCommand c 89 0 a s

/-- BRU_RET (R272). -/
def execBruRet (c : Fin 10) (s : State) : Host.Outcome State Fault Refusal := triggerCommand c 90 0 0#32 s

/-- BRU_RETINT (R307). -/
def execBruRetint (c : Fin 10) (s : State) : Host.Outcome State Fault Refusal := triggerCommand c 91 0 0#32 s

/-- BRU_SYNC (R295). -/
def execBruSync (c : Fin 10) (s : State) : Host.Outcome State Fault Refusal := triggerCommand c 92 0 0#32 s

/-- GPIO_SET (R275). -/
def execGpioSet (c : Fin 10) (v : Word) (s : State) : Host.Outcome State Fault Refusal := triggerCommand c 116 0 v s

/-- GPIO_CLR (R275). -/
def execGpioClr (c : Fin 10) (v : Word) (s : State) : Host.Outcome State Fault Refusal := triggerCommand c 117 0 v s

/-- GPIO_TGL (R275). -/
def execGpioTgl (c : Fin 10) (v : Word) (s : State) : Host.Outcome State Fault Refusal := triggerCommand c 118 0 v s

/-- CTL_WAIT (R276). -/
def execCtlWait (c : Fin 10) (s : State) : Host.Outcome State Fault Refusal := triggerCommand c 177 0 0#32 s

/-- CTL_MCDATA (R281, R283). -/
def execCtlMcdata (c : Fin 10) (v : Word) (s : State) : Host.Outcome State Fault Refusal := triggerCommand c 184 0 v s

/-- CORE_MC_DATA (R284): a write of the entry of a processor's block. -/
def execCoreMcData (w : Writer) (c : Fin 9) (v : Word) (s : State) : Host.Outcome State Fault Refusal :=
  finish (dictPut s w (if c.val = 8 then 0x203F else 0x273F + 64 * c.val) 3 v)

/-- MACRO_START (R282). -/
def execMacroStart (c : Fin 10) (k : Fin 16) (ext : Byte) (arg : Word) (s : State) : Host.Outcome State Fault Refusal :=
  triggerCommand c (496 + k.val) ext.toNat arg s

/-- INT_ENTRY (R305 to R307). -/
def execIntEntry (c : Fin 10) (s : State) : Host.Outcome State Fault Refusal := finish (intEntry s c.val)

/-- FAULT_ENTRY (R303, R304): the group at the program counter faults with code 1 to 6. -/
def execFaultEntry (c : Fin 10) (code : Fin 6) (detail : Fin 5) (port : Fin 512) (s : State) : Host.Outcome State Fault Refusal :=
  finish (faultEntry s c.val (code.val + 1) detail.val port.val)

/-- SS_UPD (R280): `next` is the extension that advances ss.ctl's signal number. -/
def execSsUpd (c : Fin 10) (next : Bool) (v : Word) (s : State) : Host.Outcome State Fault Refusal := triggerCommand c 257 (if next then 1 else 0) v s

/-- SS_RD (R280). -/
def execSsRd (c : Fin 10) (v : Word) (s : State) : Host.Outcome State Fault Refusal := triggerCommand c 258 0 v s

/-- SS_RDST (R280). -/
def execSsRdst (c : Fin 10) (v : Word) (s : State) : Host.Outcome State Fault Refusal := triggerCommand c 259 0 v s

/-- PL_WR (R280). -/
def execPlWr (c : Fin 10) (sub : Byte) (v : Word) (s : State) : Host.Outcome State Fault Refusal := triggerCommand c 273 sub.toNat v s

/-- PL_RD (R280). -/
def execPlRd (c : Fin 10) (sub : Byte) (s : State) : Host.Outcome State Fault Refusal := triggerCommand c 274 sub.toNat 0#32 s

/-- NQ_REQ (R417). -/
def execNqReq (c : Fin 10) (notify : Bool) (v : Word) (s : State) : Host.Outcome State Fault Refusal := triggerCommand c 336 (if notify then 1 else 0) v s

/-- NQ_ST (R417). -/
def execNqSt (c : Fin 10) (tag : Word) (s : State) : Host.Outcome State Fault Refusal := triggerCommand c 337 0 tag s

/-- IRQ_COMPLETE (R318). -/
def execIrqComplete (c : Fin 10) (src : Word) (s : State) : Host.Outcome State Fault Refusal := triggerCommand c 193 0 src s

/-- IRQ_THR (R317). -/
def execIrqThr (c : Fin 10) (v : Word) (s : State) : Host.Outcome State Fault Refusal := triggerCommand c 194 0 v s

/-- DMA_ST (R280). -/
def execDmaSt (c : Fin 10) (n : Fin 16) (s : State) : Host.Outcome State Fault Refusal := triggerCommand c 292 n.val 0#32 s

/-- BLT_ST (R280). -/
def execBltSt (c : Fin 10) (s : State) : Host.Outcome State Fault Refusal := triggerCommand c 306 0 0#32 s

end Sys2Proof.Machine
end

