-- ==== Sys2Proof/Machine/CmdBellmetal.lean ====
section
/-! DEFINITION. The meanings of the commands of the Bellmetal partition. -/
namespace Sys2Proof.Machine

/-! ### Start, firmware, sessions -/

/-- BM_START (R225): domains 4 and 6 come on where they are off, then the start sequence begins. -/
def execBmStart (s : State) : Host.Outcome State Fault Refusal :=
  finish (bmStart (if s.bm.state = bmOff then domainUp (domainUp s 4 false) 6 false else s))

/-- BM_BOOT_DONE (R225, R226). -/
def execBmBootDone (s : State) : Host.Outcome State Fault Refusal := finish (bmBootDone s)

/-- BM_RESTART (R222, R225). -/
def execBmRestart (s : State) : Host.Outcome State Fault Refusal := finish (bmRestartReq s)

/-- BM_WATCHDOG (R222). -/
def execBmWatchdog (v : Word) (s : State) : Host.Outcome State Fault Refusal := finish (bmWatchdogWrite s v.toNat)

/-- WATCHDOG_HALF (R223). -/
def execWatchdogHalf (s : State) : Host.Outcome State Fault Refusal := finish (bmWatchdogHalf s)

/-- WATCHDOG (R224). -/
def execWatchdog (s : State) : Host.Outcome State Fault Refusal := finish (bmWatchdogExpire s)

/-- BM_SESSION_OPEN (R242). -/
def execBmSessionOpen (typ : Nat) (s : State) : Host.Outcome State Fault Refusal := finish (sessionOpen s typ)

/-- BM_SESSION_CLOSE (R242). -/
def execBmSessionClose (s : State) : Host.Outcome State Fault Refusal := finish (sessionClose s)

/-- SEAL_SW_CHANGE (R246). -/
def execSealSwChange (closed : Bool) (s : State) : Host.Outcome State Fault Refusal := finish (sealSwitch s closed)

/-- BM_FW_COMMIT (R251). -/
def execBmFwCommit (s : State) : Host.Outcome State Fault Refusal := finish (fwCommit s)

/-- FW_VERIFY_DONE (R251). -/
def execFwVerifyDone (s : State) : Host.Outcome State Fault Refusal := finish (fwVerified s)

/-- BM_REVERIFY (R240). -/
def execBmReverify (s : State) : Host.Outcome State Fault Refusal := finish (reverify s)

/-- REVERIFY_DONE (R240). -/
def execReverifyDone (s : State) : Host.Outcome State Fault Refusal := finish (reverified s)

/-- BM_AUDIT_FREE (R245). -/
def execBmAuditFree (seq : Word) (s : State) : Host.Outcome State Fault Refusal := finish (auditFreeReq s seq.toNat)

/-- COMPACTION_DONE (R245). -/
def execCompactionDone (s : State) : Host.Outcome State Fault Refusal := finish (compacted s)

/-! ### Display -/

/-- BM_BANK (R237). -/
def execBmBank (v : Word) (s : State) : Host.Outcome State Fault Refusal := finish (bankRequest s v.toNat)

/-- BANK_CHECK_DONE (R237). -/
def execBankCheckDone (s : State) : Host.Outcome State Fault Refusal := finish (bankChecked s)

/-- BM_ERR_RELEASE (R240). -/
def execBmErrRelease (s : State) : Host.Outcome State Fault Refusal := finish (errReleaseReq s)

/-- ID_SHOW (R241): the legal core's BM_ID_SHOW, or LGL_ID_REQUEST. -/
def execIdShow (fromLegal : Bool) (s : State) : Host.Outcome State Fault Refusal := finish (if fromLegal && !(legalRuns s) then s else idRequest s)

/-- ID_TIME_EXPIRE (R241). -/
def execIdTimeExpire (s : State) : Host.Outcome State Fault Refusal := finish (idExpire s)

/-! ### Mirror, messages, wake -/

/-- BM_WAKE (R222). -/
def execBmWake (s : State) : Host.Outcome State Fault Refusal := finish (if legalRuns s then wakeSource s else s)

/-- BM_MIRROR_DATA (R222). -/
def execBmMirrorData (w : Word) (s : State) : Host.Outcome State Fault Refusal := finish (if legalRuns s then mirrorData s w.toNat else s)

/-- MIRROR_REFRESH (R255). -/
def execMirrorRefresh (temp : Int) (s : State) : Host.Outcome State Fault Refusal := finish (mirrorRefresh s temp)

/-- LGL_MSG_IN (R250): a COP write of the mailbox entry. -/
def execLglMsgIn (h : CopHdr) (message : List Byte) (s : State) : Host.Outcome State Fault Refusal :=
  finish (copWrite (copReceived s h) h 0x24C2 1 [.bytes message])

/-- IN_DONE (R250). -/
def execInDone (s : State) : Host.Outcome State Fault Refusal := finish (inDone s)

/-- OUT_SEND (R250). -/
def execOutSend (len : Nat) (s : State) : Host.Outcome State Fault Refusal := finish (outSend s len)

/-- LGL_MSG_OUT_ACK (R250, R254). -/
def execLglMsgOutAck (w : Writer) (v : Word) (s : State) : Host.Outcome State Fault Refusal := finish (dictPut s w 0x24C2 4 v)

/-! ### Load cells -/

/-- CAL_START (R234). -/
def execCalStart (n : Fin 4) (s : State) : Host.Outcome State Fault Refusal := finish (calStart s n.val)

/-- CAL_SWEEP (R234). -/
def execCalSweep (n : Fin 4) (s : State) : Host.Outcome State Fault Refusal := finish (calSweep s n.val)

/-- FIR_COEF_WRITE (R235). -/
def execFirCoefWrite (n : Fin 4) (v : Word) (s : State) : Host.Outcome State Fault Refusal := finish (firWrite s n.val v.toNat)

/-- CAL_DONE (R234). -/
def execCalDone (n : Fin 4) (ok : Bool) (s : State) : Host.Outcome State Fault Refusal := finish (calEnd s n.val ok)

/-- LC_SAMPLE (R232, R233): `dec` is the decimated value of the channel. -/
def execLcSample (n : Fin 4) (dec : Int) (overrange refLow supplyLow : Bool) (s : State) : Host.Outcome State Fault Refusal :=
  finish (lcSample s n.val dec overrange refLow supplyLow)

/-- EXCITATION_REVERSAL (R231). -/
def execExcitationReversal (n : Fin 4) (s : State) : Host.Outcome State Fault Refusal := finish (lcReverse s n.val)

/-- BM_CHN_SAMPLE (R232). -/
def execBmChnSample (n : Fin 4) (s : State) : Host.Outcome State Fault Refusal := finish (if frontEnd s n.val then (samplePop s n.val).1 else s)

/-! ### The sealed serial port -/

/-- SER_FRAME_RX (R247). -/
def execSerFrameRx (content : List Byte) (s : State) : Host.Outcome State Fault Refusal := finish (serFrameRx s content)

/-- IDENT (R248). -/
def execIdent (s : State) : Host.Outcome State Fault Refusal := finish (serReply s 0xF0 0xF0)

/-- AUDIT_READ (R248). -/
def execAuditRead (s : State) : Host.Outcome State Fault Refusal := finish (serReply s 0xF1 0xF1)

/-- AUDIT_RANGE (R248). -/
def execAuditRange (s : State) : Host.Outcome State Fault Refusal := finish (serReply s 0xF2 0xF2)

/-- SER_UNKNOWN_TYPE (R248). -/
def execSerUnknownType (s : State) : Host.Outcome State Fault Refusal := finish (serReply s 0xF3 0xFF)

/-- SER_RX_POP (R249). -/
def execSerRxPop (s : State) : Host.Outcome State Fault Refusal := finish (serPop s)

/-- SER_TX_DATA (R249). -/
def execSerTxData (w : Word) (s : State) : Host.Outcome State Fault Refusal := finish (serTxData s w.toNat)

/-- SER_TX_SEND (R249). -/
def execSerTxSend (v : Word) (s : State) : Host.Outcome State Fault Refusal := finish (serTxSend s v.toNat)

/-- SER_TX_DONE (R249). -/
def execSerTxDone (s : State) : Host.Outcome State Fault Refusal := finish (serTxDone s)

/-- CLOCK_FALLBACK (R219). -/
def execClockFallback (s : State) : Host.Outcome State Fault Refusal := finish (clockFallback s)

end Sys2Proof.Machine
end

