-- ==== Sys2Proof/Machine/CmdIo.lean ====
section
/-! DEFINITION. The meanings of the commands of the interrupt controller, DMA, the blitter, the timers, the pins and the audio engine. -/
namespace Sys2Proof.Machine

/-! ### The interrupt controller -/

/-- SOURCE_ASSERT (R313). -/
def execSourceAssert (src : Fin 1024) (s : State) : Host.Outcome State Fault Refusal := finish (sourcePresents s src.val)

/-- IC_ROUTE (R312, R320). -/
def execIcRoute (w : Writer) (src : Fin 1024) (v : Word) (s : State) : Host.Outcome State Fault Refusal :=
  finish (dictPut s w (0x2084 + src.val / 256) (src.val % 256) v)

/-- MASK_WRITE_ACCEPT (R320). -/
def execMaskWriteAccept (s : State) : Host.Outcome State Fault Refusal := finish (maskAccept s)

/-- IC_PENDING (R313). -/
def execIcPending (w : Writer) (word : Fin 32) (v : Word) (s : State) : Host.Outcome State Fault Refusal := finish (dictPut s w 0x2088 word.val v)

/-- DOORBELL_RING (R310). -/
def execDoorbellRing (n : Fin 256) (s : State) : Host.Outcome State Fault Refusal := finish (ringDoorbell s n.val)

/-! ### DMA -/

/-- DMA_START (R334): `cop` says that the START came by COP, where a running channel answers BUSY. -/
def execDmaStart (n : Fin 16) (addr : BitVec 40) (cop : Bool) (s : State) : Host.Outcome State Fault Refusal := finish (dmaStart s n.val addr.toNat cop)

/-- DMA_BELL (R332). -/
def execDmaBell (n : Fin 16) (s : State) : Host.Outcome State Fault Refusal := finish (dmaBell s n.val)

/-- DMA_HALT (R334). -/
def execDmaHalt (n : Fin 16) (s : State) : Host.Outcome State Fault Refusal := finish (dmaHalt s n.val)

/-- DESC_READ_DONE (R330). -/
def execDescReadDone (n : Fin 16) (s : State) : Host.Outcome State Fault Refusal := finish (descReadDone s n.val)

/-- DMA_DATA_READ_DONE (R331). -/
def execDmaDataReadDone (n : Fin 16) (s : State) : Host.Outcome State Fault Refusal := finish (dmaDataDone s n.val)

/-- DESC_COMPLETE (R331). -/
def execDescComplete (n : Fin 16) (s : State) : Host.Outcome State Fault Refusal := finish (descComplete s n.val)

/-- DMA_ACCESS_ERROR (R335). -/
def execDmaAccessError (n : Fin 16) (write : Bool) (s : State) : Host.Outcome State Fault Refusal := finish (dmaError s n.val write)

/-- HALT_DONE (R334). -/
def execHaltDone (n : Fin 16) (s : State) : Host.Outcome State Fault Refusal := finish (dmaHaltDone s n.val)

/-! ### The blitter -/

/-- BLT_RUN (R338). -/
def execBltRun (addr : BitVec 40) (cop : Bool) (s : State) : Host.Outcome State Fault Refusal := finish (bltRun s addr.toNat cop)

/-- BLT_ABORT (R338). -/
def execBltAbort (s : State) : Host.Outcome State Fault Refusal := finish (bltAbort s)

/-- BLT_CMD_READ (R340). -/
def execBltCmdRead (s : State) : Host.Outcome State Fault Refusal := finish (bltCmdRead s)

/-- BLT_SPAN_READS_DONE (R342). -/
def execBltSpanReadsDone (s : State) : Host.Outcome State Fault Refusal := finish (bltReadsDone s)

/-- BLT_SPAN_WRITES_DONE (R342). -/
def execBltSpanWritesDone (s : State) : Host.Outcome State Fault Refusal := finish (bltWritesDone s)

/-- BLT_ERROR (R344). -/
def execBltError (address : BitVec 40) (s : State) : Host.Outcome State Fault Refusal := finish (bltError s address.toNat)

/-! ### Timers -/

/-- The index and first subindex of a timer channel's entries. -/
def timerIdx (n : Fin 40) : Nat := if n.val < 32 then 0x20D0 + n.val else 0x20F0 + (n.val - 32)

/-- TM_WRAP (R348). -/
def execTmWrap (n : Fin 40) (s : State) : Host.Outcome State Fault Refusal := finish (tmWrap s n.val)

/-- TM_MATCH (R351): `written` is a COMPARE write of the same clock. -/
def execTmMatch (n : Fin 40) (written : Option Word) (s : State) : Host.Outcome State Fault Refusal := finish (tmMatch s n.val (written.map (·.toNat)))

/-- TM_GROUP_START (R355). -/
def execTmGroupStart (w : Writer) (v : Word) (s : State) : Host.Outcome State Fault Refusal := finish (dictPut s w 0x20C0 1 v)

/-- TM_GROUP_STOP (R355). -/
def execTmGroupStop (w : Writer) (v : Word) (s : State) : Host.Outcome State Fault Refusal := finish (dictPut s w 0x20C0 2 v)

/-- AT_GROUP_START (R355). -/
def execAtGroupStart (w : Writer) (v : Word) (s : State) : Host.Outcome State Fault Refusal := finish (dictPut s w 0x20C0 4 v)

/-- AT_GROUP_STOP (R355). -/
def execAtGroupStop (w : Writer) (v : Word) (s : State) : Host.Outcome State Fault Refusal := finish (dictPut s w 0x20C0 5 v)

/-- TM_STAGGER (R355). -/
def execTmStagger (w : Writer) (v : Word) (s : State) : Host.Outcome State Fault Refusal := finish (dictPut s w 0x20C0 3 v)

/-- TM_COUNT (R349). -/
def execTmCount (w : Writer) (n : Fin 40) (v : Word) (s : State) : Host.Outcome State Fault Refusal := finish (dictPut s w (timerIdx n) 5 v)

/-- TM_RELOAD (R350). -/
def execTmReload (w : Writer) (n : Fin 40) (v : Word) (s : State) : Host.Outcome State Fault Refusal := finish (dictPut s w (timerIdx n) 2 v)

/-- TM_COMPARE (R351). -/
def execTmCompare (w : Writer) (n : Fin 40) (v : Word) (s : State) : Host.Outcome State Fault Refusal := finish (dictPut s w (timerIdx n) 3 v)

/-- TM_LOCK_START (R357). -/
def execTmLockStart (n : Fin 40) (s : State) : Host.Outcome State Fault Refusal := finish (tmLockEvent s n.val)

/-! ### Pins -/

/-- PIN_MUX (R361, R363). -/
def execPinMux (w : Writer) (k : Fin 48) (v : Word) (s : State) : Host.Outcome State Fault Refusal := finish (dictPut s w 0x2101 k.val v)

/-- PIN_HANDOVER_END (R363). -/
def execPinHandoverEnd (k : Fin 48) (s : State) : Host.Outcome State Fault Refusal := finish (handEnd s k.val)

/-- PIN_CFG (R364). -/
def execPinCfg (w : Writer) (k : Fin 48) (v : Word) (s : State) : Host.Outcome State Fault Refusal := finish (dictPut s w 0x2102 k.val v)

/-- PIN_DETECT (R365): the outside drives a pin to a level. -/
def execPinDetect (k : Fin 48) (level : Bool) (s : State) : Host.Outcome State Fault Refusal := finish (pinDrive s k.val level)

/-- PATTERN_MATCH (R367). -/
def execPatternMatch (u : Fin 4) (s : State) : Host.Outcome State Fault Refusal := finish (patternMatch s u.val)

/-- PAT_GRANT (R367). -/
def execPatGrant (w : Writer) (v : Word) (s : State) : Host.Outcome State Fault Refusal := finish (dictPut s w 0x2100 3 v)

/-! ### Audio -/

/-- A queue command that acts at the present boundary (R373, R374); `accepted` is when it was accepted. -/
def audCommand (s : State) (code : Nat) (arg : Word) (accepted : Nat) : State :=
  if audOn s then cmdAct s ⟨none, arg.toNat, code, accepted⟩ else s

/-- AQ_PUSH (R373): a push by aq.push or AUD_CMD_GO while the queue has room. -/
def execAqPush (stamp : BitVec 64) (arg : Word) (code : Byte) (s : State) : Host.Outcome State Fault Refusal :=
  finish (if !(engineOn s 16) || audFull s then s else audPush s stamp.toNat arg.toNat code.toNat)

/-- SAMPLE_BOUNDARY (R375). -/
def execSampleBoundary (s : State) : Host.Outcome State Fault Refusal := finish (sampleBoundary s)

/-- VOICE_ARM (R377). -/
def execVoiceArm (arg : Word) (s : State) : Host.Outcome State Fault Refusal := finish (audCommand s 1 arg s.tb.ns)

/-- VOICE_START (R378). -/
def execVoiceStart (arg : Word) (accepted : BitVec 64) (s : State) : Host.Outcome State Fault Refusal := finish (audCommand s 2 arg accepted.toNat)

/-- VOICE_STOP (R374). -/
def execVoiceStop (arg : Word) (s : State) : Host.Outcome State Fault Refusal := finish (audCommand s 3 arg s.tb.ns)

/-- TONE_START (R381). -/
def execToneStart (arg : Word) (s : State) : Host.Outcome State Fault Refusal := finish (audCommand s 4 arg s.tb.ns)

/-- TONE_STOP (R374). -/
def execToneStop (arg : Word) (s : State) : Host.Outcome State Fault Refusal := finish (audCommand s 5 arg s.tb.ns)

/-- GAIN (R388). -/
def execGain (arg : Word) (s : State) : Host.Outcome State Fault Refusal := finish (audCommand s 6 arg s.tb.ns)

/-- ROUTE (R389). -/
def execRoute (arg : Word) (s : State) : Host.Outcome State Fault Refusal := finish (audCommand s 7 arg s.tb.ns)

/-- AUD_MARK (R374). -/
def execAudMark (arg : Word) (s : State) : Host.Outcome State Fault Refusal := finish (audCommand s 8 arg s.tb.ns)

/-- VOICE_FETCH_RETURN (R377). -/
def execVoiceFetchReturn (v : Fin 48) (s : State) : Host.Outcome State Fault Refusal := finish (voiceFetched s v.val)

/-- VOICE_FETCH_ERROR (R380). -/
def execVoiceFetchError (v : Fin 48) (s : State) : Host.Outcome State Fault Refusal := finish (voiceFails s v.val)

/-- GAIN_ZC_TIMEOUT (R388). -/
def execGainZcTimeout (g : Fin 96) (s : State) : Host.Outcome State Fault Refusal := finish (gainTimeout s g.val)

/-- TDM_FS_LOSS (R383). -/
def execTdmFsLoss (n : Fin 2) (s : State) : Host.Outcome State Fault Refusal := finish (tdmLoss s n.val)

/-- TDM_FS_RETURN (R383). -/
def execTdmFsReturn (n : Fin 2) (rate : Nat) (s : State) : Host.Outcome State Fault Refusal := finish (tdmReturn s n.val rate)

/-- TDM_CFG (R391). -/
def execTdmCfg (w : Writer) (n : Fin 2) (v : Word) (s : State) : Host.Outcome State Fault Refusal := finish (dictPut s w 0x2415 n.val v)

/-- AUDIO_RESYNC (R372). -/
def execAudioResync (s : State) : Host.Outcome State Fault Refusal := finish (audioResync s)

/-- PAGING (R414). -/
def execPaging (h : CopHdr) (stream rate time : Nat) (samples : List Nat) (s : State) : Host.Outcome State Fault Refusal :=
  finish (copPaging (copReceived s h) h stream rate time samples)

end Sys2Proof.Machine
end

