-- ==== Sys2Proof/Machine/CmdSystem.lean ====
section
/-! DEFINITION. The meanings of the commands of the network, the application entries, power and recovery, security and debug, performance and health. -/
namespace Sys2Proof.Machine

/-! ### Network and COP -/

/-- ETH_FRAME_RX (R395, R402). -/
def execEthFrameRx (k : Fin 2) (frame : List Byte) (fcsGood own : Bool) (s : State) : Host.Outcome State Fault Refusal :=
  finish (ethFrame s k.val frame fcsGood own)

/-- SPI_HOST_FRAME (R403). -/
def execSpiHostFrame (bytes : List Byte) (s : State) : Host.Outcome State Fault Refusal := finish (spiTransfer s bytes)

/-- COP_REPLY_SEND (R405). -/
def execCopReplySend (s : State) : Host.Outcome State Fault Refusal := finish (replySend s)

/-- SEG_START (R411). -/
def execSegStart (h : CopHdr) (idx sub dir total crc : Nat) (s : State) : Host.Outcome State Fault Refusal :=
  finish (segStart (copReceived s h) h idx sub dir total crc)

/-- SEG_DATA (R411). -/
def execSegData (h : CopHdr) (offset : Nat) (data : List Byte) (s : State) : Host.Outcome State Fault Refusal :=
  finish (segData (copReceived s h) h offset data)

/-- SEG_ACK (R411). -/
def execSegAck (h : CopHdr) (next : Nat) (s : State) : Host.Outcome State Fault Refusal := finish (segAck (copReceived s h) h next)

/-- SEG_RESEND (R411): of the i-th open transfer. -/
def execSegResend (i : Nat) (s : State) : Host.Outcome State Fault Refusal := finish (segResend s i)

/-- SEG_TIMEOUT (R411): of the i-th open transfer. -/
def execSegTimeout (i : Nat) (s : State) : Host.Outcome State Fault Refusal := finish (segTimeout s i)

/-- SUB_SAMPLE (R412). -/
def execSubSample (n : Fin 64) (s : State) : Host.Outcome State Fault Refusal := finish (subSample s n.val)

/-- PROGRESS_SEND (R413): `value` is the part done. -/
def execProgressSend (value : Nat) (s : State) : Host.Outcome State Fault Refusal := finish (lopProgress s value)

/-- LOP_DONE (R413). -/
def execLopDone (status : Nat) (s : State) : Host.Outcome State Fault Refusal := finish (lopDone s status)

/-- DICT_SAVE (R418). -/
def execDictSave (w : Writer) (v : Word) (s : State) : Host.Outcome State Fault Refusal := finish (dictPut s w 0x1200 2 v)

/-- TB_SYNC_RX (R399 to R401). -/
def execTbSyncRx (k : Fin 2) (best : Bool) (offset : Int) (hops : Nat) (s : State) : Host.Outcome State Fault Refusal :=
  finish (tbSyncRx s k.val best offset hops)

/-- TB_LOST (R401); `win` says that the device then wins the BMCA. -/
def execTbLost (win : Bool) (s : State) : Host.Outcome State Fault Refusal := finish (tbLost s win)

/-- NET_TB_SET (R398): the low word, then the high word, which loads both. -/
def execNetTbSet (w : Writer) (lo hi : Word) (s : State) : Host.Outcome State Fault Refusal :=
  finish (dictPut (dictPut s w 0x21C0 0x0A lo) w 0x21C0 0x0B hi)

/-- SYNC_INTERVAL (R399). -/
def execSyncInterval (s : State) : Host.Outcome State Fault Refusal := finish (syncInterval s)

/-- TB_PPS (R486). -/
def execTbPps (s : State) : Host.Outcome State Fault Refusal := finish (tbPps s)

/-- POLL_SEND (R421). -/
def execPollSend (s : State) : Host.Outcome State Fault Refusal := finish (pollSend s)

/-- POLL_REPLY (R421). -/
def execPollReply (d status value : Nat) (s : State) : Host.Outcome State Fault Refusal := finish (pollReply s d status value)

/-- RAW_RX (R422). -/
def execRawRx (frame : List Byte) (s : State) : Host.Outcome State Fault Refusal := finish (rawRx s frame)

/-- RAW_TX_DONE (R422). -/
def execRawTxDone (s : State) : Host.Outcome State Fault Refusal := finish (rawTxDone s)

/-- LINK_CHANGE (R422). -/
def execLinkChange (k : Fin 2) (up : Bool) (speed : Nat) (s : State) : Host.Outcome State Fault Refusal := finish (linkChange s k.val up speed)

/-- GATE_CONTROL_ENTRY (R396). -/
def execGateControlEntry (k : Fin 2) (s : State) : Host.Outcome State Fault Refusal := finish (gateNext s k.val)

/-- ADDRESS_AGEING (R395). -/
def execAddressAgeing (mac : BitVec 48) (s : State) : Host.Outcome State Fault Refusal := finish (macAges s mac.toNat)

/-- APP_REQUEST (R480, R481). -/
def execAppRequest (q : AppReq) (s : State) : Host.Outcome State Fault Refusal := finish (appRequest s q)

/-- APP_DONE (R480): the store to the handler's own entry. -/
def execAppDone (p : Fin 9) (s : State) : Host.Outcome State Fault Refusal := finish (dictPut s (.proc p) 0x1232 p.val 1#32)

/-- APP_TIMEOUT (R481). -/
def execAppTimeout (p : Fin 9) (s : State) : Host.Outcome State Fault Refusal := finish (appTimeout s p.val)

/-! ### Power, start and recovery -/

/-- PWR_STATE_REQ (R427). -/
def execPwrStateReq (w : Writer) (v : Word) (s : State) : Host.Outcome State Fault Refusal := finish (dictPut s w 0x2040 2 v)

/-- STATE_DONE (R427). -/
def execStateDone (s : State) : Host.Outcome State Fault Refusal := finish (stateDone s)

/-- PWR_DOMAIN_REQ (R425). -/
def execPwrDomainReq (w : Writer) (v : Word) (s : State) : Host.Outcome State Fault Refusal := finish (dictPut s w 0x2040 5 v)

/-- DOMAIN_SWITCHED (R424). -/
def execDomainSwitched (d : Fin 25) (s : State) : Host.Outcome State Fault Refusal := finish (domainSwitched s d.val)

/-- WAKE_PIN (R431). -/
def execWakePin (s : State) : Host.Outcome State Fault Refusal := finish (wakeCause s 0)

/-- RESUME_DONE (R428). -/
def execResumeDone (s : State) : Host.Outcome State Fault Refusal := finish (resumeDone s)

/-- WARM_START (R435): a write of 0 to PWR_RESTART. -/
def execWarmStart (w : Writer) (s : State) : Host.Outcome State Fault Refusal := finish (dictPut s w 0x2040 0x0A 0#32)

/-- COLD_START (R435): a write of 1 to PWR_RESTART. -/
def execColdStart (w : Writer) (s : State) : Host.Outcome State Fault Refusal := finish (dictPut s w 0x2040 0x0A 1#32)

/-- POWER_CYCLE (R435, R439): a write of 2 to PWR_RESTART. -/
def execPowerCycle (w : Writer) (s : State) : Host.Outcome State Fault Refusal := finish (dictPut s w 0x2040 0x0A 2#32)

/-- PWR_BOOT_OK (R436). -/
def execPwrBootOk (w : Writer) (v : Word) (s : State) : Host.Outcome State Fault Refusal := finish (dictPut s w 0x2040 9 v)

/-- BOOT_TIMEOUT (R436). -/
def execBootTimeout (s : State) : Host.Outcome State Fault Refusal := finish (bootTimeout s)

/-- MC_TRAIN_DONE (R39, R435). -/
def execMcTrainDone (reloadOk ok : Bool) (micros : Nat) (s : State) : Host.Outcome State Fault Refusal := finish (trainDone s reloadOk ok micros)

/-- CLK_FAIL (R430). -/
def execClkFail (s : State) : Host.Outcome State Fault Refusal := finish (clkFail s)

/-- WARDEN_WDT (R439): an incident of engine 0 while the Warden is clocked. -/
def execWardenWdt (s : State) : Host.Outcome State Fault Refusal :=
  finish (if domainOn s 3 then { s with raised := s.raised ++ [5000] } else s)

/-- REC_CMD (R439). -/
def execRecCmd (w : Writer) (v : Word) (s : State) : Host.Outcome State Fault Refusal := finish (dictPut s w 0x2045 1 v)

/-- REINIT_DONE (R439). -/
def execReinitDone (e : Fin 37) (s : State) : Host.Outcome State Fault Refusal := finish (verOwed (reinitDone s e.val))

/-- LADDER_WINDOW_EXPIRE (R440). -/
def execLadderWindowExpire (e : Fin 37) (s : State) : Host.Outcome State Fault Refusal := finish (ladderExpire s e.val)

/-- SUPPLY_LOSS (R489). -/
def execSupplyLoss (s : State) : Host.Outcome State Fault Refusal := finish (supplyLoss s)

/-- RESET_RELEASE (R489, R434). -/
def execResetRelease (bootSel : Fin 4) (s : State) : Host.Outcome State Fault Refusal := finish (resetRelease s bootSel.val)

/-- REFERENCE_RESTORED (R430). -/
def execReferenceRestored (s : State) : Host.Outcome State Fault Refusal := finish (refRestored s)

/-- LF_CRYSTAL_VALID (R429). -/
def execLfCrystalValid (s : State) : Host.Outcome State Fault Refusal := finish (crystalValid s)

/-! ### Security and debug -/

/-- SEC_LC_REQ (R445): the Warden's write, or DBG_LC of an attached debugger. -/
def execSecLcReq (fromDebugger : Bool) (w : Writer) (v : Word) (s : State) : Host.Outcome State Fault Refusal :=
  finish (if !fromDebugger then dictPut s w 0x2900 2 v
    else if s.sec.dbg = 0 then tapBypass s
    else (lcRequest (tapShift s 0x0D (v.toNat % 4)) (v.toNat % 4) true).1)

/-- LC_FUSES_BLOWN (R445, R446). -/
def execLcFusesBlown (s : State) : Host.Outcome State Fault Refusal := finish (lcBlown s)

/-- SEC_FUSE_PROG (R446): a write of the DOMAIN by COP, of the Warden or a keyed sender; `readBack` is what a field reads that fails to verify. -/
def execSecFuseProg (w : Writer) (value : List Byte) (readBack : Option (List Byte)) (s : State) : Host.Outcome State Fault Refusal :=
  finish (match dictRow? 0x2900 0x0B with
    | some r =>
      if !(writerCop w) || !(reachStatus s 0x2900 0x0B true == 0) || entryOffline s 0x2900 0x0B then s
      else if !(mayWrite s r 0x2900 0x0B w false) then notOwner s
      else (fuseProg s value readBack).1
    | none => s)

/-- IDCODE (R451). -/
def execIdcode (s : State) : Host.Outcome State Fault Refusal := finish (tapIdcode s)

/-- SAMPLE_PRELOAD (R451). -/
def execSamplePreload (v : BitVec 48) (s : State) : Host.Outcome State Fault Refusal := finish (tapSample s v.toNat)

/-- EXTEST (R451). -/
def execExtest (v : BitVec 48) (s : State) : Host.Outcome State Fault Refusal := finish (tapExtest s v.toNat)

/-- BYPASS (R451). -/
def execBypass (s : State) : Host.Outcome State Fault Refusal := finish (tapBypass s)

/-- DAP_READ (R454). -/
def execDapRead (target : Fin 64) (addr : Word) (s : State) : Host.Outcome State Fault Refusal := finish (dapRead s target.val addr.toNat)

/-- DAP_WRITE (R454). -/
def execDapWrite (target : Fin 64) (addr data : Word) (s : State) : Host.Outcome State Fault Refusal :=
  finish (dapWrite s target.val addr.toNat data.toNat)

/-- DAP_HALT (R454). -/
def execDapHalt (target : Fin 64) (s : State) : Host.Outcome State Fault Refusal := finish (dapHalt s target.val)

/-- DAP_RESUME (R454, R455): `step` for one group only. -/
def execDapResume (target : Fin 64) (step : Bool) (s : State) : Host.Outcome State Fault Refusal := finish (dapResume s target.val step)

/-- DBG_ATTACH (R452). -/
def execDbgAttach (s : State) : Host.Outcome State Fault Refusal := finish (dbgAttach s)

/-- DBG_DETACH (R452). -/
def execDbgDetach (s : State) : Host.Outcome State Fault Refusal := finish (if s.sec.dbg = 0 then s else dbgDetach s)

/-- DBG_CHALLENGE (R453). -/
def execDbgChallenge (s : State) : Host.Outcome State Fault Refusal := finish (dbgChallenge s)

/-- DBG_RESPONSE (R453). -/
def execDbgResponse (perm : Word) (key sig : List Byte) (s : State) : Host.Outcome State Fault Refusal := finish (dbgResponse s perm.toNat key sig)

/-- AUTH_CHECK_DONE (R453). -/
def execAuthCheckDone (s : State) : Host.Outcome State Fault Refusal := finish (authCheckDone s)

/-- DBG_WAKE (R457). -/
def execDbgWake (request : Bool) (s : State) : Host.Outcome State Fault Refusal := finish (if request then dbgWake s else s)

/-- TRST_N (R452). -/
def execTrstN (s : State) : Host.Outcome State Fault Refusal := finish (tapReset s)

/-! ### Performance and health -/

/-- PERF_CAPTURE (R466). -/
def execPerfCapture (s : State) : Host.Outcome State Fault Refusal := finish (perfPeriod s)

/-- DUMP_NOW (R466). -/
def execDumpNow (w : Writer) (s : State) : Host.Outcome State Fault Refusal := finish (dictPut s w 0x2440 8 1#32)

/-- CLEAR_ALL (R472). -/
def execClearAll (w : Writer) (s : State) : Host.Outcome State Fault Refusal := finish (dictPut s w 0x2440 8 2#32)

/-- PERF_RECORD_DONE (R468). -/
def execPerfRecordDone (s : State) : Host.Outcome State Fault Refusal := finish (perfRecordDone s)

/-- ST_REQ (R470). -/
def execStReq (w : Writer) (v : Word) (s : State) : Host.Outcome State Fault Refusal := finish (dictPut s w 0x2444 1 v)

/-- ST_DONE (R470): `fail` is the failing memory and address, if any. -/
def execStDone (fail : Option (Nat × Nat)) (s : State) : Host.Outcome State Fault Refusal := finish (stDone s fail)

/-- HEALTH_WINDOW_END (R471). -/
def execHealthWindowEnd (s : State) : Host.Outcome State Fault Refusal := finish (windowEnd s)

/-- TEMP_HIGH (R473): a measured temperature, which may reach the limit. -/
def execTempHigh (temp : Int) (s : State) : Host.Outcome State Fault Refusal := finish (tempMeasured s temp)

end Sys2Proof.Machine
end

