-- ==== Sys2Proof/Machine/Dispatch.lean ====
section
/-! DEFINITION. One arm for each command: the direct call of its meaning. -/
namespace Sys2Proof.Machine

/-- The effect of a command on everything but the queue of waiting commands. -/
def exec (i : Instr) (s : State) : Host.Outcome State Fault Refusal :=
  match i with
  | .dictWrite ws => Sys2Proof.Machine.execDictWrite ws s
  | .rsRead who idx sub => Sys2Proof.Machine.execRsRead who idx sub s
  | .copRead h idx sub count => Sys2Proof.Machine.execCopRead h idx sub count s
  | .copWrite h idx sub values => Sys2Proof.Machine.execCopWrite h idx sub values s
  | .signalFrame h records => Sys2Proof.Machine.execSignalFrame h records s
  | .stageUpdate fromNet fromSpi rivals => Sys2Proof.Machine.execStageUpdate fromNet fromSpi rivals s
  | .stagingStore p signal w => Sys2Proof.Machine.execStagingStore p signal w s
  | .attrWrite p signal b => Sys2Proof.Machine.execAttrWrite p signal b s
  | .ssClear w v => Sys2Proof.Machine.execSsClear w v s
  | .commitInstant => Sys2Proof.Machine.execCommitInstant s
  | .commitDone => Sys2Proof.Machine.execCommitDone s
  | .idleCommit => Sys2Proof.Machine.execIdleCommit s
  | .deadline => Sys2Proof.Machine.execDeadline s
  | .stagedWrite w idx sub v => Sys2Proof.Machine.execStagedWrite w idx sub v s
  | .heldWriteApply => Sys2Proof.Machine.execHeldWriteApply s
  | .rasterCommitReq w v => Sys2Proof.Machine.execRasterCommitReq w v s
  | .rasterCtrl w v => Sys2Proof.Machine.execRasterCtrl w v s
  | .rasterModeReq w v => Sys2Proof.Machine.execRasterModeReq w v s
  | .rasterStop => Sys2Proof.Machine.execRasterStop s
  | .modeDone => Sys2Proof.Machine.execModeDone s
  | .lineLatch y => Sys2Proof.Machine.execLineLatch y s
  | .lineFetchDone n y => Sys2Proof.Machine.execLineFetchDone n y s
  | .planeFetchError n y granule => Sys2Proof.Machine.execPlaneFetchError n y granule s
  | .activeLine y written sprLate shadowLate fifoFullAt => Sys2Proof.Machine.execActiveLine y written sprLate shadowLate fifoFullAt s
  | .palLoadArm w v => Sys2Proof.Machine.execPalLoadArm w v s
  | .palLoadDone => Sys2Proof.Machine.execPalLoadDone s
  | .ruleLoadArm w v => Sys2Proof.Machine.execRuleLoadArm w v s
  | .ruleLoadDone => Sys2Proof.Machine.execRuleLoadDone s
  | .sprLoadArm w v => Sys2Proof.Machine.execSprLoadArm w v s
  | .sprLoadDone => Sys2Proof.Machine.execSprLoadDone s
  | .spritePositionsDone => Sys2Proof.Machine.execSpritePositionsDone s
  | .lsWrite late => Sys2Proof.Machine.execLsWrite late s
  | .lsWait late => Sys2Proof.Machine.execLsWait late s
  | .lsMark late => Sys2Proof.Machine.execLsMark late s
  | .lsLoop => Sys2Proof.Machine.execLsLoop s
  | .lsEnd => Sys2Proof.Machine.execLsEnd s
  | .frameVerified => Sys2Proof.Machine.execFrameVerified s
  | .wbDescRead => Sys2Proof.Machine.execWbDescRead s
  | .wbDone => Sys2Proof.Machine.execWbDone s
  | .wbBusError address => Sys2Proof.Machine.execWbBusError address s
  | .hpdAssert lanes rate edid => Sys2Proof.Machine.execHpdAssert lanes rate edid s
  | .hpdLow => Sys2Proof.Machine.execHpdLow s
  | .irqHpd lockLost => Sys2Proof.Machine.execIrqHpd lockLost s
  | .hpRetrain w v => Sys2Proof.Machine.execHpRetrain w v s
  | .trainingEnd ok cause micros => Sys2Proof.Machine.execTrainingEnd ok cause micros s
  | .hpAuxData w store b answer => Sys2Proof.Machine.execHpAuxData w store b answer s
  | .isobarWord frame crc sameFrame edge => Sys2Proof.Machine.execIsobarWord frame crc sameFrame edge s
  | .isobarTimeout => Sys2Proof.Machine.execIsobarTimeout s
  | .moveGroup c => Sys2Proof.Machine.execMoveGroup c s
  | .immHi c v => Sys2Proof.Machine.execImmHi c v s
  | .aluAdd c u t => Sys2Proof.Machine.execAluAdd c u t s
  | .aluSub c u t => Sys2Proof.Machine.execAluSub c u t s
  | .aluRsub c u t => Sys2Proof.Machine.execAluRsub c u t s
  | .aluAnd c u t => Sys2Proof.Machine.execAluAnd c u t s
  | .aluOr c u t => Sys2Proof.Machine.execAluOr c u t s
  | .aluXor c u t => Sys2Proof.Machine.execAluXor c u t s
  | .aluAndn c u t => Sys2Proof.Machine.execAluAndn c u t s
  | .aluShl c u t => Sys2Proof.Machine.execAluShl c u t s
  | .aluShr c u t => Sys2Proof.Machine.execAluShr c u t s
  | .aluSra c u t => Sys2Proof.Machine.execAluSra c u t s
  | .aluRotl c u t => Sys2Proof.Machine.execAluRotl c u t s
  | .aluMin c u t => Sys2Proof.Machine.execAluMin c u t s
  | .aluMax c u t => Sys2Proof.Machine.execAluMax c u t s
  | .aluMinu c u t => Sys2Proof.Machine.execAluMinu c u t s
  | .aluMaxu c u t => Sys2Proof.Machine.execAluMaxu c u t s
  | .aluNeg c u t => Sys2Proof.Machine.execAluNeg c u t s
  | .aluNot c u t => Sys2Proof.Machine.execAluNot c u t s
  | .aluSext8 c u t => Sys2Proof.Machine.execAluSext8 c u t s
  | .aluSext16 c u t => Sys2Proof.Machine.execAluSext16 c u t s
  | .cmpEq c b => Sys2Proof.Machine.execCmpEq c b s
  | .cmpNe c b => Sys2Proof.Machine.execCmpNe c b s
  | .cmpLt c b => Sys2Proof.Machine.execCmpLt c b s
  | .cmpGe c b => Sys2Proof.Machine.execCmpGe c b s
  | .cmpLtu c b => Sys2Proof.Machine.execCmpLtu c b s
  | .cmpGeu c b => Sys2Proof.Machine.execCmpGeu c b s
  | .mulLs c t => Sys2Proof.Machine.execMulLs c t s
  | .mulLu c t => Sys2Proof.Machine.execMulLu c t s
  | .mulHs c t => Sys2Proof.Machine.execMulHs c t s
  | .mulHu c t => Sys2Proof.Machine.execMulHu c t s
  | .divS c t => Sys2Proof.Machine.execDivS c t s
  | .divU c t => Sys2Proof.Machine.execDivU c t s
  | .divDone c => Sys2Proof.Machine.execDivDone c s
  | .fadd c t => Sys2Proof.Machine.execFadd c t s
  | .fsub c t => Sys2Proof.Machine.execFsub c t s
  | .fmul c t => Sys2Proof.Machine.execFmul c t s
  | .fmin c t => Sys2Proof.Machine.execFmin c t s
  | .fmax c t => Sys2Proof.Machine.execFmax c t s
  | .fabs c t => Sys2Proof.Machine.execFabs c t s
  | .fneg c t => Sys2Proof.Machine.execFneg c t s
  | .fcvtSw c t => Sys2Proof.Machine.execFcvtSw c t s
  | .fcvtSwu c t => Sys2Proof.Machine.execFcvtSwu c t s
  | .fcvtWs c t => Sys2Proof.Machine.execFcvtWs c t s
  | .fcvtWus c t => Sys2Proof.Machine.execFcvtWus c t s
  | .feq c t => Sys2Proof.Machine.execFeq c t s
  | .flt c t => Sys2Proof.Machine.execFlt c t s
  | .fle c t => Sys2Proof.Machine.execFle c t s
  | .lsuLdw c a => Sys2Proof.Machine.execLsuLdw c a s
  | .lsuLdh c a => Sys2Proof.Machine.execLsuLdh c a s
  | .lsuLdb c a => Sys2Proof.Machine.execLsuLdb c a s
  | .lsuLdsh c a => Sys2Proof.Machine.execLsuLdsh c a s
  | .lsuLdsb c a => Sys2Proof.Machine.execLsuLdsb c a s
  | .lsuStw c a => Sys2Proof.Machine.execLsuStw c a s
  | .lsuSth c a => Sys2Proof.Machine.execLsuSth c a s
  | .lsuStb c a => Sys2Proof.Machine.execLsuStb c a s
  | .loadDataReturn c clocks => Sys2Proof.Machine.execLoadDataReturn c clocks s
  | .storeDrain c => Sys2Proof.Machine.execStoreDrain c s
  | .bruJmp c a => Sys2Proof.Machine.execBruJmp c a s
  | .bruCall c a => Sys2Proof.Machine.execBruCall c a s
  | .bruRet c => Sys2Proof.Machine.execBruRet c s
  | .bruRetint c => Sys2Proof.Machine.execBruRetint c s
  | .bruSync c => Sys2Proof.Machine.execBruSync c s
  | .gpioSet c v => Sys2Proof.Machine.execGpioSet c v s
  | .gpioClr c v => Sys2Proof.Machine.execGpioClr c v s
  | .gpioTgl c v => Sys2Proof.Machine.execGpioTgl c v s
  | .ctlWait c => Sys2Proof.Machine.execCtlWait c s
  | .ctlMcdata c v => Sys2Proof.Machine.execCtlMcdata c v s
  | .coreMcData w c v => Sys2Proof.Machine.execCoreMcData w c v s
  | .macroStart c k ext arg => Sys2Proof.Machine.execMacroStart c k ext arg s
  | .intEntry c => Sys2Proof.Machine.execIntEntry c s
  | .faultEntry c code detail port => Sys2Proof.Machine.execFaultEntry c code detail port s
  | .ssUpd c next v => Sys2Proof.Machine.execSsUpd c next v s
  | .ssRd c v => Sys2Proof.Machine.execSsRd c v s
  | .ssRdst c v => Sys2Proof.Machine.execSsRdst c v s
  | .plWr c sub v => Sys2Proof.Machine.execPlWr c sub v s
  | .plRd c sub => Sys2Proof.Machine.execPlRd c sub s
  | .nqReq c notify v => Sys2Proof.Machine.execNqReq c notify v s
  | .nqSt c tag => Sys2Proof.Machine.execNqSt c tag s
  | .sourceAssert src => Sys2Proof.Machine.execSourceAssert src s
  | .icRoute w src v => Sys2Proof.Machine.execIcRoute w src v s
  | .maskWriteAccept => Sys2Proof.Machine.execMaskWriteAccept s
  | .icPending w word v => Sys2Proof.Machine.execIcPending w word v s
  | .doorbellRing n => Sys2Proof.Machine.execDoorbellRing n s
  | .irqComplete c src => Sys2Proof.Machine.execIrqComplete c src s
  | .irqThr c v => Sys2Proof.Machine.execIrqThr c v s
  | .dmaStart n addr cop => Sys2Proof.Machine.execDmaStart n addr cop s
  | .dmaBell n => Sys2Proof.Machine.execDmaBell n s
  | .dmaHalt n => Sys2Proof.Machine.execDmaHalt n s
  | .dmaSt c n => Sys2Proof.Machine.execDmaSt c n s
  | .descReadDone n => Sys2Proof.Machine.execDescReadDone n s
  | .descComplete n => Sys2Proof.Machine.execDescComplete n s
  | .dmaAccessError n write => Sys2Proof.Machine.execDmaAccessError n write s
  | .haltDone n => Sys2Proof.Machine.execHaltDone n s
  | .bltRun addr cop => Sys2Proof.Machine.execBltRun addr cop s
  | .bltAbort => Sys2Proof.Machine.execBltAbort s
  | .bltSt c => Sys2Proof.Machine.execBltSt c s
  | .bltCmdRead => Sys2Proof.Machine.execBltCmdRead s
  | .bltSpanReadsDone => Sys2Proof.Machine.execBltSpanReadsDone s
  | .bltSpanWritesDone => Sys2Proof.Machine.execBltSpanWritesDone s
  | .bltError address => Sys2Proof.Machine.execBltError address s
  | .tmWrap n => Sys2Proof.Machine.execTmWrap n s
  | .tmMatch n written => Sys2Proof.Machine.execTmMatch n written s
  | .tmGroupStart w v => Sys2Proof.Machine.execTmGroupStart w v s
  | .tmGroupStop w v => Sys2Proof.Machine.execTmGroupStop w v s
  | .atGroupStart w v => Sys2Proof.Machine.execAtGroupStart w v s
  | .atGroupStop w v => Sys2Proof.Machine.execAtGroupStop w v s
  | .tmStagger w v => Sys2Proof.Machine.execTmStagger w v s
  | .tmCount w n v => Sys2Proof.Machine.execTmCount w n v s
  | .tmReload w n v => Sys2Proof.Machine.execTmReload w n v s
  | .tmCompare w n v => Sys2Proof.Machine.execTmCompare w n v s
  | .tmLockStart n => Sys2Proof.Machine.execTmLockStart n s
  | .pinMux w k v => Sys2Proof.Machine.execPinMux w k v s
  | .pinHandoverEnd k => Sys2Proof.Machine.execPinHandoverEnd k s
  | .pinCfg w k v => Sys2Proof.Machine.execPinCfg w k v s
  | .pinDetect k level => Sys2Proof.Machine.execPinDetect k level s
  | .patternMatch u => Sys2Proof.Machine.execPatternMatch u s
  | .patGrant w v => Sys2Proof.Machine.execPatGrant w v s
  | .aqPush stamp arg code => Sys2Proof.Machine.execAqPush stamp arg code s
  | .sampleBoundary => Sys2Proof.Machine.execSampleBoundary s
  | .voiceArm arg => Sys2Proof.Machine.execVoiceArm arg s
  | .voiceStart arg accepted => Sys2Proof.Machine.execVoiceStart arg accepted s
  | .voiceStop arg => Sys2Proof.Machine.execVoiceStop arg s
  | .toneStart arg => Sys2Proof.Machine.execToneStart arg s
  | .toneStop arg => Sys2Proof.Machine.execToneStop arg s
  | .gain arg => Sys2Proof.Machine.execGain arg s
  | .route arg => Sys2Proof.Machine.execRoute arg s
  | .audMark arg => Sys2Proof.Machine.execAudMark arg s
  | .voiceFetchReturn v => Sys2Proof.Machine.execVoiceFetchReturn v s
  | .voiceFetchError v => Sys2Proof.Machine.execVoiceFetchError v s
  | .gainZcTimeout g => Sys2Proof.Machine.execGainZcTimeout g s
  | .tdmFsLoss n => Sys2Proof.Machine.execTdmFsLoss n s
  | .tdmCfg w n v => Sys2Proof.Machine.execTdmCfg w n v s
  | .audioResync => Sys2Proof.Machine.execAudioResync s
  | .paging h stream rate time samples => Sys2Proof.Machine.execPaging h stream rate time samples s
  | .ethFrameRx k frame fcsGood own => Sys2Proof.Machine.execEthFrameRx k frame fcsGood own s
  | .spiHostFrame bytes => Sys2Proof.Machine.execSpiHostFrame bytes s
  | .copReplySend => Sys2Proof.Machine.execCopReplySend s
  | .segStart h idx sub dir total crc => Sys2Proof.Machine.execSegStart h idx sub dir total crc s
  | .segData h offset data => Sys2Proof.Machine.execSegData h offset data s
  | .segAck h next => Sys2Proof.Machine.execSegAck h next s
  | .segResend xfer => Sys2Proof.Machine.execSegResend xfer s
  | .segTimeout xfer => Sys2Proof.Machine.execSegTimeout xfer s
  | .subSample n => Sys2Proof.Machine.execSubSample n s
  | .progressSend value => Sys2Proof.Machine.execProgressSend value s
  | .lopDone status => Sys2Proof.Machine.execLopDone status s
  | .dictSave w v => Sys2Proof.Machine.execDictSave w v s
  | .tbSyncRx k best offset hops => Sys2Proof.Machine.execTbSyncRx k best offset hops s
  | .tbLost win => Sys2Proof.Machine.execTbLost win s
  | .netTbSet w lo hi => Sys2Proof.Machine.execNetTbSet w lo hi s
  | .pollSend => Sys2Proof.Machine.execPollSend s
  | .pollReply d status value => Sys2Proof.Machine.execPollReply d status value s
  | .rawRx frame => Sys2Proof.Machine.execRawRx frame s
  | .rawTxDone => Sys2Proof.Machine.execRawTxDone s
  | .linkChange k up speed => Sys2Proof.Machine.execLinkChange k up speed s
  | .appRequest q => Sys2Proof.Machine.execAppRequest q s
  | .appDone p => Sys2Proof.Machine.execAppDone p s
  | .appTimeout p => Sys2Proof.Machine.execAppTimeout p s
  | .bmStart => Sys2Proof.Machine.execBmStart s
  | .bmBootDone => Sys2Proof.Machine.execBmBootDone s
  | .bmRestart => Sys2Proof.Machine.execBmRestart s
  | .bmWatchdog v => Sys2Proof.Machine.execBmWatchdog v s
  | .watchdogHalf => Sys2Proof.Machine.execWatchdogHalf s
  | .watchdog => Sys2Proof.Machine.execWatchdog s
  | .bmSessionOpen typ => Sys2Proof.Machine.execBmSessionOpen typ s
  | .bmSessionClose => Sys2Proof.Machine.execBmSessionClose s
  | .sealSwChange closed => Sys2Proof.Machine.execSealSwChange closed s
  | .bmFwCommit => Sys2Proof.Machine.execBmFwCommit s
  | .fwVerifyDone => Sys2Proof.Machine.execFwVerifyDone s
  | .bmBank v => Sys2Proof.Machine.execBmBank v s
  | .bankCheckDone => Sys2Proof.Machine.execBankCheckDone s
  | .bmErrRelease => Sys2Proof.Machine.execBmErrRelease s
  | .idShow fromLegal => Sys2Proof.Machine.execIdShow fromLegal s
  | .idTimeExpire => Sys2Proof.Machine.execIdTimeExpire s
  | .bmWake => Sys2Proof.Machine.execBmWake s
  | .bmReverify => Sys2Proof.Machine.execBmReverify s
  | .reverifyDone => Sys2Proof.Machine.execReverifyDone s
  | .bmAuditFree seq => Sys2Proof.Machine.execBmAuditFree seq s
  | .compactionDone => Sys2Proof.Machine.execCompactionDone s
  | .bmMirrorData w => Sys2Proof.Machine.execBmMirrorData w s
  | .mirrorRefresh temp => Sys2Proof.Machine.execMirrorRefresh temp s
  | .lglMsgIn h message => Sys2Proof.Machine.execLglMsgIn h message s
  | .inDone => Sys2Proof.Machine.execInDone s
  | .outSend len => Sys2Proof.Machine.execOutSend len s
  | .lglMsgOutAck w v => Sys2Proof.Machine.execLglMsgOutAck w v s
  | .calStart n => Sys2Proof.Machine.execCalStart n s
  | .calSweep n => Sys2Proof.Machine.execCalSweep n s
  | .firCoefWrite n v => Sys2Proof.Machine.execFirCoefWrite n v s
  | .calDone n ok => Sys2Proof.Machine.execCalDone n ok s
  | .lcSample n dec overrange refLow supplyLow => Sys2Proof.Machine.execLcSample n dec overrange refLow supplyLow s
  | .excitationReversal n => Sys2Proof.Machine.execExcitationReversal n s
  | .bmChnSample n => Sys2Proof.Machine.execBmChnSample n s
  | .serFrameRx content => Sys2Proof.Machine.execSerFrameRx content s
  | .ident => Sys2Proof.Machine.execIdent s
  | .auditRead => Sys2Proof.Machine.execAuditRead s
  | .auditRange => Sys2Proof.Machine.execAuditRange s
  | .serUnknownType => Sys2Proof.Machine.execSerUnknownType s
  | .serRxPop => Sys2Proof.Machine.execSerRxPop s
  | .serTxData w => Sys2Proof.Machine.execSerTxData w s
  | .serTxSend v => Sys2Proof.Machine.execSerTxSend v s
  | .serTxDone => Sys2Proof.Machine.execSerTxDone s
  | .clockFallback => Sys2Proof.Machine.execClockFallback s
  | .pwrStateReq w v => Sys2Proof.Machine.execPwrStateReq w v s
  | .stateDone => Sys2Proof.Machine.execStateDone s
  | .pwrDomainReq w v => Sys2Proof.Machine.execPwrDomainReq w v s
  | .domainSwitched d => Sys2Proof.Machine.execDomainSwitched d s
  | .wakePin => Sys2Proof.Machine.execWakePin s
  | .resumeDone => Sys2Proof.Machine.execResumeDone s
  | .warmStart w => Sys2Proof.Machine.execWarmStart w s
  | .coldStart w => Sys2Proof.Machine.execColdStart w s
  | .powerCycle w => Sys2Proof.Machine.execPowerCycle w s
  | .pwrBootOk w v => Sys2Proof.Machine.execPwrBootOk w v s
  | .bootTimeout => Sys2Proof.Machine.execBootTimeout s
  | .mcTrainDone reloadOk ok micros => Sys2Proof.Machine.execMcTrainDone reloadOk ok micros s
  | .clkFail => Sys2Proof.Machine.execClkFail s
  | .wardenWdt => Sys2Proof.Machine.execWardenWdt s
  | .recCmd w v => Sys2Proof.Machine.execRecCmd w v s
  | .reinitDone e => Sys2Proof.Machine.execReinitDone e s
  | .ladderWindowExpire e => Sys2Proof.Machine.execLadderWindowExpire e s
  | .supplyLoss => Sys2Proof.Machine.execSupplyLoss s
  | .secLcReq fromDebugger w v => Sys2Proof.Machine.execSecLcReq fromDebugger w v s
  | .lcFusesBlown => Sys2Proof.Machine.execLcFusesBlown s
  | .secFuseProg w value readBack => Sys2Proof.Machine.execSecFuseProg w value readBack s
  | .idcode => Sys2Proof.Machine.execIdcode s
  | .samplePreload v => Sys2Proof.Machine.execSamplePreload v s
  | .extest v => Sys2Proof.Machine.execExtest v s
  | .bypass => Sys2Proof.Machine.execBypass s
  | .dapRead target addr => Sys2Proof.Machine.execDapRead target addr s
  | .dapWrite target addr data => Sys2Proof.Machine.execDapWrite target addr data s
  | .dapHalt target => Sys2Proof.Machine.execDapHalt target s
  | .dapResume target step => Sys2Proof.Machine.execDapResume target step s
  | .dbgAttach => Sys2Proof.Machine.execDbgAttach s
  | .dbgDetach => Sys2Proof.Machine.execDbgDetach s
  | .dbgChallenge => Sys2Proof.Machine.execDbgChallenge s
  | .dbgResponse perm key sig => Sys2Proof.Machine.execDbgResponse perm key sig s
  | .authCheckDone => Sys2Proof.Machine.execAuthCheckDone s
  | .dbgWake request => Sys2Proof.Machine.execDbgWake request s
  | .trstN => Sys2Proof.Machine.execTrstN s
  | .perfCapture => Sys2Proof.Machine.execPerfCapture s
  | .dumpNow w => Sys2Proof.Machine.execDumpNow w s
  | .clearAll w => Sys2Proof.Machine.execClearAll w s
  | .perfRecordDone => Sys2Proof.Machine.execPerfRecordDone s
  | .stReq w v => Sys2Proof.Machine.execStReq w v s
  | .stDone fail => Sys2Proof.Machine.execStDone fail s
  | .healthWindowEnd => Sys2Proof.Machine.execHealthWindowEnd s
  | .tempHigh temp => Sys2Proof.Machine.execTempHigh temp s
  | .resetRelease bootSel => Sys2Proof.Machine.execResetRelease bootSel s
  | .referenceRestored => Sys2Proof.Machine.execReferenceRestored s
  | .lfCrystalValid => Sys2Proof.Machine.execLfCrystalValid s
  | .resultComplete c => Sys2Proof.Machine.execResultComplete c s
  | .dmaDataReadDone n => Sys2Proof.Machine.execDmaDataReadDone n s
  | .tdmFsReturn n rate => Sys2Proof.Machine.execTdmFsReturn n rate s
  | .syncInterval => Sys2Proof.Machine.execSyncInterval s
  | .tbPps => Sys2Proof.Machine.execTbPps s
  | .gateControlEntry k => Sys2Proof.Machine.execGateControlEntry k s
  | .addressAgeing mac => Sys2Proof.Machine.execAddressAgeing mac s

end Sys2Proof.Machine
end

