-- ==== Sys2Proof/Machine/Tick.lean ====
section
/-! DEFINITION. What passes with time on an idle step: one clock of the 600 MHz engine clock, in which the time base, the signal store's walk, the timers
and the performance counters of levels advance. -/
namespace Sys2Proof.Machine

/-- The ticks of a clock of num / den Hz within engine clock k. -/
def ticksIn (num den k : Nat) : Nat := (k + 1) * num / (den * 600000000) - k * num / (den * 600000000)

/-- The clock of an engine in Hz, as a fraction (R424, R429): rendering, the signal store, DMA and the blitter 600 MHz, application cores, the
interconnect's engines 800 MHz, timers and pins 100 MHz, audio 98.304 MHz, the memory 2133 MHz, the network 125 MHz, the Warden 16 MHz, engine 1
the low-frequency clock, each head its pixel clock while the raster runs. -/
def engineClock (s : State) (e : Nat) : Nat × Nat :=
  if e = 0 then (16000000, 1) else if e = 1 then (32768, 1) else if e = 3 ∨ e = 4 then (if domainOn s 8 then 100000000 else 0, 1)
  else if e = 7 then (125000000, 1) else if e = 16 then (98304000, 1) else if e = 18 then (2133000000, 1)
  else if e = 13 then (if s.raster.running then ((modeInfo (modeP (regN s kModeCur))).clkNum, (modeInfo (modeP (regN s kModeCur))).clkDen) else (0, 1))
  else if e = 14 then (if s.raster.running then ((headSMode s).clkNum, (headSMode s).clkDen) else (0, 1))
  else if e = 2 ∨ e = 17 ∨ e = 36 ∨ (28 ≤ e ∧ e ≤ 35) then (800000000, 1)
  else (600000000, 1)

/-- Adds parts of 1/384 ns to the time base. -/
def timePasses (s : State) (parts : Nat) : State :=
  let t := s.tb.frac + parts
  { s with tb := { s.tb with ns := (s.tb.ns + t / 384) % 2 ^ 64, frac := t % 384 } }

/-- The time base in one engine clock: 5/3 ns, or 10^9 / 32768 ns at each low-frequency tick while domain 7 is off (R398, R430). -/
def timeClock (s : State) (lf : Bool) : State :=
  if domainOn s 7 && !s.pwr.refStopped then timePasses s 640 else if lf then timePasses s (30517 * 384 + 222) else s

/-- TB_PPS and FRAME_PULSE fall at the end of their time, and TB_PPS without domain 7 (R486). -/
def pulseEnds (s : State) : State :=
  let s1 := if bitAt s.pins.func 7 && (decide (s.pins.ppsUntil ≤ s.tb.ns) || !(domainOn s 7)) then funcDrive s 7 false else s
  if bitAt s1.pins.func 8 && decide (s1.pins.frameUntil ≤ s1.tb.ns) then funcDrive s1 8 false else s1

/-- Level counting of an engine in engine clock k. -/
def perfClocks (k : Nat) (s : State) (e : Nat) : State :=
  let c := engineClock s e
  (List.range (ticksIn c.1 c.2 k)).foldl (fun t _ => perfLevel t e) s

/-- The timer clock: while the time base is synchronised an edge at every multiple of 10 ns, each at its own time-base value, else every sixth engine
clock (R347). A correction that turns the time base back brings no second edge at a multiple. -/
def timerEdges (k : Nat) (s : State) : State :=
  let now := s.tb.ns / 10
  let clock (t : State) : State := if domainOn t 8 then tmClocks t else t
  let s1 :=
    if s.tb.sync then
      let t := (List.range (min 128 (now - s.tm.edge))).foldl (fun u i => clock { u with tb := { u.tb with ns := 10 * (s.tm.edge + 1 + i) } }) s
      { t with tb := { t.tb with ns := s.tb.ns } }
    else if k % 6 = 5 then clock s else s
  { s1 with tm := { s1.tm with edge := if s.tb.sync then max s.tm.edge now else now } }

/-- One engine clock. Without supplies nothing happens; without the reference only the low-frequency clock runs. -/
def tick (s : State) : State :=
  if !s.pwr.supply then s
  else
    let k := s.clk
    let lf := decide (0 < ticksIn 32768 1 k)
    let s0 := timeClock { s with clk := k + 1 } lf
    let s1 := if idleOpen s0 then s0 else idleClose s0
    let s2 := if s1.pwr.refStopped then s1
      else
        let a := if engineOn s1 8 then walkTick s1 else s1
        let b := timerEdges k a
        (List.range 37).foldl (perfClocks k) b
    settle (pulseEnds (if lf then atClocks s2 else s2))

end Sys2Proof.Machine
end

