-- ==== Sys2Proof/Safety.lean ====
section
/-! DEFINITION. The terms in which claims are stated: a run that does not stop, a state that owes nothing, canonical stores, a command that completes
with an effect, and a core whose next group can issue at once. -/
namespace Sys2Proof.Machine

/-- A step that answers a next state: neither a fault nor a refusal. -/
def completes (s : State) : Prop := ∃ t, step s = .next t

/-- Nothing that a command notes for its own end is left: no source, no performance event, no wake cause (R310, R439, R463, R431). -/
def OwesNothing (s : State) : Prop := s.raised = [] ∧ s.counted = [] ∧ s.woken = []

/-- A command completes, and what it does before its own end holds `P`; the end (`settle`) brings about what the sources, events and wakes it
caused call for: the recovery ladder, subscriptions, counters, health (R439, R412, R463, R471), and what engine 19 keeps up at every change (R255). -/
def Completes (s : State) (c : Instr) (P : State → Prop) : Prop := ∃ u, exec c s = .next (settle u) ∧ P u

/-- Every sparse store of the device is in its canonical form: keys rise, and no entry equals what an unlisted key reads as. -/
def Canonical (s : State) : Prop :=
  mapWf dictReset s.dict = true ∧ mapWf memReset s.mem.sram = true ∧ mapWf memReset s.mem.vsram = true ∧
  mapWf memReset s.mem.ext = true ∧ mapWf memReset s.mem.flash = true

/-- A core that issues its next group at once: clocked and running, nothing held, no latch armed, no interrupt to enter, no single step asked for,
the next four bytes fetched and inside the instruction RAM (R258, R286, R305). -/
structure CoreReady (s : State) (c : Nat) : Prop where
  clocked : coreOn s c = true
  running : (coreOf s c).run = 1
  free : (coreOf s c).held = none
  plain : (coreOf s c).immHi = none
  quiet : entered s c = none
  noStep : (coreOf s c).stepReq = false
  inRam : (coreOf s c).pc + 4 ≤ iramSize c
  fetched : wordsReady (coreOf s c) (coreOf s c).pc 4 (coreOf s c).cyc = true

/-- Everything but the cores and the performance events noted is as it was. -/
def SameButCores (s t : State) : Prop := t = { s with cores := t.cores, counted := t.counted }

/-- A core's registers, guards, operands, RAM, nesting, store buffer and tables are as they were: of its state only its place in the program, its clock,
results, what issuing uses up and the note of its last change of pads may differ. -/
def SameRegs (x y : Core) : Prop :=
  y = { x with
    pc := y.pc, res := y.res, flight := y.flight, div := y.div, fpuFlags := y.fpuFlags, sticky := y.sticky, cyc := y.cyc,
    immHi := y.immHi, returned := y.returned, held := y.held, queue := y.queue, prev := y.prev, used := y.used, fresh := y.fresh,
    pads := y.pads }

/-- No result is in flight and no division runs. -/
def Idle (x : Core) : Prop := x.flight = [] ∧ x.div = none

/-- What a command of a ready core that is one plain trigger leaves besides its own effect: everything else of the device and the other cores as before,
the program counter past the 4-byte parcel and the core clock one on (R258). -/
def OneGroup (s r : State) (c : Nat) : Prop :=
  SameButCores s r ∧ (∀ d, d ≠ c → coreOf r d = coreOf s d) ∧ (coreOf r c).pc = (coreOf s c).pc + 4 ∧ (coreOf r c).cyc = (coreOf s c).cyc + 1

/-- The row of the word entry that a write reaches, where its writer's path can reach it. -/
def writeFinds (s : State) (w : Writer) (idx sub : Nat) : Option DictRow := match w with
  | .proc _ => localReaches s idx sub
  | .cop _ => if reachStatus s idx sub true = 0 ∧ entryOffline s idx sub = false then (dictRow? idx sub).filter (fun r => !(isBytes r.typ)) else none
  | .bellmetal => none

/-- A write of one entry, by a processor's store or a COP message, reaches an entry of row `r` and passes every check: the entry exists and is powered,
its engine is not at step 2, the writer may write it, and the word holds no reserved content (R12, R25, R408, R419, R420). -/
structure StoreReaches (s : State) (w : Writer) (idx sub : Nat) (v : Word) (r : DictRow) : Prop where
  reach : writeFinds s w idx sub = some r
  access : r.acc ≠ .ro ∧ r.acc ≠ .rs
  owner : mayWrite s r idx sub w false = true
  content : checkWrite s r idx sub v.toNat = ⟨(checkWrite s r idx sub v.toNat).mask, v.toNat, false, false⟩

/-- Every entry but those named keeps its value. -/
def KeepsEntries (ks : List Nat) (s r : State) : Prop := ∀ k, k ∉ ks → regGet r k = regGet s k

/-- A source asserts, when the device routes it and its engine and the controller are on (R310, R322). -/
def Asserted (s : State) (src : Nat) (r : State) : Prop := domainOn s 8 = true → sourceLive s src = true → src ∈ r.raised

/-- The parts of the device's state. `reports` is what an engine's report touches: the entries, the interrupt controller and what is noted for the
command's end; `requests` is what the memory controller tracks (R35). -/
inductive Part where
  | reports | timeBase | blobs | saved | snaps | memory | signals | raster | graphics | verifier | writeBack | headP | net | cores | bellmetal
  | dma | blitter | timers | pins | security | audio | power | health | requests | free
  deriving DecidableEq, Repr

/-- Everything but the parts named is as it was. -/
def SameBut (ps : List Part) (s r : State) : Prop :=
  (Part.reports ∈ ps ∨ (r.dict = s.dict ∧ r.ic = s.ic ∧ r.raised = s.raised ∧ r.counted = s.counted ∧ r.woken = s.woken)) ∧
  (Part.timeBase ∈ ps ∨ (r.tb = s.tb ∧ r.clk = s.clk ∧ r.icnStart = s.icnStart)) ∧ (Part.blobs ∈ ps ∨ r.blobs = s.blobs) ∧
  (Part.saved ∈ ps ∨ (r.saved = s.saved ∧ r.savedBlobs = s.savedBlobs)) ∧ (Part.snaps ∈ ps ∨ r.snaps = s.snaps) ∧
  (Part.memory ∈ ps ∨ r.mem = s.mem) ∧ (Part.signals ∈ ps ∨ r.ss = s.ss) ∧ (Part.raster ∈ ps ∨ r.raster = s.raster) ∧
  (Part.graphics ∈ ps ∨ r.gfx = s.gfx) ∧ (Part.verifier ∈ ps ∨ r.ver = s.ver) ∧ (Part.writeBack ∈ ps ∨ r.wb = s.wb) ∧
  (Part.headP ∈ ps ∨ r.hp = s.hp) ∧ (Part.net ∈ ps ∨ r.net = s.net) ∧ (Part.cores ∈ ps ∨ r.cores = s.cores) ∧
  (Part.bellmetal ∈ ps ∨ r.bm = s.bm) ∧ (Part.dma ∈ ps ∨ r.dma = s.dma) ∧ (Part.blitter ∈ ps ∨ r.blt = s.blt) ∧
  (Part.timers ∈ ps ∨ r.tm = s.tm) ∧ (Part.pins ∈ ps ∨ r.pins = s.pins) ∧ (Part.security ∈ ps ∨ r.sec = s.sec) ∧
  (Part.audio ∈ ps ∨ r.aud = s.aud) ∧ (Part.power ∈ ps ∨ r.pwr = s.pwr) ∧ (Part.health ∈ ps ∨ r.health = s.health) ∧
  (Part.requests ∈ ps ∨ r.tracker = s.tracker) ∧ (Part.free ∈ ps ∨ r.freeCtr = s.freeCtr) ∧ r.variant = s.variant ∧ r.pending = s.pending

end Sys2Proof.Machine
end

