-- ==== Sys2Proof/Certificates/Slice0/Obligations.lean ====
section
/-! DEFINITION. The statements for the provers: the rules of the spec as claims about the model. Instruction maps name the command of each operation
of a table; every statement about a command says that it completes and what the next state holds. -/
open Sys2Proof Sys2Proof.Machine

namespace Sys2Proof.Claims

/-- The command of an ALU operation (R266). -/
def aluInstr : AluOp → Fin 10 → Fin 2 → Word → Instr
  | .add => .aluAdd | .sub => .aluSub | .rsub => .aluRsub | .and => .aluAnd | .or => .aluOr | .xor => .aluXor | .andn => .aluAndn
  | .shl => .aluShl | .shr => .aluShr | .sra => .aluSra | .rotl => .aluRotl | .min => .aluMin | .max => .aluMax | .minu => .aluMinu
  | .maxu => .aluMaxu | .neg => .aluNeg | .not => .aluNot | .sext8 => .aluSext8 | .sext16 => .aluSext16

/-- The command of a comparison (R267). -/
def cmpInstr : CmpOp → Fin 10 → Word → Instr
  | .eq => .cmpEq | .ne => .cmpNe | .lt => .cmpLt | .ge => .cmpGe | .ltu => .cmpLtu | .geu => .cmpGeu

/-- The command of a multiplication (R268). -/
def mulInstr : MulOp → Fin 10 → Word → Instr
  | .ls => .mulLs | .lu => .mulLu | .hs => .mulHs | .hu => .mulHu

/-- The command of a binary32 operation (R270). -/
def fpuInstr : FpuOp → Fin 10 → Word → Instr
  | .add => .fadd | .sub => .fsub | .mul => .fmul | .min => .fmin | .max => .fmax | .abs => .fabs | .neg => .fneg | .sw => .fcvtSw
  | .swu => .fcvtSwu | .ws => .fcvtWs | .wus => .fcvtWus | .eq => .feq | .lt => .flt | .le => .fle

/-- The command of a load of a width with or without sign extension (R271). -/
def loadInstr : Nat → Bool → Fin 10 → Word → Instr
  | 4, _ => .lsuLdw | 2, false => .lsuLdh | 2, true => .lsuLdsh | _, false => .lsuLdb | _, true => .lsuLdsb

/-- The command of a store of a width (R271). -/
def storeInstr : Nat → Fin 10 → Word → Instr
  | 4 => .lsuStw | 2 => .lsuSth | _ => .lsuStb

end Sys2Proof.Claims

open Sys2Proof.Claims

/-! ### The Buzhail cores -/

/-- R266, R299: what each ALU operation computes, in integers modulo 2^32, with signed overflow of add, sub, rsub and neg. -/
def Sys2Proof.Claims.AluOperations : Prop :=
  ∀ o t : Word,
    (aluRes .add o t).toNat = (o.toNat + t.toNat) % 2 ^ 32 ∧
    (aluRes .sub o t).toNat = (o.toNat + (2 ^ 32 - t.toNat)) % 2 ^ 32 ∧
    (aluRes .rsub o t).toNat = (t.toNat + (2 ^ 32 - o.toNat)) % 2 ^ 32 ∧
    (∀ i : Nat, (aluRes .and o t).getLsbD i = (o.getLsbD i && t.getLsbD i)) ∧
    (∀ i : Nat, (aluRes .or o t).getLsbD i = (o.getLsbD i || t.getLsbD i)) ∧
    (∀ i : Nat, (aluRes .xor o t).getLsbD i = (o.getLsbD i != t.getLsbD i)) ∧
    (∀ i : Nat, (aluRes .andn o t).getLsbD i = (o.getLsbD i && !(t.getLsbD i))) ∧
    (aluRes .shl o t).toNat = (o.toNat * 2 ^ (t.toNat % 256)) % 2 ^ 32 ∧
    (aluRes .shr o t).toNat = o.toNat / 2 ^ (t.toNat % 256) ∧
    (aluRes .sra o t).toInt = o.toInt / 2 ^ (t.toNat % 256) ∧
    (∀ i : Nat, i < 32 → (aluRes .rotl o t).getLsbD ((i + t.toNat) % 32) = o.getLsbD i) ∧
    (aluRes .min o t).toInt = min o.toInt t.toInt ∧ (aluRes .max o t).toInt = max o.toInt t.toInt ∧
    (aluRes .minu o t).toNat = min o.toNat t.toNat ∧ (aluRes .maxu o t).toNat = max o.toNat t.toNat ∧
    (aluRes .neg o t).toNat = (2 ^ 32 - t.toNat) % 2 ^ 32 ∧ (∀ i : Nat, i < 32 → (aluRes .not o t).getLsbD i = !(t.getLsbD i)) ∧
    (aluRes .sext8 o t).toInt = (t.toInt + 128) % 256 - 128 ∧ (aluRes .sext16 o t).toInt = (t.toInt + 32768) % 65536 - 32768 ∧
    (aluOvf .add o t = true ↔ ¬ (-(2 ^ 31) ≤ o.toInt + t.toInt ∧ o.toInt + t.toInt < 2 ^ 31)) ∧
    (aluOvf .sub o t = true ↔ ¬ (-(2 ^ 31) ≤ o.toInt - t.toInt ∧ o.toInt - t.toInt < 2 ^ 31)) ∧
    (aluOvf .rsub o t = true ↔ ¬ (-(2 ^ 31) ≤ t.toInt - o.toInt ∧ t.toInt - o.toInt < 2 ^ 31)) ∧
    (aluOvf .neg o t = true ↔ t.toInt = -(2 ^ 31))

/-- R258, R264, R266: an ALU command of a ready core puts the operation's result in flight for the next core clock, with the sticky overflow bit of its
ALU where the result overflows, and changes nothing else but the core's place in its program. -/
def Sys2Proof.Claims.AluResultInFlight : Prop :=
  ∀ (s : State) (c : Fin 10) (u : Fin 2) (op : AluOp) (t : Word), CoreReady s c.val → (u = 1 → c.val < 8) →
    Completes s (aluInstr op c u t) (fun r => OneGroup s r c.val ∧ SameRegs (coreOf s c.val) (coreOf r c.val) ∧
      (⟨u.val, (coreOf s c.val).cyc + 1, aluRes op (opdOf (coreOf s c.val) u.val) t,
        if aluOvf op (opdOf (coreOf s c.val) u.val) t then 16 * 2 ^ u.val else 0, 0⟩ : Flight) ∈ (coreOf r c.val).flight)

/-- R267: a comparison of a ready, idle core writes the relation of cmp.a and the trigger value to guard p[cmp.g]; p0 keeps reading 1. The other
guards, the registers, cmp.g and cmp.a keep their values. The relations are those that the rule lists.
It rests in part on choices of the model: log 80. -/
def Obligations.CompareWritesGuard : Prop :=
  (∀ (s : State) (c : Fin 10) (op : CmpOp) (b : Word), CoreReady s c.val → Idle (coreOf s c.val) →
    Completes s (cmpInstr op c b) (fun r => OneGroup s r c.val ∧ (coreOf r c.val).regs = (coreOf s c.val).regs ∧
      resOf (coreOf r c.val) 6 = resOf (coreOf s c.val) 6 ∧ opdOf (coreOf r c.val) 6 = opdOf (coreOf s c.val) 6 ∧
      (∀ g, g < 8 → guardOf (coreOf r c.val) g = if g = 0 then true
        else if g = (resOf (coreOf s c.val) 6).toNat % 8 then cmpRes op (opdOf (coreOf s c.val) 6) b else guardOf (coreOf s c.val) g))) ∧
  (∀ a b : Word, (cmpRes .eq a b = true ↔ a = b) ∧ (cmpRes .ne a b = true ↔ a ≠ b) ∧ (cmpRes .lt a b = true ↔ a.toInt < b.toInt) ∧
    (cmpRes .ge a b = true ↔ b.toInt ≤ a.toInt) ∧ (cmpRes .ltu a b = true ↔ a.toNat < b.toNat) ∧ (cmpRes .geu a b = true ↔ b.toNat ≤ a.toNat))

/-- R268: the products. On Buzhail-W the low forms deliver bits [31:0] and the high forms bits [63:32] of the signed or unsigned product; on Buzhail-S
(processors 8 and 9) the low forms multiply the low halves as I16 or U16 values, and ports 107 and 108 are unassigned. -/
def Sys2Proof.Claims.Products : Prop :=
  (∀ o t : Word, (mulRes false .ls o t).toNat = o.toNat * t.toNat % 2 ^ 32 ∧ mulRes false .lu o t = mulRes false .ls o t ∧
    (mulRes false .hs o t).toInt = o.toInt * t.toInt / 2 ^ 32 ∧ (mulRes false .hu o t).toNat = o.toNat * t.toNat / 2 ^ 32 ∧
    (mulRes true .ls o t).toInt = (o.extractLsb' 0 16).toInt * (t.extractLsb' 0 16).toInt ∧
    (mulRes true .lu o t).toNat = o.toNat % 65536 * (t.toNat % 65536)) ∧
  (∀ c p, p = 107 ∨ p = 108 → (portWrites c p = true ↔ c < 8) ∧ portReads c p = false)

/-- R264, R268, R270: a multiplication or a binary32 operation puts its result in flight, 3 clocks ahead on Buzhail-W and 2 on Buzhail-S for the
multiplier, 4 for the FPU with its flags; Buzhail-S has neither the FPU nor the high products. -/
def Sys2Proof.Claims.MulFpuResultInFlight : Prop :=
  ∀ (s : State) (c : Fin 10) (t : Word), CoreReady s c.val →
    (∀ op : MulOp, (op = .hs ∨ op = .hu → c.val < 8) →
      Completes s (mulInstr op c t) (fun r => OneGroup s r c.val ∧ SameRegs (coreOf s c.val) (coreOf r c.val) ∧
        (⟨2, (coreOf s c.val).cyc + (if 8 ≤ c.val then 2 else 3), mulRes (decide (8 ≤ c.val)) op (opdOf (coreOf s c.val) 2) t, 0, 0⟩ : Flight)
          ∈ (coreOf r c.val).flight)) ∧
    (∀ op : FpuOp, c.val < 8 →
      Completes s (fpuInstr op c t) (fun r => OneGroup s r c.val ∧ SameRegs (coreOf s c.val) (coreOf r c.val) ∧
        (⟨5, (coreOf s c.val).cyc + 4, (fpuRes op (opdOf (coreOf s c.val) 5) t).1, 0, (fpuRes op (opdOf (coreOf s c.val) 5) t).2⟩ : Flight)
          ∈ (coreOf r c.val).flight))

/-- R269: a division of a ready core is due 18 core clocks later; when it is done, quotient and remainder are written together and DIVZ records a
divisor of 0; of the results in flight the oldest is written to its unit with its sticky bits when its clock has come (R264, R273).
It rests in part on choices of the model: log 29. -/
def Obligations.DivisionAndResults : Prop :=
  (∀ (s : State) (c : Fin 10) (signed : Bool) (t : Word), CoreReady s c.val →
    Completes s (if signed then .divS c t else .divU c t) (fun r => OneGroup s r c.val ∧
      (coreOf r c.val).regs = (coreOf s c.val).regs ∧ (Idle (coreOf s c.val) → (coreOf r c.val).sticky = (coreOf s c.val).sticky) ∧
      (coreOf r c.val).div = some ⟨(coreOf s c.val).cyc + 18, (divRes signed (opdOf (coreOf s c.val) 4) t).1,
        (divRes signed (opdOf (coreOf s c.val) 4) t).2, t == 0#32⟩)) ∧
  (∀ (s : State) (c : Fin 10) (d : Division), coreOn s c.val = true → (coreOf s c.val).held = none → (coreOf s c.val).div = some d →
    Completes s (.divDone c) (fun r => resOf (coreOf r c.val) 4 = d.q ∧ resOf (coreOf r c.val) 7 = d.r ∧ (coreOf r c.val).div = none ∧
      ((coreOf s c.val).flight = [] → (coreOf r c.val).sticky = (coreOf s c.val).sticky ||| (if d.divz then 64 else 0)) ∧
      (coreOf r c.val).regs = (coreOf s c.val).regs ∧ (coreOf r c.val).cyc = max (coreOf s c.val).cyc d.due ∧ SameButCores s r)) ∧
  (∀ (s : State) (c : Fin 10) (f : Flight), coreOn s c.val = true → (coreOf s c.val).held = none → f ∈ (coreOf s c.val).flight →
    (∀ g ∈ (coreOf s c.val).flight, f.due ≤ g.due ∧ (g.due = f.due → g.unit = f.unit → g = f)) → f.unit ≠ 4 → f.unit ≠ 7 →
    Completes s (.resultComplete c) (fun r => resOf (coreOf r c.val) f.unit = f.value ∧
      (coreOf r c.val).flight = (coreOf s c.val).flight.filter (fun g => decide (f.due < g.due)) ∧
      (coreOf r c.val).regs = (coreOf s c.val).regs ∧ (coreOf r c.val).cyc = max (coreOf s c.val).cyc f.due ∧ SameButCores s r ∧
      ((coreOf s c.val).flight = [f] → (coreOf s c.val).div = none → (coreOf r c.val).sticky = (coreOf s c.val).sticky ||| f.status ∧
        (coreOf r c.val).fpuFlags = (coreOf s c.val).fpuFlags ||| f.flags ∧ ∀ u, u ≠ f.unit → resOf (coreOf r c.val) u = resOf (coreOf s c.val) u)))

/-- R269, R299: truncated quotient and remainder, with a divisor of 0 and the overflowing signed division. -/
def Sys2Proof.Claims.DivisionRounding : Prop :=
  ∀ o t : Word, (t = 0#32 → divRes true o t = (0xFFFFFFFF#32, o) ∧ divRes false o t = (0xFFFFFFFF#32, o)) ∧
    (t ≠ 0#32 → (divRes false o t).1.toNat = o.toNat / t.toNat ∧ (divRes false o t).2.toNat = o.toNat % t.toNat ∧
      (divRes true o t).1 * t + (divRes true o t).2 = o ∧
      (¬ (o = 0x80000000#32 ∧ t = 0xFFFFFFFF#32) → (divRes true o t).1.toInt = o.toInt.tdiv t.toInt ∧ (divRes true o t).2.toInt = o.toInt.tmod t.toInt) ∧
      (o = 0x80000000#32 → t = 0xFFFFFFFF#32 → divRes true o t = (0x80000000#32, 0#32)))

/-- R271, R264, R20, R221: a load of a processor from its data RAM puts the bytes there, little-endian and extended as its name states, in flight for two
clocks later; a store writes the low bytes of lsu.st there and leaves every other byte of the data RAM as it was.
It rests in part on choices of the model: log 80. -/
def Obligations.LocalLoadStore : Prop :=
  ∀ (s : State) (c : Fin 10) (a : Word) (width : Nat) (signed : Bool) (off : Nat), CoreReady s c.val → width = 1 ∨ width = 2 ∨ width = 4 →
    a.toNat % width = 0 → a.toNat = dramBase c.val + off → off + width ≤ dramSize c.val →
    Completes s (loadInstr width signed c a) (fun r => OneGroup s r c.val ∧ SameRegs (coreOf s c.val) (coreOf r c.val) ∧
      (⟨3, (coreOf s c.val).cyc + 2, extendLoad width (signed && width != 4)
        (ofBytes ((List.range width).map (fun i => byteAt (coreOf s c.val).dram (off + i)))), 0, 0⟩ : Flight) ∈ (coreOf r c.val).flight) ∧
    Completes s (storeInstr width c a) (fun r => OneGroup s r c.val ∧ (coreOf r c.val).regs = (coreOf s c.val).regs ∧
      (coreOf r c.val).iram = (coreOf s c.val).iram ∧
      (∀ i, i < width → byteAt (coreOf r c.val).dram (off + i) = BitVec.ofNat 8 ((opdOf (coreOf s c.val) 3).toNat / 256 ^ i)) ∧
      (∀ b, b < off ∨ off + width ≤ b → byteAt (coreOf r c.val).dram b = byteAt (coreOf s c.val).dram b))

/-- R272, R295, R307: where the next group is after a jump, a call with its link, a return, a synchronisation and an interrupt return, which also
restores guards and level and pops one nesting entry. The registers and data RAM keep their values, and nothing outside the core changes.
It rests in part on choices of the model: logs 79 and 80. -/
def Obligations.BranchesGoToTarget : Prop :=
  ∀ (s : State) (c : Fin 10), CoreReady s c.val →
    (∀ a : Word, a.toNat % 2 = 0 → a.toNat < iramSize c.val →
      Completes s (.bruJmp c a) (fun r => (coreOf r c.val).pc = a.toNat ∧ (coreOf r c.val).link = (coreOf s c.val).link ∧
        (coreOf r c.val).regs = (coreOf s c.val).regs ∧ (coreOf r c.val).dram = (coreOf s c.val).dram ∧ SameButCores s r) ∧
      Completes s (.bruCall c a) (fun r => (coreOf r c.val).pc = a.toNat ∧ (coreOf r c.val).link = natWord ((coreOf s c.val).pc + 4) ∧
        (coreOf r c.val).regs = (coreOf s c.val).regs ∧ (coreOf r c.val).dram = (coreOf s c.val).dram ∧ SameButCores s r)) ∧
    ((coreOf s c.val).link.toNat % 2 = 0 → (coreOf s c.val).link.toNat < iramSize c.val →
      Completes s (.bruRet c) (fun r => (coreOf r c.val).pc = (coreOf s c.val).link.toNat ∧ (coreOf r c.val).link = (coreOf s c.val).link ∧
        (coreOf r c.val).regs = (coreOf s c.val).regs ∧ (coreOf r c.val).dram = (coreOf s c.val).dram ∧ SameButCores s r)) ∧
    ((coreOf s c.val).stores = [] →
      Completes s (.bruSync c) (fun r => (coreOf r c.val).pc = (coreOf s c.val).pc + 4 ∧ (coreOf r c.val).queue.2 = [] ∧
        (coreOf r c.val).regs = (coreOf s c.val).regs ∧ (coreOf r c.val).dram = (coreOf s c.val).dram ∧ SameButCores s r)) ∧
    (∀ (sh : Shadow) (rest : List Shadow), (coreOf s c.val).stack = sh :: rest → sh.pc % 2 = 0 → sh.pc < iramSize c.val →
      Completes s (.bruRetint c) (fun r => (coreOf r c.val).pc = sh.pc ∧ (coreOf r c.val).level = sh.level ∧ (coreOf r c.val).guards = sh.guards ∧
        (coreOf r c.val).stack = rest ∧ (coreOf r c.val).regs = (coreOf s c.val).regs ∧ (coreOf r c.val).dram = (coreOf s c.val).dram ∧ SameButCores s r))

/-- R305, R306: an interrupt entry saves the program counter, the guards and the level, takes the request's priority as the level, goes to its slot of the
vector table and lets the handler issue its first group. -/
def Sys2Proof.Claims.InterruptEntrySavesContext : Prop :=
  ∀ (s t : State) (c : Fin 10) (prio slot : Nat), coreIssues s c.val = true → (coreOf s c.val).held = none → (coreOf s c.val).immHi = none →
    (coreOf s c.val).stepReq = false → (coreOf s c.val).stack.length < 31 → entered s c.val = some (prio, slot, t) →
    Completes s (.intEntry c) (fun r => (coreOf r c.val).level = prio ∧ (coreOf r c.val).pc = vecBase c.val (coreOf s c.val) + 8 * slot ∧
      (coreOf r c.val).run = 1 ∧ (coreOf r c.val).fresh = true ∧
      (coreOf r c.val).stack = ⟨(coreOf s c.val).pc, (coreOf s c.val).guards, (coreOf s c.val).level, false⟩ :: (coreOf s c.val).stack ∧
      (coreOf r c.val).regs = (coreOf s c.val).regs ∧ r.mem = s.mem)

/-- R300, R303: a fault outside a fault handler records its code and port with the group's address, and a detail for BUS_ERROR alone, saves the program
counter there, the guards and the level, sets the level to 31 and goes to the slot of its code. -/
def Sys2Proof.Claims.FaultEntrySavesContext : Prop :=
  ∀ (s : State) (c : Fin 10) (code : Fin 6) (detail : Fin 5) (port : Fin 512), coreIssues s c.val = true → (coreOf s c.val).held = none →
    (coreOf s c.val).immHi = none → (coreOf s c.val).stepReq = false → (coreOf s c.val).stack.length < 31 → inFault (coreOf s c.val) = false →
    Completes s (.faultEntry c code detail port) (fun r =>
      (coreOf r c.val).fault = code.val + 1 + (if code.val + 1 = 5 then 256 * detail.val else 0) + 65536 * port.val ∧ (coreOf r c.val).fpc = (coreOf s c.val).pc ∧
      (coreOf r c.val).level = 31 ∧ (coreOf r c.val).pc = vecBase c.val (coreOf s c.val) + 8 * (code.val + 1) ∧
      (coreOf r c.val).stack = ⟨(coreOf s c.val).pc, (coreOf s c.val).guards, (coreOf s c.val).level, true⟩ :: (coreOf s c.val).stack ∧
      (coreOf r c.val).guards = (coreOf s c.val).guards ∧ (coreOf r c.val).regs = (coreOf s c.val).regs ∧ r.mem = s.mem)

/-- R275, R363: gpio.set, gpio.clr and gpio.tgl act on the driven values of the GPIO pins under the mask that the core owns at present, and on no other
pin. -/
def Sys2Proof.Claims.GpioActsOnOwnedPins : Prop :=
  ∀ (s : State) (c : Fin 10) (v : Word), CoreReady s c.val → c.val ≠ 9 →
    let owned := fun k => bits (muxNow s k) 0 3 == 0 && bits (muxNow s k) 3 4 == c.val && gpioMask v.toNat k
    let frame := fun r => (coreOf r c.val).pc = (coreOf s c.val).pc + 4 ∧ (coreOf r c.val).regs = (coreOf s c.val).regs ∧ r.mem = s.mem
    Completes s (.gpioSet c v) (fun r => frame r ∧ ∀ k, k < 48 → bitAt r.pins.out k = (owned k || bitAt s.pins.out k)) ∧
    Completes s (.gpioClr c v) (fun r => frame r ∧ ∀ k, k < 48 → bitAt r.pins.out k = (!(owned k) && bitAt s.pins.out k)) ∧
    Completes s (.gpioTgl c v) (fun r => frame r ∧ ∀ k, k < 48 → bitAt r.pins.out k = (owned k != bitAt s.pins.out k))

/-- R274, R276, R281, R317, R318: the immediate-high latch, ctl.wait, the decode table, the threshold and the completion of the entered source. -/
def Sys2Proof.Claims.ControlPorts : Prop :=
  ∀ (s : State) (c : Fin 10) (v : Word), CoreReady s c.val →
    Completes s (.immHi c v) (fun r => OneGroup s r c.val ∧ (coreOf r c.val).immHi = some (v.toNat % 2048, (coreOf s c.val).pc) ∧
      (coreOf r c.val).regs = (coreOf s c.val).regs) ∧
    Completes s (.ctlWait c) (fun r => OneGroup s r c.val ∧ (coreOf r c.val).run = 2 ∧ (coreOf r c.val).regs = (coreOf s c.val).regs) ∧
    ((coreOf s c.val).lock = false → Completes s (.ctlMcdata c v) (fun r => OneGroup s r c.val ∧
      stepWord (coreOf r c.val) ((coreOf s c.val).mcsel / 32) ((coreOf s c.val).mcsel % 32) = v.toNat % 2 ^ 29 ∧
      (coreOf r c.val).regs = (coreOf s c.val).regs)) ∧
    Completes s (.irqThr c v) (fun r => thrOf r c.val = v.toNat % 32 ∧ (coreOf r c.val).pc = (coreOf s c.val).pc + 4 ∧
      (coreOf r c.val).regs = (coreOf s c.val).regs ∧ r.mem = s.mem ∧ ∀ p, p ≠ c.val → thrOf r p = thrOf s p) ∧
    (∀ (t p : Nat) (rest : List (Nat × Nat)), stackOf s c.val = (t, p) :: rest → t = v.toNat % 1024 →
      Completes s (.irqComplete c v) (fun r => stackOf r c.val = rest ∧ (coreOf r c.val).pc = (coreOf s c.val).pc + 4 ∧
        (coreOf r c.val).regs = (coreOf s c.val).regs ∧ r.mem = s.mem))

namespace Sys2Proof.Claims

/-- What a general register or an immediate gives a move. -/
def plainSource (x : Core) : Src → Word
  | .value v => v
  | .port p => regOf x p

/-- A move between general registers, or of an immediate to one. -/
def PlainMove (m : RawMove) : Prop := 0 < m.dst ∧ m.dst < 32 ∧ m.ext = 0 ∧ ∀ p, m.src = .port p → p < 32

end Sys2Proof.Claims

/-- R258, R261, R262, R282: the moves of a group in instruction memory, from general registers and immediates to different general registers, write those
whose guards hold, all from the values before the group; a macro whose only step moves its argument to a general register writes it too. -/
def Sys2Proof.Claims.GroupsWriteRegisters : Prop :=
  ∀ (s : State) (c : Fin 10), CoreReady s c.val →
    (∀ (ms : List RawMove) (len : Nat), fetchGroup (coreOf s c.val) (coreOf s c.val).pc = (ms, len) → len ≤ 4 → (∀ m ∈ ms, PlainMove m) →
      (ms.map RawMove.dst).Nodup →
      Completes s (.moveGroup c) (fun r => SameButCores s r ∧ (∀ d, d ≠ c.val → coreOf r d = coreOf s d) ∧
        (coreOf r c.val).pc = (coreOf s c.val).pc + len ∧ (coreOf r c.val).cyc = (coreOf s c.val).cyc + 1 ∧
        (coreOf r c.val).guards = (coreOf s c.val).guards ∧ ∀ n, n < 32 → regOf (coreOf r c.val) n =
          ((ms.find? (fun m => m.dst == n && moveRuns (coreOf s c.val) m)).map (fun m => plainSource (coreOf s c.val) m.src)).getD (regOf (coreOf s c.val) n))) ∧
    (∀ (d : Nat) (k : Fin 16) (ext : Byte) (arg : Word), 0 < d → d < 32 → stepWord (coreOf s c.val) k.val 0 = 2 ^ 28 + 2 ^ 18 + d →
      Completes s (.macroStart c k ext arg) (fun r => OneGroup s r c.val ∧ ∀ n, n < 32 →
        regOf (coreOf r c.val) n = if n = d then arg else regOf (coreOf s c.val) n))

/-- R293, R23, R29: the oldest store of the buffer is accepted where its target has power; in shared SRAM or video memory it replaces its bytes and no
other; a load that waits for its data puts the bytes of shared SRAM, extended as its name states, in flight when they return.
It rests in part on choices of the model: logs 80 and 95. -/
def Obligations.SharedSramAccess : Prop :=
  (∀ (s : State) (c : Fin 10) (e : StoreEntry) (rest : List StoreEntry), coreOn s c.val = true → (coreOf s c.val).held = none →
    (coreOf s c.val).stores = e :: rest → storeTaken s e = true →
    Completes s (.storeDrain c) (fun r => (coreOf r c.val).stores = rest ∧
      (e.space = .sram → e.width = 1 ∨ e.width = 2 ∨ e.width = 4 → r.dict = s.dict ∧
        (∀ i, i < e.width → byteAt r.mem.sram ((e.addr + i) % sramSize) = BitVec.ofNat 8 (e.data / 256 ^ i)) ∧
        (∀ b, (∀ i, i < e.width → (e.addr + i) % sramSize ≠ b) → byteAt r.mem.sram b = byteAt s.mem.sram b) ∧
        r.mem.vsram = s.mem.vsram ∧ r.mem.ext = s.mem.ext) ∧
      (e.space = .vsram → e.width = 1 ∨ e.width = 2 ∨ e.width = 4 →
        (∀ i, i < e.width → byteAt r.mem.vsram ((e.addr + i) % vsramSize) = BitVec.ofNat 8 (e.data / 256 ^ i)) ∧
        (∀ b, (∀ i, i < e.width → (e.addr + i) % vsramSize ≠ b) → byteAt r.mem.vsram b = byteAt s.mem.vsram b) ∧
        r.mem.sram = s.mem.sram ∧ r.mem.ext = s.mem.ext))) ∧
  (∀ (s : State) (c : Fin 9) (n p width : Nat) (signed : Bool) (a : Word) (g : HeldGroup), coreIssues s c.val = true → domainOn s 8 = true →
    (coreOf s c.val).stepReq = false → (coreOf s c.val).stores = [] → (coreOf s c.val).held = some g → accessOf p = some (width, false, signed) →
    g.moves = [⟨p, 0, a, true⟩] → g.mac = none → g.predicted = none → g.masked = none → a.toNat % width = 0 → 0x10000000 ≤ a.toNat → a.toNat < 0x10400000 →
    Completes s (.loadDataReturn ⟨c.val, by omega⟩ n) (fun r => (coreOf r c.val).held = none ∧ (coreOf r c.val).pc = g.addr + g.len ∧ r.mem = s.mem ∧
      (⟨3, (coreOf r c.val).cyc, extendLoad width signed (ofBytes ((List.range width).map (fun i =>
        byteAt s.mem.sram (a.toNat - 0x10000000 + i)))), 0, 0⟩ : Flight) ∈ (coreOf r c.val).flight))
/-- R279, R280: the reading coprocessor triggers deliver the word they name to their result port: a signal's display and staging word, a plane entry, the
state of a DMA channel and of the blitter. The registers keep their values. -/
def Sys2Proof.Claims.CoprocessorReads : Prop :=
  ∀ (s : State) (c : Fin 10), CoreReady s c.val → (coreOf s c.val).stores = [] →
    let frame := fun r => OneGroup s r c.val ∧ (coreOf r c.val).regs = (coreOf s c.val).regs
    (∀ v : Word, c.val ≤ 8 → engineOn s 8 = true → s.ss.walk = none →
      Completes s (.ssRd c v) (fun r => frame r ∧ copOf (coreOf r c.val) 260 = natWord (dispOf s (v.toNat % 262144))) ∧
      Completes s (.ssRdst c v) (fun r => frame r ∧ copOf (coreOf r c.val) 260 = natWord (stagOf s (v.toNat % 262144) % 2 ^ 25))) ∧
    (∀ (sub : Byte) (n : Nat), c.val < 8 → n = (copOf (coreOf s c.val) 272).toNat % 8 → engineOn s (20 + n) = true →
      engineOffline s (20 + n) = false → 1 ≤ sub.toNat % 128 → sub.toNat % 128 ≤ 0x12 →
      Completes s (.plRd c sub) (fun r => frame r ∧
        ∀ d, dictRow? (0x2500 + 64 * n + (if 128 ≤ sub.toNat then 1 else 0)) (sub.toNat % 128) = some d →
          copOf (coreOf r c.val) 275 = natWord (extendType d.typ (regN s (planeKey n (if 128 ≤ sub.toNat then 1 else 0) (sub.toNat % 128)))))) ∧
    (∀ n : Fin 16, c.val ≤ 8 → engineOn s 5 = true →
      Completes s (.dmaSt c n) (fun r => frame r ∧ copOf (coreOf r c.val) 293 = regGet s (chKey n.val 7))) ∧
    (c.val < 8 → engineOn s 6 = true → Completes s (.bltSt c) (fun r => frame r ∧ copOf (coreOf r c.val) 307 = regGet s kBltStatus))

/-- R417: nq.st answers the state and status of the oldest local request of the core with a tag, and forgets a request that is done; without such a
request it answers 0. -/
def Sys2Proof.Claims.NetworkQueueStatus : Prop :=
  ∀ (s : State) (c : Fin 10) (tag : Word), CoreReady s c.val → (coreOf s c.val).stores = [] → c.val ≤ 8 → domainOn s 8 = true →
    let q := fun (r : LocalReq) => r.proc == c.val && r.tag == tag.toNat % 65536
    (∀ r0, s.net.reqs.find? q = some r0 →
      Completes s (.nqSt c tag) (fun r => copOf (coreOf r c.val) 338 = natWord (r0.state + 256 * r0.status) ∧
        r.net.reqs = (if r0.state = 3 then s.net.reqs.eraseP q else s.net.reqs) ∧ (coreOf r c.val).regs = (coreOf s c.val).regs ∧ r.mem = s.mem)) ∧
    (s.net.reqs.find? q = none →
      Completes s (.nqSt c tag) (fun r => copOf (coreOf r c.val) 338 = 0#32 ∧ r.net.reqs = s.net.reqs ∧ r.mem = s.mem))

/-- R53, R280: ss.upd writes the selected fields of a signal's staging word and sets its dirty bit, where the owner bits let a local writer and no field
holds a reserved value; with its extension the signal number of ss.ctl advances.
It rests in part on choices of the model: log 80. -/
def Obligations.SignalUpdateByCore : Prop :=
  ∀ (s : State) (c : Fin 10) (next : Bool) (v : Word) (n fields : Nat), CoreReady s c.val → (coreOf s c.val).stores = [] → c.val ≤ 8 →
    engineOn s 8 = true → n < 262080 → fields < 32 → (copOf (coreOf s c.val) 256).toNat = n + 2 ^ 24 * fields →
    attrOwner (attrOf s n) = 0 ∨ attrOwner (attrOf s n) = 3 → badQuality ⟨n, v.toNat, fields⟩ = false → badAlarm ⟨n, v.toNat, fields⟩ = false →
    Completes s (.ssUpd c next v) (fun r => stagOf r n = mergeUpdate (stagOf s n) ⟨n, v.toNat, fields⟩ ∧ dirtyOf r n = true ∧
      (∀ m, m ≠ n → stagOf r m = stagOf s m ∧ dirtyOf r m = dirtyOf s m) ∧ (∀ m, dispOf r m = dispOf s m ∧ attrOf r m = attrOf s m) ∧
      copOf (coreOf r c.val) 256 = natWord (if next then putBits (n + 2 ^ 24 * fields) 0 18 (n + 1) else n + 2 ^ 24 * fields) ∧
      (coreOf r c.val).regs = (coreOf s c.val).regs)

namespace Sys2Proof.Claims

/-- R280, R99, R181: pl.wr stores its value in the staged entry of the plane that pl.sel names which its extension selects, outside the window at once. -/
def PlaneWriteByCore : Prop :=
  ∀ (s : State) (c : Fin 9) (sub : Byte) (v : Word) (d : DictRow) (n : Nat), CoreReady s c.val → (coreOf s c.val).stores = [] → c.val < 8 →
    n = (copOf (coreOf s c.val) 272).toNat % 8 → engineOn s (20 + n) = true → StoreReaches s (.proc c) (0x2500 + 64 * n) sub.toNat v d → d.acc = .rw →
    1 ≤ sub.toNat → sub.toNat ≤ 18 → s.raster.inWindow = false → s.raster.held = [] →
    Completes s (.plWr ⟨c.val, by omega⟩ sub v) (fun r =>
      regN r (planeKey n 0 sub.toNat) =
        maskClear (regN s (planeKey n 0 sub.toNat)) (checkWrite s d (0x2500 + 64 * n) sub.toNat v.toNat).mask ||| v.toNat ∧
      KeepsEntries [planeKey n 0 sub.toNat] s r ∧ (coreOf r c.val).pc = (coreOf s c.val).pc + 4 ∧ (coreOf r c.val).regs = (coreOf s c.val).regs ∧
      r.raster = s.raster ∧ r.gfx = s.gfx ∧ r.mem = s.mem)

/-- R417: nq.req submits the request whose buffer its value names; the READ in it of a block of entries is answered, with its tag, by a reply that is owed
to the core, whose status is OK where every entry of the block can be read and none holds bytes. -/
def LocalRequestByCore : Prop :=
  ∀ (s : State) (c : Fin 9) (notify : Bool) (v : Word) (idx sub count tag : Nat), CoreReady s c.val → (coreOf s c.val).stores = [] → domainOn s 8 = true →
    openReqs s c.val < 8 → idx < 65536 → sub < 256 → count < 256 → tag < 65536 → isAppIdx idx = false → sramWord s (bufferAt v) % 65536 = 16 →
    readBytes sramSize s.mem.sram (bufferAt v + 8) 16 = [1#8, 1#8] ++ toBytes 4 0 ++ toBytes 2 tag ++ toBytes 4 0 ++ toBytes 2 idx ++
      [BitVec.ofNat 8 sub, BitVec.ofNat 8 count] →
    Completes s (.nqReq ⟨c.val, by omega⟩ notify v) (fun r =>
      r.net.reqs = s.net.reqs ++ [⟨c.val, tag, bufferAt v, sramWord s (bufferAt v) / 65536, notify, 2, 0⟩] ∧
      (∃ st, st < 13 ∧
        r.net.replies.map (fun m => (m.path, m.tag, m.status)) = s.net.replies.map (fun m => (m.path, m.tag, m.status)) ++ [(.proc c, tag, st)] ∧
        (0 < count → count ≤ 64 → (∀ k, sub ≤ k → k < sub + count → readStatus s idx k = 0 ∧ blobEntry idx k = false) → st = 0)) ∧
      (coreOf r c.val).pc = (coreOf s c.val).pc + 4 ∧ (coreOf r c.val).regs = (coreOf s c.val).regs ∧ r.mem = s.mem)

/-- R281, R284: a write of CORE_MC_DATA to a core that neither runs nor waits and whose table is open replaces the selected step of its decode table, and
no other; a step that would fault marks the entry with its number. -/
def DecodeTableWrite : Prop :=
  ∀ (s : State) (w : Writer) (c : Fin 9) (v : Word) (d : DictRow), StoreReaches s w (if c.val = 8 then 0x203F else 0x273F + 64 * c.val) 3 v d → d.acc = .rw →
    (coreOf s c.val).lock = false → (coreOf s c.val).run ≠ 1 → (coreOf s c.val).run ≠ 2 →
    Completes s (.coreMcData w c v) (fun r =>
      (∀ j, mapGet (fun _ => 0x10000000#32) (coreOf r c.val).mc j = if j = fld s (coreKey c.val 2) 0 9 then natWord (v.toNat % 2 ^ 29)
        else mapGet (fun _ => 0x10000000#32) (coreOf s c.val).mc j) ∧
      (∀ k, k ≠ c.val → coreOf r k = coreOf s k) ∧ (coreOf r c.val).regs = (coreOf s c.val).regs ∧
      (stepBad c.val v.toNat = true → fld r (coreKey c.val 4) 1 10 = 1 + 2 * fld s (coreKey c.val 2) 0 9) ∧
      KeepsEntries [coreKey c.val 4] s r ∧ SameBut [.cores, .reports] s r)

end Sys2Proof.Claims
/-! ### The signal store -/

/-- R53, R48, R60: a local store to the staging view writes all five fields of the signal's staging word, and a local write of an attribute byte
replaces it; both leave every other signal as it was. -/
def Sys2Proof.Claims.LocalSignalStores : Prop :=
  ∀ (s : State) (p : Fin 9) (n : Fin 262144), engineOn s 8 = true → n.val < 262080 →
    (∀ w : Word, attrOwner (attrOf s n.val) = 0 ∨ attrOwner (attrOf s n.val) = 3 → sigQuality w.toNat ≤ 5 → sigAlarm w.toNat ≤ 7 →
      Completes s (.stagingStore p n w) (fun r => stagOf r n.val = w.toNat % 2 ^ 25 ∧ dirtyOf r n.val = true ∧
        (∀ m, m ≠ n.val → stagOf r m = stagOf s m ∧ dirtyOf r m = dirtyOf s m) ∧ (∀ m, dispOf r m = dispOf s m ∧ attrOf r m = attrOf s m) ∧
        r.mem = s.mem)) ∧
    (∀ b : Byte, Completes s (.attrWrite p n b) (fun r => attrOf r n.val = b.toNat ∧ (∀ m, m ≠ n.val → attrOf r m = attrOf s m) ∧
      (∀ m, stagOf r m = stagOf s m ∧ dispOf r m = dispOf s m ∧ dirtyOf r m = dirtyOf s m) ∧ r.mem = s.mem))

/-- R57: a write that the owner bits refuse changes no signal; it is counted and recorded. -/
def Sys2Proof.Claims.OwnerRefusalDiscards : Prop :=
  ∀ (s : State) (p : Fin 9) (n : Fin 262144) (w : Word), engineOn s 8 = true → n.val < 262080 →
    attrOwner (attrOf s n.val) = 1 ∨ attrOwner (attrOf s n.val) = 2 → sigQuality w.toNat ≤ 5 → sigAlarm w.toNat ≤ 7 →
    Completes s (.stagingStore p n w) (fun r => r.ss = s.ss ∧
      regGet r (entryKey 0x2200 0x14) = regGet s (entryKey 0x2200 0x14) + 1#32 ∧
      regGet r (entryKey 0x2200 0x0B) = natWord (n.val + p.val * 2 ^ 18 + 2 ^ 31) ∧ r.mem = s.mem)

namespace Sys2Proof.Claims

/-- The updates that reach staging in one engine clock: the heads of the chosen queues and the rivals. -/
def contenders (s : State) (fromNet fromSpi : Bool) (rivals : List LocalUpdate) : List Contender :=
  (if fromNet then headOf s.ss.netQ else []) ++ (if fromSpi then headOf s.ss.spiQ else []) ++ (cleanRivals s rivals).2

/-- A record of a signal frame without reserved content. -/
def CleanRecord (r : UpdateRec) : Prop := controlReserved r = false ∧ badQuality (decodeUpdate r) = false ∧ badAlarm (decodeUpdate r) = false

end Sys2Proof.Claims

/-- R55 to R58, R410: the records of a signal frame over the network or from the SPI host enter their path's queue in message order and write no signal, and a
record of a core's own frame is written at once; of the updates that reach staging in one clock, the heads of the chosen queues and the rivals of that
clock, one that its owner bits let write and that no accepted one of higher precedence rivals is written, and no other signal changes; a pending
SS_CLEAR stands until the next commit instant (R68).
It rests in part on choices of the model: log 57. -/
def Obligations.SignalFramesQueueAndStage : Prop :=
  (∀ (s : State) (h : CopHdr) (recs : List UpdateRec), engineOn s 8 = true → isLocal h.path = false → recs ≠ [] → (∀ rec ∈ recs, CleanRecord rec) →
    (if h.path = .spi then s.ss.spiQ.length + recs.length ≤ 64 else s.ss.netQ.length + recs.length ≤ 4096) →
    (∀ f ∈ s.ss.replies, f.left ≠ 0) → Completes s (.signalFrame h recs) (fun r =>
      let q := recs.zipIdx.map (fun e => (⟨decodeUpdate e.1, writerCode (.cop h.path), s.ss.nextFrame, e.2⟩ : Queued))
      r.ss.spiQ = (if h.path = .spi then s.ss.spiQ ++ q else s.ss.spiQ) ∧ r.ss.netQ = (if h.path = .spi then s.ss.netQ else s.ss.netQ ++ q) ∧
      r.ss.stag = s.ss.stag ∧ r.ss.disp = s.ss.disp ∧ r.ss.dirty = s.ss.dirty ∧ r.ss.attr = s.ss.attr ∧ r.mem = s.mem)) ∧
  (∀ (s : State) (h : CopHdr) (p : Fin 9) (rec : UpdateRec), engineOn s 8 = true → h.path = .proc p → CleanRecord rec →
    ownerOk s (decodeUpdate rec).signal p.val = true → Completes s (.signalFrame h [rec]) (fun r =>
      stagOf r (decodeUpdate rec).signal = mergeUpdate (stagOf s (decodeUpdate rec).signal) (decodeUpdate rec) ∧ dirtyOf r (decodeUpdate rec).signal = true ∧
      (∀ m, m ≠ (decodeUpdate rec).signal → stagOf r m = stagOf s m ∧ dirtyOf r m = dirtyOf s m) ∧ r.ss.disp = s.ss.disp ∧ r.mem = s.mem)) ∧
  (∀ (s : State) (fromNet fromSpi : Bool) (rivals : List LocalUpdate), engineOn s 8 = true → Completes s (.stageUpdate fromNet fromSpi rivals) (fun r =>
    let cs := contenders s fromNet fromSpi rivals
    r.ss.netQ = (if fromNet then s.ss.netQ.drop 1 else s.ss.netQ) ∧ r.ss.spiQ = (if fromSpi then s.ss.spiQ.drop 1 else s.ss.spiQ) ∧
    (∀ c ∈ cs, ownerOk s c.upd.signal c.code = true →
      (∀ d ∈ cs, d ≠ c → d.upd.signal = c.upd.signal → ownerOk s d.upd.signal d.code = true → precedence d.code < precedence c.code) →
      stagOf r c.upd.signal = mergeUpdate (stagOf s c.upd.signal) c.upd ∧ dirtyOf r c.upd.signal = true) ∧
    (∀ m, (∀ c ∈ cs, c.upd.signal = m → ownerOk s m c.code = false) → stagOf r m = stagOf s m ∧ dirtyOf r m = dirtyOf s m) ∧
    (∀ m, dispOf r m = dispOf s m ∧ attrOf r m = attrOf s m) ∧ r.mem = s.mem)) ∧
  (∀ (s : State) (w : Writer) (v : Word), (∃ r, StoreReaches s w 0x2200 4 v r ∧ r.acc = .wo) →
    Completes s (.ssClear w v) (fun r => r.ss.clearReq = s.ss.clearReq ||| v.toNat % 4 ∧ r.ss.stag = s.ss.stag ∧ r.ss.disp = s.ss.disp))

/-- R52, R53: the fields of an update word that the control word selects replace those of the staging word, and the others keep their values. -/
def Sys2Proof.Claims.UpdateMergesSelectedFields : Prop :=
  ∀ (old : Nat) (u : Update),
    sigValue (mergeUpdate old u) = sigValue (if bitAt u.fields 0 then u.word else old) ∧
    sigQuality (mergeUpdate old u) = sigQuality (if bitAt u.fields 1 then u.word else old) ∧
    sigAlarm (mergeUpdate old u) = sigAlarm (if bitAt u.fields 2 then u.word else old) ∧
    sigUnack (mergeUpdate old u) = sigUnack (if bitAt u.fields 3 then u.word else old) ∧
    sigShelved (mergeUpdate old u) = sigShelved (if bitAt u.fields 4 then u.word else old) ∧ sigAge (mergeUpdate old u) = 0

/-! ### The dictionary and COP -/

namespace Sys2Proof.Claims

/-- An rw entry whose write does nothing but replace its bits: neither a decode table, a staged entry, a routing entry, a timer, a pin or pattern entry,
nor one that starts something. -/
def PlainEntry (idx sub : Nat) : Prop :=
  coreOfIdx idx = none ∧ isStaged (entryKey idx sub) = false ∧ ¬ (0x2084 ≤ idx ∧ idx < 0x2088) ∧ ¬ (0x20D0 ≤ idx ∧ idx < 0x20F8) ∧
  ¬ (0x2100 ≤ idx ∧ idx ≤ 0x2103) ∧ ¬ (idx = 0x22C8 ∧ sub = 3) ∧ ¬ (idx = 0x2340 ∧ sub = 3) ∧ ¬ (idx = 0x2384 ∧ sub = 2) ∧ idx ≠ 0x2415

end Sys2Proof.Claims

/-- R420, R409: a write that reaches a plain rw entry replaces the bits it may write and no other entry; one of a flag entry clears the flags whose bits are 1; a
store to a read-only entry changes nothing but its counter; the writes of one clock to different entries take effect as each does alone. -/
def Sys2Proof.Claims.DictionaryStores : Prop :=
  (∀ (s : State) (w : Writer) (idx sub : Nat) (v : Word) (d : DictRow), StoreReaches s w idx sub v d → sub < 256 → d.acc = .rw → PlainEntry idx sub →
    Completes s (.dictWrite [⟨w, idx, sub, v⟩]) (fun r =>
      regN r (entryKey idx sub) = (maskClear (regN s (entryKey idx sub)) (checkWrite s d idx sub v.toNat).mask ||| v.toNat) % 2 ^ 32 ∧
      KeepsEntries [entryKey idx sub] s r ∧ SameBut [.reports, .power] s r ∧ r.ic = s.ic)) ∧
  (∀ (s : State) (w : Writer) (idx sub : Nat) (v : Word) (d : DictRow), StoreReaches s w idx sub v d → sub < 256 → d.acc = .w1c → idx ≠ 0x2088 →
    Completes s (.dictWrite [⟨w, idx, sub, v⟩]) (fun r => regN r (entryKey idx sub) = maskClear (regN s (entryKey idx sub)) v.toNat ∧
      KeepsEntries [entryKey idx sub] s r ∧ SameBut [.reports] s r)) ∧
  (∀ (s : State) (p : Fin 9) (idx sub : Nat) (v : Word) (d : DictRow), localReaches s idx sub = some d → d.acc = .ro →
    Completes s (.dictWrite [⟨.proc p, idx, sub, v⟩]) (fun r =>
      regGet r (entryKey 0x1200 0x10) = regGet s (entryKey 0x1200 0x10) + 1#32 ∧
      (∀ k, k ≠ entryKey 0x1200 0x10 → regGet r k = regGet s k) ∧ r.mem = s.mem ∧ r.ic = s.ic)) ∧
  (∀ (s : State) (ws : List DictReq), ws.Pairwise (fun a b => ¬ (a.idx = b.idx ∧ a.sub = b.sub)) →
    Completes s (.dictWrite ws) (fun r => r = ws.foldl (fun t q => dictPut t q.writer q.idx q.sub q.value) s))

/-- R409: of two writes of one entry in one clock that pass their checks, the one of the path with the higher precedence, the SPI host over the network over
local writers, takes effect and the other is counted. -/
def Sys2Proof.Claims.RivalWritesOfOneClock : Prop :=
  ∀ (s : State) (a b : DictReq), a.idx = b.idx → a.sub = b.sub → pathRank a.writer < pathRank b.writer → writePasses s a = true → writePasses s b = true →
    ∃ t, t = dictPut s b.writer b.idx b.sub b.value ∧ ∀ ws, ws = [a, b] ∨ ws = [b, a] →
    Completes s (.dictWrite ws) (fun r =>
      regGet r (entryKey 0x1200 0x12) = regGet t (entryKey 0x1200 0x12) + 1#32 ∧
      (∀ k, k ≠ entryKey 0x1200 0x12 → k ≠ entryKey 0x1200 3 → k ≠ kMerged → regGet r k = regGet t k) ∧ r.mem = t.mem ∧ r.cores = t.cores)

/-- R13, R408: a READ of one readable word owes the reply with its value, and a WRITE whose one value passes every check owes the reply OK and leaves what the
write does; the first read of an index of a snapshot holds the values of that moment.
It rests in part on choices of the model: log 91. -/
def Obligations.CopReadWriteReply : Prop :=
  (∀ (s : State) (h : CopHdr) (idx sub : Nat) (d : DictRow), h.replyReq = true → isAppIdx idx = false → dictRow? idx sub = some d →
    isBytes d.typ = false → d.acc ≠ .rs → (rsSubs idx).contains sub = false → readStatus (copReceived s h) idx sub = 0 →
    Completes s (.copRead h idx sub 1) (fun r =>
      let e := entryRead (copReceived s h) (msgRequester h) d idx sub
      r.net.replies = e.2.net.replies ++ [⟨h.path, 0, h.src, 1, true, h.tag, h.key, 0, 0, [0#8, 0#8, 0#8, 0#8] ++ valueBytes d.typ e.1⟩] ∧
      r.mem = e.2.mem ∧ r.dict = e.2.dict)) ∧
  (∀ (s t : State) (h : CopHdr) (idx sub : Nat) (v : CopValue), h.replyReq = true → isAppIdx idx = false →
    copEntry (copReceived s h) (.cop h.path) (some h) idx sub v = (t, 0) →
    Completes s (.copWrite h idx sub [v]) (fun r =>
      (let delayed := beyondHeld t idx sub 1
       r.net.replies = t.net.replies ++ (if delayed then [] else [⟨h.path, 0, h.src, 2, true, h.tag, h.key, 0, 0, [0#8, 0#8, 0#8, 0#8]⟩]) ∧
       r.net.stagedOwed = t.net.stagedOwed ++ (if delayed then [h] else [])) ∧ r.mem = t.mem ∧ r.dict = t.dict)) ∧
  (∀ (s : State) (who : Requester) (idx sub : Nat) (d : DictRow), dictRow? idx sub = some d → d.acc = .rs → reachStatus s idx sub false = 0 →
    s.snaps = [] → (rsSubs idx).getLast? ≠ some sub →
    Completes s (.rsRead who idx sub) (fun r => r.snaps = [⟨requesterCode who, idx, capture s idx, [sub]⟩] ∧ r.dict = s.dict ∧ r.mem = s.mem))

/-! ### The interrupt controller -/

namespace Sys2Proof.Claims

/-- What an assertion makes of an edge source (R313). -/
def edgeMoves : SrcState → SrcState
  | .idle => .pending
  | .pending => .pending
  | .inService => .inServiceEdge
  | .inServiceEdge => .inServiceEdge

/-- What its signal makes of a level source: pending while it is 1 and idle when it falls, unless the source is in service (R313). -/
def levelMoves (signal : Bool) : SrcState → SrcState
  | .idle => if signal then .pending else .idle
  | .pending => if signal then .pending else .idle
  | x => x

/-- A routing write that masks: it disables the source or moves it to another processor (R312). -/
def Masks (old new : Nat) : Prop := (routePrio old ≠ 0 ∧ routePrio new = 0) ∨ routeProc new ≠ routeProc old

/-- What a write makes of a routing entry: TRIG of a doorbell stays edge (R310). -/
def routeNew (s : State) (d : DictRow) (src v : Nat) : Nat :=
  let x := maskClear (regN s (routeKey src)) (checkWrite s d (0x2084 + src / 256) (src % 256) v).mask ||| v
  if 768 ≤ src then putBits x 24 1 1 else x

end Sys2Proof.Claims

/-- R310, R313: what a source presents moves its state: the pulse of an event makes an edge source pending or held, and is noted; a flag source with level
routing follows its flag; a source that never asserts stays as it is. No other source and no nesting stack changes. -/
def Sys2Proof.Claims.SourceAssertionMoves : Prop :=
  ∀ (s : State) (src : Fin 1024), sourceLive s src.val = true → domainOn s 8 = true →
    Completes s (.sourceAssert src) (fun r =>
      srcState r src.val = (match sourceKind s src.val, routeEdge (regN s (routeKey src.val)) with
        | .event, true => edgeMoves (srcState s src.val)
        | .flag, false => levelMoves (flagSignal s src.val) (srcState s src.val)
        | .event, false => if srcState s src.val = .idle ∧ flagSignal s src.val = true then .pending else srcState s src.val
        | _, _ => srcState s src.val) ∧
      (∀ k, k ≠ src.val → srcState r k = srcState s k) ∧ r.ic.nests = s.ic.nests ∧ (sourceKind s src.val = .event → src.val ∈ r.raised) ∧
      (sourceKind s src.val = .never → r = s) ∧ r.mem = s.mem)

/-- R310, R311, R312, R313, R320: a doorbell is one assertion of its source; a routing write takes effect, the level of its source followed, unless it masks
the source and its processor synchronises masks: then it waits until it is accepted; a processor's write to IC_PENDING clears a pending edge. -/
def Sys2Proof.Claims.DoorbellRoutingPending : Prop :=
  (∀ (s : State) (n : Fin 256), sourceLive s (768 + n.val) = true → domainOn s 8 = true → routeEdge (regN s (routeKey (768 + n.val))) = true →
    Completes s (.doorbellRing n) (fun r => srcState r (768 + n.val) = edgeMoves (srcState s (768 + n.val)) ∧
      (∀ k, k ≠ 768 + n.val → srcState r k = srcState s k) ∧ 768 + n.val ∈ r.raised ∧ r.mem = s.mem)) ∧
  (∀ (s : State) (w : Writer) (src : Fin 1024) (v : Word) (d : DictRow), StoreReaches s w (0x2084 + src.val / 256) (src.val % 256) v d → d.acc = .rw →
    enginePresent s.variant (sourceEngine src.val) = true →
    let old := regN s (routeKey src.val)
    let new := routeNew s d src.val v.toNat
    let waits := Masks old new ∧ maskSync s (routeProc old) = true
    Completes s (.icRoute w src v) (fun r =>
      (waits → regN r (routeKey src.val) = old ∧ r.ic.waiting = s.ic.waiting ++ [⟨src.val, routeProc old, new⟩] ∧ r.ic.src = s.ic.src) ∧
      (¬ waits → regN r (routeKey src.val) = new % 2 ^ 32 ∧ r.ic.waiting = s.ic.waiting ∧ (routeEdge new = false → sourceLive s src.val = true →
        srcState r src.val = levelMoves (flagSignal r src.val) (srcState s src.val))) ∧
      (∀ k, k ≠ src.val → srcState r k = srcState s k) ∧ r.ic.nests = s.ic.nests ∧ r.mem = s.mem)) ∧
  (∀ (s : State) (w : MaskWait) (rest : List MaskWait), s.ic.waiting = w :: rest →
    Completes s .maskWriteAccept (fun r => r.ic.waiting = rest ∧ regN r (routeKey w.source) = w.value % 2 ^ 32 ∧ r.ic.nests = s.ic.nests ∧
      (∀ k, k ≠ w.source → srcState r k = srcState s k) ∧ r.mem = s.mem)) ∧
  (∀ (s : State) (w : Writer) (word : Fin 32) (b : Fin 32), (∃ r, StoreReaches s w 0x2088 word.val (natWord (2 ^ b.val)) r ∧ r.acc = .w1c) →
    sourceRouted (32 * word.val + b.val) = true → routeEdge (regN s (routeKey (32 * word.val + b.val))) = true →
    Completes s (.icPending w word (natWord (2 ^ b.val))) (fun r =>
      srcState r (32 * word.val + b.val) = (match srcState s (32 * word.val + b.val) with
        | .inService => .inService
        | .inServiceEdge => .inService
        | _ => .idle) ∧
      (∀ k, k ≠ 32 * word.val + b.val → srcState r k = srcState s k) ∧ r.ic.nests = s.ic.nests ∧ r.mem = s.mem))

/-- R314: the source presented to a processor is deliverable to it and has the highest priority of those that are, the lowest number among equals; none is
presented exactly when none is deliverable. -/
def Obligations.PresentedSourceIsBest : Prop :=
  ∀ (s : State) (p : Nat), domainOn s 8 = true → engineOffline s 2 = false → (stackOf s p).length < 31 → keysRise s.ic.src = true →
    (∀ src, icPresented s p = some src → deliverable s p src = true ∧
      ∀ k, deliverable s p k = true → k ∈ s.ic.src.map Prod.fst →
        routePrio (regN s (routeKey k)) < routePrio (regN s (routeKey src)) ∨
        (routePrio (regN s (routeKey k)) = routePrio (regN s (routeKey src)) ∧ src ≤ k)) ∧
    (icPresented s p = none → ∀ k, deliverable s p k = false)

/-! ### Commits and the raster -/

/-- R181, R182: at the deadline the window opens and source 181 asserts; inside it a staged write is held and its entry keeps its value, which makes an
every-frame commit late; outside it the write takes effect; held writes take effect once the window has closed. -/
def Sys2Proof.Claims.CommitWindowHoldsWrites : Prop :=
  (∀ s : State, engineOn s 11 = true → s.raster.running = true → s.raster.inWindow = false → s.raster.held = [] →
    Completes s .deadline (fun r => r.raster = { s.raster with inWindow := true } ∧ Asserted s 181 r ∧ SameBut [.raster, .reports] s r ∧
      KeepsEntries [kMerged] s r)) ∧
  (∀ (s : State) (w : Writer) (idx sub : Nat) (v : Word) (d : DictRow), StoreReaches s w idx sub v d → d.acc = .rw → sub < 256 →
    isStaged (entryKey idx sub) = true → isArm (entryKey idx sub) = false →
    (s.raster.inWindow = true → Completes s (.stagedWrite w idx sub v) (fun r =>
      r.raster.held = s.raster.held ++ [⟨entryKey idx sub, (checkWrite s d idx sub v.toNat).mask, v.toNat, none⟩] ∧
      (bitAt s.raster.ctrl 0 = true → r.raster = { s.raster with held := r.raster.held } ∧ SameBut [.raster, .power] s r) ∧
      (bitAt s.raster.ctrl 0 = false → s.raster.lateMarked = false → r.raster = { s.raster with held := r.raster.held, lateMarked := true } ∧
        flag r kRasterFlags 0 = true ∧ regGet r (entryKey 0x22C9 9) = regGet s (entryKey 0x22C9 9) + 1#32) ∧
      KeepsEntries [kRasterFlags, entryKey 0x22C9 9, kMerged] s r)) ∧
    (s.raster.inWindow = false → s.raster.held = [] → Completes s (.stagedWrite w idx sub v) (fun r =>
      regN r (entryKey idx sub) = (maskClear (regN s (entryKey idx sub)) (checkWrite s d idx sub v.toNat).mask ||| v.toNat) % 2 ^ 32 ∧
      KeepsEntries [entryKey idx sub] s r ∧ r.raster = s.raster ∧ r.gfx = s.gfx ∧ r.mem = s.mem))) ∧
  (∀ s : State, s.raster.inWindow = false → (∀ h ∈ s.raster.held, isArm h.key = false) → (s.raster.held.map HeldWrite.key).Nodup →
    Completes s .heldWriteApply (fun r => r.raster = { s.raster with held := [] } ∧
      (∀ h ∈ s.raster.held, regN r h.key = (maskClear (regN s h.key) h.mask ||| h.value) % 2 ^ 32) ∧
      KeepsEntries (s.raster.held.map HeldWrite.key) s r ∧ SameBut [.raster, .reports] s r))

/-- R180, R182, R183: a request outside the window waits for the next commit instant; inside the window of an on-request commit it comes too late for it, is kept
for the one after and marks the commit late; the mode of commits is taken at a commit instant, so that a write of RASTER_CTRL changes its entry alone. -/
def Sys2Proof.Claims.CommitRequests : Prop :=
  (∀ (s : State) (w : Writer) (v : Word) (d : DictRow), StoreReaches s w 0x22C8 2 v d → v.toNat % 2 = 1 →
    ((s.raster.inWindow && bitAt s.raster.ctrl 0) = false → Completes s (.rasterCommitReq w v) (fun r =>
      r.raster = { s.raster with commitPending := true } ∧ SameBut [.raster] s r)) ∧
    (s.raster.inWindow = true → s.raster.ctrl % 2 = 1 → s.raster.lateMarked = false →
      Completes s (.rasterCommitReq w v) (fun r =>
        r.raster = { s.raster with lateReq := true, lateMarked := true } ∧ flag r kRasterFlags 0 = true ∧
        regGet r (entryKey 0x22C9 9) = regGet s (entryKey 0x22C9 9) + 1#32 ∧ SameBut [.raster, .reports] s r ∧
        KeepsEntries [kRasterFlags, entryKey 0x22C9 9, kMerged] s r))) ∧
  (∀ (s : State) (w : Writer) (v : Word) (d : DictRow), StoreReaches s w 0x22C8 1 v d → d.acc = .rw →
    Completes s (.rasterCtrl w v) (fun r =>
      regN r (entryKey 0x22C8 1) = maskClear (regN s (entryKey 0x22C8 1)) (checkWrite s d 0x22C8 1 v.toNat).mask ||| v.toNat ∧
      KeepsEntries [entryKey 0x22C8 1] s r ∧ SameBut [.reports, .power] s r))

namespace Sys2Proof.Claims

/-- A commit instant that is commanded takes place now: the raster need not stop before it, and no lock error holds it for a later S_n (R184, R188). -/
def CommitsNow (s : State) : Prop :=
  (stopDue s && stopTime s) = false ∧ (∀ n, (lockAdopt s).raster.holding = some n → frameStart s n ≤ s.tb.ns) ∧
  ((lockAdopt s).raster.holding = none → lockHold (lockAdopt s) = none)

/-- The number of a frame: that of the nearest S_n under a synchronised lock, else one on from the last (R171, R187). -/
def numberOf (s : State) : Nat := if followsTime (lockAdopt s) then (nearestFrame s).1 % 2 ^ 64 else nextNumber s

end Sys2Proof.Claims

/-- R171, R179, R180, R67: a commit instant numbers its frame, closes the window, takes the time, asserts source 180 and pulses GP08; a lock error above a line
holds the raster first; an idle commit numbers on at a multiple of the idle period while the raster is stopped; the walk ends with its frame's
number and source 128. -/
def Sys2Proof.Claims.CommitInstants : Prop :=
  (∀ s : State, engineOn s 11 = true → s.raster.running = true → s.raster.inWindow = true ∨ s.raster.held = [] →
    (CommitsNow s → Completes s .commitInstant (fun r => r.raster.lastFrame = some (numberOf s) ∧ r.raster.commitTime = s.tb.ns ∧
      r.raster.inWindow = false ∧ r.raster.lateMarked = false ∧ r.raster.running = true ∧ r.raster.holding = none ∧
      r.raster.ctrl = regN s (entryKey 0x22C8 1) ∧ Asserted s 180 r ∧ r.raster.lateReq = false ∧
      (isApplied s = false → r.raster.commitPending = s.raster.lateReq) ∧
      (isApplied s = true → r.raster.commitPending = s.raster.lateReq ∧ Asserted s 183 r) ∧
      (s.raster.lastFrame ≠ some (numberOf s) → bitAt r.pins.func 8 = true ∧ r.pins.frameUntil = s.tb.ns + 1000))) ∧
    (∀ n, (stopDue s && stopTime s) = false → (lockAdopt s).raster.holding = none → lockHold (lockAdopt s) = some n →
      Completes s .commitInstant (fun r => r.raster = { (lockAdopt s).raster with lock := .acquiring, goodFrames := 0, holding := some n } ∧
        flag r kRasterFlags 4 = true ∧ SameBut [.raster, .reports] s r)) ∧
    (∀ n, (stopDue s && stopTime s) = false → (lockAdopt s).raster.holding = some n → s.tb.ns < frameStart s n →
      Completes s .commitInstant (fun r => r = { s with raster := (lockAdopt s).raster })) ∧
    (stopDue s = true → stopTime s = true → exec .commitInstant s = exec .rasterStop s)) ∧
  (∀ s : State, engineOn s 8 = true → s.raster.running = false → flag s (entryKey 0x2200 1) 1 = true → s.pwr.training ≠ 1 →
    (s.raster.started = true → ∀ m, s.raster.change ≠ some ⟨m, .stopped⟩) →
    s.raster.idleFrom ≤ s.tb.ns / regN s (entryKey 0x2200 6) * regN s (entryKey 0x2200 6) →
    Completes s .idleCommit (fun r =>
      r.raster = { s.raster with lastFrame := some (nextNumber s), commitTime := s.tb.ns, idleFrom := s.tb.ns + 1 } ∧
      r.ss.walk.map Walk.frame = some (nextNumber s) ∧ r.ss.clearReq = 0 ∧ r.gfx = s.gfx ∧ r.mem.vsram = s.mem.vsram)) ∧
  (∀ (s : State) (w : Walk), s.ss.walk = some w →
    Completes s .commitDone (fun r => r.ss.walk = none ∧ Asserted s 128 r ∧ regN r (entryKey 0x2200 8) = w.frame % 2 ^ 32 ∧ r.raster = s.raster ∧
      (w.clearSig = false → r.ss.stag = s.ss.stag) ∧ (w.clearAttr = false → r.ss.attr = s.ss.attr) ∧ r.mem = s.mem))

/-- R62, R68: the walk of an applied commit gives every dirty signal it has not held its staging word with age 0, and leaves it clean; the walk of a clear
returns every word that it still has to visit to its reset value, and every attribute byte but those of the mirror signals. -/
def Sys2Proof.Claims.WalkCopiesDirtySignals : Prop :=
  ∀ (s : State) (w : Walk) (n : Nat), s.ss.walk = some w → w.group ≤ n / 8 → n / 8 < walkGroupsAll →
    (w.held = false → w.clearSig = false → w.clearAttr = false → keysRise s.ss.dirty = true → keysRise s.ss.attr = true → dirtyOf s n = true →
      Completes s .commitDone (fun r => dispOf r n = stagOf s n % 2 ^ 25 ∧ dirtyOf r n = false ∧ stagOf r n = stagOf s n)) ∧
    Completes s .commitDone (fun r =>
      (w.clearSig = true → stagOf r n = sigReset n ∧ dispOf r n = sigReset n ∧ dirtyOf r n = false) ∧
      (w.clearAttr = true → isMirror n = false → attrOf r n = attrReset n) ∧ (isMirror n = true → attrOf r n = attrOf s n))

/-- R74: an applied commit gives every current entry its staged value, and any other gives it the value of the last applied commit. -/
def Sys2Proof.Claims.CurrentEntriesOfACommit : Prop :=
  ∀ (s : State) (p : Nat × Nat), p ∈ stagedPairs →
    regGet (commitEntries s true) p.2 = regGet s p.1 ∧ regGet (commitEntries s true) p.1 = regGet s p.1 ∧
    regGet (commitEntries s false) p.2 = mapGet dictReset s.gfx.committed p.2 ∧ regGet (commitEntries s false) p.1 = regGet s p.1 ∧
    mapGet dictReset (commitEntries s true).gfx.committed p.2 = regGet s p.1

namespace Sys2Proof.Claims

/-- Where a mode request goes (R184): a raster that has not started waits with it for MODE_DONE; one that runs for its commit instants; a change under way
finishes first. -/
def modeTaken (x : Raster) (m : Nat) : Raster :=
  if x.started then (match x.change with
    | none => { x with change := some ⟨m, .waiting⟩ }
    | some ⟨_, .waiting⟩ => { x with change := some ⟨m, .waiting⟩ }
    | some _ => { x with queued := some m })
  else if x.change.isSome then { x with queued := some m } else { x with change := some ⟨m, .stopped⟩ }

end Sys2Proof.Claims

/-- R184, R185: a mode request waits for its commit instants; the raster stops once they have passed and RASTER_MODE_AT is near; when the heads are ready and that
time has come it starts in the new mode with a commit instant and source 186.
It rests in part on choices of the model: log 26. -/
def Obligations.ModeChange : Prop :=
  (∀ (s : State) (w : Writer) (v : Word) (d : DictRow), StoreReaches s w 0x22C8 3 v d → d.acc = .rw → engineOn s 11 = true → bitAt v.toNat 31 = true →
    Completes s (.rasterModeReq w v) (fun r => ∃ m, m = (maskClear (regN s (entryKey 0x22C8 3)) (checkWrite s d 0x22C8 3 v.toNat).mask ||| v.toNat) % 2 ^ 31 ∧
      r.raster = modeTaken s.raster m ∧ regN r (entryKey 0x22C8 3) = m ∧ KeepsEntries [entryKey 0x22C8 3] s r)) ∧
  (∀ (s : State) (m n : Nat), s.raster.running = true → s.raster.change = some ⟨m, .blanking n⟩ → 2 ≤ n →
    (modeAt s - s.tb.ns) * frameNsDen (compMode s) ≤ frameNsNum (compMode s) → s.raster.held = [] →
    Completes s .rasterStop (fun r => r.raster = { s.raster with
      running := false, inWindow := false, lateMarked := false, holding := none, change := some ⟨m, .stopped⟩ } ∧ bitAt r.pins.func 8 = false ∧
      (bitAt s.pins.func 8 = false → SameBut [.raster] s r))) ∧
  (∀ (s : State) (m : Nat), engineOn s 11 = true → s.raster.change = some ⟨m, .stopped⟩ → modeAt s ≤ s.tb.ns →
    Completes s .modeDone (fun r => r.raster.running = true ∧ r.raster.started = true ∧ r.raster.showing = false ∧
      r.raster.change = s.raster.queued.map (fun q => ⟨q, .waiting⟩) ∧ r.raster.queued = none ∧
      r.raster.hsCfg = regN s (entryKey 0x2380 1) ∧ r.raster.inWindow = false ∧ r.raster.commitTime = s.tb.ns ∧
      r.raster.lastFrame = some (if fld s (entryKey 0x22C8 6) 0 2 = 1 then (nearestFrame (setN s kModeCur m)).1 % 2 ^ 64 else nextNumber s) ∧
      regN r kModeCur = m % 2 ^ 32 ∧ Asserted s 180 r ∧ Asserted s 186 r))

/-! ### Lines, loads and the list -/

/-- R89, R94, R124: at its latch point every plane that is on samples its entries and its scroll word for the line, and the sprite engine its origin and clip; a fetch
that ends, one line after the other, has the line's pixels; a granule that external memory answers with an error is counted, flagged and recorded. -/
def Sys2Proof.Claims.PlaneLatchAndFetch : Prop :=
  (∀ (s : State) (y : Nat) (n : Fin 8), engineOn s 11 = true → s.raster.running = true → y < compH s →
    Completes s (.lineLatch y) (fun r => (engineOn s (20 + n.val) = true →
      (∃ b, (planeOf r n.val).bufs.find? (fun b => b.line == y) = some b ∧ b.entries = samplePlane s n.val ∧
        b.scroll = lineScroll s (samplePlane s n.val) y ∧ b.errAt = none ∧ (b.done = false ↔ bitAt (samp b.entries 1) 0 = true ∧
          (∃ x, x < compW s ∧ planeVisible b.entries x y = true) ∧
          (unserved s b.entries = true ∨ ∃ x, x < compW s ∧ planeNeeds s b.entries b.scroll n.val x y = true))) ∧
      fld r (planeKey n.val 2 1) 16 13 = y % 2 ^ 13 ∧
      (bitAt (samp (samplePlane s n.val) 1) 0 = true → samp (samplePlane s n.val) 0x11 = y → Asserted s (320 + 16 * n.val + 4) r)) ∧
      (engineOn s 9 = true → ∃ b, r.gfx.sprBufs.find? (fun b => b.line == y) = some b ∧ b.origin = sprOrigins s ∧ b.clip = sprClipNow s ∧ b.done = true) ∧
      SameBut [.graphics, .reports, .signals, .blitter, .requests, .free] s r)) ∧
  (∀ (s : State) (n : Fin 8) (y : Nat) (b : LineBuf), fetchRun s n.val = some b → b.line = y → lineBeyond s n.val b = none →
    Completes s (.lineFetchDone n y) (fun r =>
      (planeOf r n.val).bufs = (planeOf s n.val).bufs.map (fun c => if c.line = y
        then { c with done := true, px := planeLine (walkFinish s) b.entries b.scroll n.val y } else c) ∧
      flag r (planeKey n.val 2 1) 0 = (fetchRun r n.val).isSome ∧ (∀ m, m ≠ n.val → planeOf r m = planeOf s m) ∧
      SameBut [.graphics, .reports, .signals, .requests, .free] s r)) ∧
  (∀ (s : State) (n : Fin 8) (y granule : Nat) (b : LineBuf), fetchRun s n.val = some b → b.line = y → bmpExternal b.entries = true → granule < 2 ^ 40 →
    Completes s (.planeFetchError n y granule) (fun r =>
      (planeOf r n.val).bufs = (planeOf s n.val).bufs.map (fun c => if c.line = y
        then { c with done := true, errAt := some (alignDown granule 64), px := planeLine s b.entries b.scroll n.val y } else c) ∧
      flag r (planeKey n.val 2 2) 1 = true ∧ regGet r (planeKey n.val 2 6) = regGet s (planeKey n.val 2 6) + 1#32 ∧
      regN r (planeKey n.val 2 7) = alignDown granule 64 % 2 ^ 32 ∧ regN r (planeKey n.val 2 8) = alignDown granule 64 / 2 ^ 32 ∧
      (engineOn s 18 = true → extServes s = true → extFitted s ≤ alignDown granule 64 →
        flag r (entryKey 0x2482 2) 2 = true ∧ regGet r (entryKey 0x2482 6) = regGet s (entryKey 0x2482 6) + 1#32) ∧
      SameBut [.graphics, .reports, .requests, .free] s r))

/-- R141, R144: an active line takes the composer through its pixels; a pixel whose topmost candidate is opaque has that candidate's colour, and one without a
candidate the background. -/
def Sys2Proof.Claims.ActiveLineMerges : Prop :=
  (∀ (s : State) (y : Nat) (written : List (Fin 8 × Nat)) (late : Bool) (shadow : List Nat) (full : Option Nat),
    engineOn s 11 = true → s.raster.running = true → y < compH s →
    Completes s (.activeLine y written late shadow full) (fun r =>
      r.raster = { s.raster with line := y, lineClk := s.clk, showing := r.raster.showing } ∧
      ((∀ m n, s.raster.change ≠ some ⟨m, .blanking n⟩) → r.raster.showing = (s.raster.showing || y == 0)) ∧
      (∃ t1, r.gfx.lines.getLast? = some (y, t1) ∧ t1.length = compW s) ∧ r.mem.vsram = s.mem.vsram ∧ r.mem.sram = s.mem.sram ∧
      r.ss = (walkFinish s).ss)) ∧
  (∀ (c : CompLine) (col : List (Option Px)) (below : List Layer) (top : Layer), sortLayers (layersOf c col) = below ++ [top] →
    top.px.alpha = 255 → top.a = 255 → mergePixel c col = (top.px.r, top.px.g, top.px.b)) ∧
  (∀ (c : CompLine) (n : Nat), mergePixel c (List.replicate n none) = colour30 c.bg)

namespace Sys2Proof.Claims

/-- The three loads from video memory: of palettes, rule tables and sprite attributes (R87, R115, R120). -/
def armIdx : Fin 3 → Nat
  | 0 => 0x22F0
  | 1 => 0x22F1
  | 2 => 0x2243
def armCommand : Fin 3 → Writer → Word → Instr
  | 0 => .palLoadArm
  | 1 => .ruleLoadArm
  | 2 => .sprLoadArm
def armedGfx (g : Gfx) (l : Load) : Fin 3 → Gfx
  | 0 => { g with palArmed := some l }
  | 1 => { g with ruleArmed := some l }
  | 2 => { g with sprArmed := some l }

/-- What an arm latches: SRC, RANGE, and video memory as it is. -/
def armLatched (s : State) (i : Fin 3) : Load := ⟨regN s (entryKey (armIdx i) 1), regN s (entryKey (armIdx i) 2), s.mem.vsram⟩

end Sys2Proof.Claims

/-- R86, R87, R115, R116, R120, R121, R122: arming latches source and range, inside the commit window too, where the arm is held; a load that ends has filled its
palettes, tables or attributes from video memory, as it is or as it was at the arm, in every copy and left the others; the positions of the sprites.
It rests in part on choices of the model: logs 17 and 88. -/
def Obligations.LoadsArmAndFill : Prop :=
  (∀ (s : State) (w : Writer) (v : Word) (d : DictRow) (i : Fin 3), StoreReaches s w (armIdx i) 3 v d → v.toNat % 2 = 1 →
    (s.raster.inWindow = false → s.raster.held = [] → Completes s (armCommand i w v) (fun r =>
      r.gfx = armedGfx s.gfx (armLatched s i) i ∧ flag r (entryKey (armIdx i) 4) 0 = true ∧ KeepsEntries [entryKey (armIdx i) 4] s r ∧
      SameBut [.graphics, .reports] s r)) ∧
    (s.raster.inWindow = true → Completes s (armCommand i w v) (fun r =>
      (∃ m, r.raster.held = s.raster.held ++ [⟨entryKey (armIdx i) 3, m, v.toNat, some (armLatched s i)⟩]) ∧
      flag r (entryKey (armIdx i) 4) 0 = true ∧ SameBut [.raster, .reports] s r))) ∧
  (∀ (s : State) (l : Load) (i : Nat), s.gfx.palLoad = some l →
    Completes s .palLoadDone (fun r => r.gfx.palLoad = none ∧ flag r (entryKey 0x22F0 4) 1 = false ∧
      (let first := bits l.range 0 6 * 256
       let past := (min 63 (bits l.range 0 6 + bits l.range 8 6) + 1) * 256
       let a := bits l.src 3 20 * 8 + 8 * (i - first)
       let value (t : State) := bits (vsramWord t a) 0 30 + bits (vsramWord t (a + 4)) 0 8 * 2 ^ 30
       let now := mapGet (fun _ => 0) r.gfx.pal i
       if first ≤ i ∧ i < past then
         (now = value s ∨ now = value { s with mem := { s.mem with vsram := l.old } }) ∧ mapGet (fun _ => 0) r.gfx.palShadow i = now
       else now = mapGet (fun _ => 0) s.gfx.pal i ∧ mapGet (fun _ => 0) r.gfx.palShadow i = mapGet (fun _ => 0) s.gfx.palShadow i) ∧
      SameBut [.graphics, .free, .reports] s r)) ∧
  (∀ (s : State) (l : Load) (i : Nat), s.gfx.ruleLoad = some l →
    Completes s .ruleLoadDone (fun r => r.gfx.ruleLoad = none ∧ flag r (entryKey 0x22F1 4) 1 = false ∧
      (let first := bits l.range 0 5 * 64
       let past := (min 31 (bits l.range 0 5 + bits l.range 8 5) + 1) * 64
       let value (t : State) := vsramWord t (bits l.src 8 15 * 256 + 4 * (i - first))
       let now := mapGet (fun _ => 0) r.gfx.rules i
       if first ≤ i ∧ i < past then
         (now = value s ∨ now = value { s with mem := { s.mem with vsram := l.old } }) ∧ mapGet (fun _ => 0) r.gfx.rulesShadow i = now
       else now = mapGet (fun _ => 0) s.gfx.rules i ∧ mapGet (fun _ => 0) r.gfx.rulesShadow i = mapGet (fun _ => 0) s.gfx.rulesShadow i) ∧
      SameBut [.graphics, .free, .reports] s r)) ∧
  (∀ (s : State) (l : Load) (i : Nat), s.gfx.sprLoad = some l →
    Completes s .sprLoadDone (fun r => r.gfx.sprLoad = none ∧ flag r (entryKey 0x2243 4) 1 = false ∧
      (let first := bits l.range 0 11 * 8
       let past := (min 2047 (bits l.range 0 11 + bits l.range 16 11) + 1) * 8
       let value (t : State) := vsramWord t (bits l.src 5 18 * 32 + 4 * (i - first))
       let now := mapGet (fun _ => 0) r.gfx.sprAttr i
       if first ≤ i ∧ i < past then now = value s ∨ now = value { s with mem := { s.mem with vsram := l.old } }
       else now = mapGet (fun _ => 0) s.gfx.sprAttr i) ∧ SameBut [.graphics, .free, .reports] s r)) ∧
  (∀ (s : State) (n : Nat), engineOn s 9 = true → s.raster.running = true →
    Completes s .spritePositionsDone (fun r =>
      (sprEnabled s = false → r.gfx.sprPos = []) ∧
      (sprEnabled s = true → sprOn s n = true → ∃ p ∈ r.gfx.sprPos, p.sprite = n ∧
        p.x = (if bitAt (sprWord s n 2) 8 then boundCoord (walkFinish s) (toSigned 16 (sprWord s n 0)) (bits (sprWord s n 3) 0 18) (sprWord s n 5)
          else toSigned 16 (sprWord s n 0)) ∧
        p.y = (if bitAt (sprWord s n 2) 9 then boundCoord (walkFinish s) (toSigned 16 (sprWord s n 0 / 65536)) (bits (sprWord s n 4) 0 18) (sprWord s n 6)
          else toSigned 16 (sprWord s n 0 / 65536)) ∧
        (bits (sprWord s n 2) 8 3 < 4 → p.hidden = false)) ∧
      (∀ b ∈ r.gfx.sprBufs, b.line ≤ 1 → b.done = true) ∧ SameBut [.graphics, .reports, .signals] s r))

namespace Sys2Proof.Claims

/-- The next command of a running list is `op`, without reserved bits. -/
structure ListAt (s : State) (op : Nat) : Prop where
  running : s.gfx.ls.running = true
  inside : s.gfx.ls.pc < regN s (entryKey 0x2281 3)
  isOp : bits (lsWord s 0) 29 3 = op
  clean : lsRsvd s = false

/-- The position of the next command. -/
def listPos (s : State) : Nat := lsPosition s (lsWord s 0) (lsLine s (lsWord s 0))

/-- It has a position on an active line, after the last execution, within the budget. -/
structure ListPlaced (s : State) (op : Nat) : Prop extends ListAt s op where
  order : ∀ t, s.gfx.ls.last = some t → t < listPos s
  line : lsLine s (lsWord s 0) < compH s
  budget : s.gfx.ls.execs < 4096

/-- The FIFO of the sequencer holds what it held of the commands ahead, and after them the next commands of the list as video memory has them (R136). -/
def Prefetched (s r : State) (old : List (List Nat)) : Prop :=
  old <+: r.gfx.ls.fifo ∧ ∀ i, old.length ≤ i → i < r.gfx.ls.fifo.length → r.gfx.ls.fifo[i]? = some (lsRead s (r.gfx.ls.pc + i))

/-- A positioned command has executed: the sequencer is past it and remembers when; a late execution is counted and flagged. -/
def Executed (s r : State) (late : Nat) : Prop :=
  (let l := s.gfx.ls
   r.gfx.ls = { l with last := some (listPos s + late), execs := l.execs + 1, pc := l.pc + 1, fifo := r.gfx.ls.fifo }) ∧
  Prefetched s r (s.gfx.ls.fifo.drop 1) ∧
  regGet r (entryKey 0x2282 7) = regGet s (entryKey 0x2282 7) + 1#32 ∧ SameBut [.graphics, .reports] s r ∧
  (0 < late → flag r kLsFlags 0 = true ∧ regGet r (entryKey 0x2282 8) = regGet s (entryKey 0x2282 8) + 1#32) ∧
  (late = 0 → regGet r (entryKey 0x2282 8) = regGet s (entryKey 0x2282 8))

/-- The entries in which every execution reports: status, flags, the late record and the counts. -/
def listReports : List Nat := [entryKey 0x2282 1, kLsFlags, entryKey 0x2282 3, entryKey 0x2282 4, entryKey 0x2282 7, entryKey 0x2282 8, kMerged]

end Sys2Proof.Claims

/-- R131 to R134: the commands of a running list. A WRITE replaces the selected bits of the entry its target names; a MARK leaves its index and asserts source 166; a
late execution is counted and flagged; a LOOP goes back while its count lasts; END, and the end of the list, stop it with source 160. -/
def Obligations.ListCommands : Prop :=
  (∀ (s : State) (idx sub e late : Nat) (d : DictRow), ListPlaced s 1 → lsTarget (bits (lsWord s 1) 0 8) = some (idx, sub, e) →
    engineOn s e = true → dictRow? (idx - 1) sub = some d →
    Completes s (.lsWrite late) (fun r => Executed s r late ∧
      (let m := maskAnd (lsWord s 3) (2 ^ typeBits d.typ - 1)
       let old := regN s (entryKey idx sub)
       let c := checkWrite s d (idx - 1) sub (extendType d.typ (maskClear old m ||| maskAnd (lsWord s 2) m))
       regN r (entryKey idx sub) = applyChecked c old % 2 ^ 32) ∧
      KeepsEntries (entryKey idx sub :: entryKey 0x2282 0x0B :: listReports) s r)) ∧
  (∀ (s : State) (late : Nat), ListPlaced s 2 → Completes s (.lsWait late) (fun r => Executed s r late ∧ KeepsEntries listReports s r)) ∧
  (∀ (s : State) (late : Nat), ListPlaced s 4 → Completes s (.lsMark late) (fun r => Executed s r late ∧
    regN r (entryKey 0x2282 6) = s.gfx.ls.pc % 4096 ∧ Asserted s 166 r ∧ KeepsEntries (entryKey 0x2282 6 :: listReports) s r)) ∧
  (∀ s : State, ListAt s 3 → s.gfx.ls.active = false → bits (lsWord s 1) 0 12 < s.gfx.ls.pc →
    Completes s .lsLoop (fun r => KeepsEntries [entryKey 0x2282 1] s r ∧ SameBut [.graphics, .reports] s r ∧
      (Prefetched s r (if 0 < bits (lsWord s 2) 0 13 then [] else s.gfx.ls.fifo.drop 1)) ∧
      r.gfx.ls = if 0 < bits (lsWord s 2) 0 13
        then { s.gfx.ls with
          active := true, loopPc := s.gfx.ls.pc, k := bits (lsWord s 2) 0 13 - 1,
          d := s.gfx.ls.d + bits (lsWord s 3) 0 13, pc := bits (lsWord s 1) 0 12, fifo := r.gfx.ls.fifo }
        else { s.gfx.ls with active := false, loopPc := s.gfx.ls.pc, k := 0, d := 0, pc := s.gfx.ls.pc + 1, fifo := r.gfx.ls.fifo })) ∧
  (∀ s : State, ListAt s 0 ∨ (s.gfx.ls.running = true ∧ regN s (entryKey 0x2281 3) ≤ s.gfx.ls.pc) →
    Completes s .lsEnd (fun r => r.gfx.ls = { s.gfx.ls with running := false, ended := true } ∧ Asserted s 160 r ∧
      KeepsEntries [entryKey 0x2282 1, kMerged] s r ∧ SameBut [.graphics, .reports] s r))

/-! ### The verifier, write-back, the heads and Isobar -/

/-- R209, R210, R212: at E_f every region's code is published: 1 for a match of the two renderings, 2 for a difference, 3 for a region skipped, 4 and 5 where no comparison
is made; the CRCs of a comparison; the run counts of the legal regions; the frame's number and count; source 192.
It rests in part on choices of the model: logs 24 and 40. -/
def Obligations.FrameVerifiedPublishes : Prop :=
  ∀ s : State, engineOn s 12 = true → engineOffline s 12 = false → s.ver.due = true →
    let v := (verDue s).ver
    Completes s .frameVerified (fun r => r.ver.due = s.ver.last.isSome ∧ regN r (entryKey 0x2303 3) = v.frame % 2 ^ 32 ∧
      regGet r (entryKey 0x2303 8) = regGet s (entryKey 0x2303 8) + 1#32 ∧ Asserted s 192 r ∧
      (∀ (k : Fin 32) (run : RegionRun), v.runs.find? (fun x => x.region == k.val) = some run →
        bits (regN r (entryKey 0x2304 k.val)) 0 3 = (if run.unsupported then 4 else if run.incomplete then 5
          else if run.crcT1 = run.crcShadow ∧ run.firstDiff = none then 1 else 2) ∧
        regN r (entryKey 0x2305 k.val) = (run.crcT1 ^^^ 0xFFFFFFFF) % 2 ^ 32 ∧
        (run.unsupported = false → run.incomplete = false → regN r (entryKey 0x2306 k.val) = (run.crcShadow ^^^ 0xFFFFFFFF) % 2 ^ 32)) ∧
      (∀ k : Fin 32, v.runs.find? (fun x => x.region == k.val) = none →
        bits (regN r (entryKey 0x2304 k.val)) 0 3 = if v.skipped.contains k.val then 3 else 0) ∧
      (∀ k, k < 4 → mapGet (fun _ => 0) r.ver.legalRun k = (let (w, c) := regionResult (verDue s) k
        let old := mapGet (fun _ => 0) s.ver.legalRun k
        if c = 0 then old else if c = 1 ∧ bitAt w 3 = false then 0 else min 15 (old + 1))) ∧
      ((∀ k, k < 4 → regionResult (verDue s) k = (0, 0) ∨ regionResult (verDue s) k = (1, 1)) → r.mem = s.mem ∧ r.raster = s.raster ∧ r.gfx = s.gfx))

/-- R159, R160: a descriptor whose READY is 0 is counted and leaves the frame unwritten; a bad one is passed over; a ready one starts it at its buffer; a frame that ends writes its number, time and
status into the descriptor, clears READY and moves the ring on; a bus error stops it with the address.
It rests in part on choices of the model: log 25. -/
def Obligations.WriteBackDescriptors : Prop :=
  (∀ (s : State) (f : Nat), s.wb.run = none → s.wb.reading = some f → extOk s (wbDesc s s.wb.ring) 32 = true →
    (bitAt (extWord s (wbDesc s s.wb.ring + 12)) 0 = false → Completes s .wbDescRead (fun r => r.wb = { s.wb with reading := none } ∧
      flag r kWbFlags 0 = true ∧ regGet r (entryKey 0x23C2 5) = regGet s (entryKey 0x23C2 5) + 1#32 ∧ SameBut [.writeBack, .reports] s r)) ∧
    (bitAt (extWord s (wbDesc s s.wb.ring + 12)) 0 = true → wbBadDesc s (wbDesc s s.wb.ring) = false → Completes s .wbDescRead (fun r =>
      (∃ run, r.wb.run = some run ∧ run.frame = f ∧ run.time = s.raster.commitTime ∧ run.desc = wbDesc s s.wb.ring ∧
        run.buffer = bits (extWord s run.desc) 6 26 * 64 + bits (extWord s (run.desc + 4)) 0 8 * 2 ^ 32 ∧
        run.pitch = bits (extWord s (run.desc + 8)) 0 12) ∧ r.wb.reading = none ∧ r.wb.ring = s.wb.ring ∧
      SameBut [.writeBack, .reports] s r)) ∧
    (bitAt (extWord s (wbDesc s s.wb.ring + 12)) 0 = true → wbBadDesc s (wbDesc s s.wb.ring) = true → Completes s .wbDescRead (fun r =>
      r.wb.run = none ∧ r.wb.reading = none ∧ flag r kWbFlags 3 = true ∧
      r.wb.ring = (if fld s (entryKey 0x23C1 4) 0 16 ≤ s.wb.ring + 1 then 0 else s.wb.ring + 1) ∧ SameBut [.writeBack, .memory, .reports] s r))) ∧
  (∀ (s : State) (run : WbRun), s.wb.run = some run → extOk s run.desc 32 = true → run.desc + 32 ≤ 2 ^ 40 →
    Completes s .wbDone (fun r => r.wb.run = none ∧ r.wb.ring = (if fld s (entryKey 0x23C1 4) 0 16 ≤ s.wb.ring + 1 then 0 else s.wb.ring + 1) ∧
      extWord r (run.desc + 12) = 0 ∧ extWord r (run.desc + 16) = run.frame % 2 ^ 32 ∧ extWord r (run.desc + 20) = run.time % 2 ^ 32 ∧
      extWord r (run.desc + 28) = (1 + 2 * run.stopped) % 2 ^ 32 ∧
      (∀ a, a < 2 ^ 40 → a < run.desc + 12 ∨ run.desc + 32 ≤ a → byteAt r.mem.ext a = byteAt s.mem.ext a) ∧
      regN r (entryKey 0x23C2 3) = run.frame % 2 ^ 32 ∧ Asserted s 240 r ∧ SameBut [.writeBack, .memory, .reports] s r)) ∧
  (∀ (s : State) (f a : Nat), s.wb.run = none → s.wb.reading = some f → a < 2 ^ 40 →
    Completes s (.wbBusError a) (fun r => r.wb = { s.wb with reading := none } ∧ flag r kWbFlags 2 = true ∧
      regN r (entryKey 0x23C2 7) = a % 2 ^ 32 ∧ regN r (entryKey 0x23C2 8) = a / 2 ^ 32 ∧ SameBut [.writeBack, .reports] s r)) ∧
  (∀ (s : State) (run : WbRun) (a : Nat), s.wb.run = some run → a < 2 ^ 40 →
    Completes s (.wbBusError a) (fun r => r.wb = { s.wb with run := none } ∧ flag r kWbFlags 2 = true ∧
      regN r (entryKey 0x23C2 7) = a % 2 ^ 32 ∧ regN r (entryKey 0x23C2 8) = a / 2 ^ 32 ∧ SameBut [.writeBack, .memory, .reports] s r))

/-- R174, R175: hot plug and every retraining bring the link to the configuration that carries the mode, or LINK_FAIL where none does; low HPD takes the link down; a
training that succeeds readies the video with source 210, and three failures give up. -/
def Sys2Proof.Claims.HeadPLink : Prop :=
  (∀ (s : State) (lanes rate : Nat) (edid : List Byte), engineOn s 13 = true → headPOn s = true →
    Completes s (.hpdAssert lanes rate edid) (fun r => r.hp.hpd = true ∧ r.hp.sinkLanes = lanes ∧ r.hp.sinkRate = rate ∧ r.hp.video = false ∧
      r.hp.training = linkConfig r ∧ (linkConfig r = none → flag r kHpFlags 2 = true) ∧ flag r kHpFlags 0 = true ∧
      SameBut [.headP, .blobs, .reports] s r)) ∧
  (∀ (s : State) (lanes rate : Nat) (edid : List Byte), engineOn s 13 = true → headPOn s = false →
    Completes s (.hpdAssert lanes rate edid) (fun r => r.hp = { s.hp with hpd := true, sinkLanes := lanes, sinkRate := rate } ∧ SameBut [.headP] s r)) ∧
  (∀ s : State, engineOn s 13 = true → Completes s .hpdLow (fun r =>
    r.hp = { s.hp with hpd := false, training := none, trained := none, video := false, videoNext := false, attempts := 0 } ∧
    flag r kHpFlags 0 = true ∧ SameBut [.headP, .reports] s r)) ∧
  (∀ (s : State) (lockLost : Bool), engineOn s 13 = true → Completes s (.irqHpd lockLost) (fun r => flag r kHpFlags 1 = true ∧
    (lockLost = true → headPOn s = true → r.hp.training = linkConfig r ∧ r.hp.video = false) ∧ (lockLost = false ∨ headPOn s = false → r.hp = s.hp) ∧ SameBut [.headP, .reports] s r)) ∧
  (∀ (s : State) (w : Writer) (v : Word) (d : DictRow), StoreReaches s w 0x2340 4 v d → v.toNat % 2 = 1 →
    Completes s (.hpRetrain w v) (fun r => r.hp.training = linkConfig r ∧ r.hp.trained = none ∧ r.hp.video = false ∧
      (linkConfig r = none → flag r kHpFlags 2 = true ∧ regN r (entryKey 0x2342 3) = 1) ∧ SameBut [.headP, .reports] s r)) ∧
  (∀ (s : State) (c : Nat × Nat) (ok : Bool) (cause micros : Nat), s.hp.training = some c →
    Completes s (.trainingEnd ok cause micros) (fun r => regN r (entryKey 0x2342 4) = micros % 2 ^ 32 ∧ SameBut [.headP, .reports] s r ∧
      (ok = true → r.hp = { s.hp with training := none, trained := some c, videoNext := true } ∧ Asserted s 210 r) ∧
      (ok = false → s.hp.attempts < 2 → r.hp = { s.hp with attempts := s.hp.attempts + 1 } ∧
        regGet r (entryKey 0x2342 5) = regGet s (entryKey 0x2342 5) + 1#32) ∧
      (ok = false → 2 ≤ s.hp.attempts → r.hp = { s.hp with training := none, attempts := 0 } ∧ flag r kHpFlags 2 = true ∧
        regN r (entryKey 0x2342 3) = cause % 2 ^ 32)))

/-- R192, R196: a byte over AUX answers or sets its flag; a follower measures the edge of an Isobar word against its last commit instant less ISOBAR_COMP, takes the
frame number of a good word, counts a bad one, and goes into holdover without an edge. -/
def Sys2Proof.Claims.AuxAndIsobar : Prop :=
  (∀ (s : State) (w : Writer) (store : Bool) (b a : Byte), engineOn s 13 = true → w ≠ .bellmetal →
    Completes s (.hpAuxData w store b (some a)) (fun r => regN r (entryKey 0x2340 3) = (if store then b else a).toNat ∧
      KeepsEntries [entryKey 0x2340 3] s r ∧ SameBut [.reports] s r) ∧
    Completes s (.hpAuxData w store b none) (fun r => flag r kHpFlags 4 = true ∧ KeepsEntries [kHpFlags, kMerged] s r ∧ SameBut [.reports] s r)) ∧
  (∀ (s : State) (frame : BitVec 64) (crc : BitVec 8) (edge : Nat), engineOn s 11 = true → s.raster.running = true → lockSource s = 2 →
    Completes s (.isobarWord frame crc true edge) (fun r =>
      regGet r (entryKey 0x22C9 7) = intWord (clampInt (-(2 ^ 31)) (2 ^ 31 - 1)
        ((4 * ((s.raster.commitTime : Int) - (edge : Int)) + (fld s (entryKey 0x22C8 0x0B) 0 10 : Nat)) / 4)) ∧
      (isobarCrc frame.toNat = crc.toNat → r.raster.lastFrame = some frame.toNat) ∧
      (isobarCrc frame.toNat ≠ crc.toNat → r.raster.lastFrame = s.raster.lastFrame ∧ flag r kRasterFlags 2 = true ∧
        regGet r (entryKey 0x22C9 0x0B) = regGet s (entryKey 0x22C9 0x0B) + 1#32) ∧ SameBut [.raster, .reports] s r) ∧
    Completes s (.isobarWord frame crc false edge) (fun r => r.raster = { s.raster with lock := .free, goodFrames := 0 } ∧
      flag r kRasterFlags 2 = true ∧ regGet r (entryKey 0x22C9 0x0B) = regGet s (entryKey 0x22C9 0x0B) + 1#32 ∧ SameBut [.raster, .reports] s r)) ∧
  (∀ s : State, engineOn s 11 = true → lockSource s = 2 → s.raster.lock ≠ .holdover →
    Completes s .isobarTimeout (fun r => r.raster = { s.raster with lock := .holdover, goodFrames := 0 } ∧ flag r kRasterFlags 1 = true ∧
      regGet r (entryKey 0x22C9 0x0A) = regGet s (entryKey 0x22C9 0x0A) + 1#32 ∧ SameBut [.raster, .reports] s r))

/-- R151 to R153: for every pixel and every DITHER setting a head's output keeps within one step of the truncated colour, is the truncated colour exactly for a
legal-marked pixel and for DITHER 0, and passes the dither bound check. -/
def Sys2Proof.Claims.DitherKeepsBound : Prop :=
  ∀ (s : State) (base d x y k : Nat) (p : Mpx), d = 6 ∨ d = 8 ∨ d = 10 → k = 12 - d → p.r < 4096 → p.g < 4096 → p.b < 4096 →
    boundOk s base d p (headPixel s base d x y p) = true ∧
    (p.legal.isSome = true → (headPixel s base d x y p).2 = (p.r, p.g, p.b)) ∧
    (∀ f : Nat × Nat × Nat → Nat, f = Prod.fst ∨ f = (fun q => q.2.1) ∨ f = (fun q => q.2.2) →
      f (headPixel s base d x y p).2 / 2 ^ k ≤ f (headPixel s base d x y p).1 ∧
      f (headPixel s base d x y p).1 ≤ min (2 ^ d - 1) (f (headPixel s base d x y p).2 / 2 ^ k + 1) ∧
      (p.legal.isSome = true ∨ fld s (compKey base) 2 2 = 0 → f (headPixel s base d x y p).1 = f (headPixel s base d x y p).2 / 2 ^ k))

/-! ### DMA and the blitter -/

/-- R332, R334: START with an aligned address sets a channel running with the read of its first descriptor, an unaligned one halts it; BELL is latched by a running channel
and wakes a parked one; HALT waits for a running channel's requests and halts a parked one at once. -/
def Obligations.DmaCommands : Prop :=
  ∀ (s : State) (n : Fin 16), engineOn s 5 = true →
    (∀ (a : BitVec 40) (cop : Bool), chState s n.val ≠ 1 → Completes s (.dmaStart n a cop) (fun r => pairN r (chKey n.val 9) (chKey n.val 0x0A) = a.toNat ∧
      (dmaChan r n.val).cfg = fld s (chKey n.val 1) 0 2 ∧
      (a.toNat % 16 = 0 → chState r n.val = 1 ∧ chBell r n.val = false ∧ (dmaChan r n.val).phase = .desc ∧ regN r (chKey n.val 0x0B) = 0) ∧
      (a.toNat % 16 ≠ 0 → chState r n.val = 3 ∧ fld r (chKey n.val 7) 4 4 = 2) ∧
      (∀ m, m ≠ n.val → dmaChan r m = dmaChan s m) ∧ SameBut [.dma, .requests, .free, .reports] s r)) ∧
    (∀ a, chState s n.val = 1 → Completes s (.dmaStart n a false) (fun r => flag r (chKey n.val 8) 3 = true ∧ r.dma = s.dma ∧
      KeepsEntries [chKey n.val 8, kMerged] s r)) ∧
    (chState s n.val = 1 → Completes s (.dmaBell n) (fun r => chBell r n.val = true ∧ r.dma = s.dma ∧ KeepsEntries [chKey n.val 7] s r)) ∧
    (chState s n.val = 2 → Completes s (.dmaBell n) (fun r => chState r n.val = 1 ∧ chBell r n.val = false ∧ (dmaChan r n.val).phase = .reRead ∧
      SameBut [.dma, .requests, .free, .reports] s r)) ∧
    (chState s n.val = 1 → Completes s (.dmaHalt n) (fun r => dmaChan r n.val = { dmaChan s n.val with halting := true } ∧ SameBut [.dma] s r)) ∧
    (chState s n.val = 2 → Completes s (.dmaHalt n) (fun r => chState r n.val = 3 ∧ fld r (chKey n.val 7) 4 4 = 1 ∧ flag r (chKey n.val 8) 2 = true ∧
      SameBut [.dma, .requests, .reports] s r)) ∧
    (chState s n.val = 1 → (dmaChan s n.val).halting = true → Completes s (.haltDone n) (fun r => chState r n.val = 3 ∧ fld r (chKey n.val 7) 4 4 = 1 ∧
      flag r (chKey n.val 8) 2 = true ∧ (dmaChan r n.val).phase = .none ∧ SameBut [.dma, .requests, .reports] s r))

namespace Sys2Proof.Claims

/-- The words of 32 bits that bytes hold. -/
def wordsOf (b : List Byte) : List Nat := (List.range (b.length / 4)).map (fun i => ofBytes ((b.drop (4 * i)).take 4))

/-- The entries in which a full request tracker shows (R39). -/
def trackerReports : List Nat := [entryKey 0x2482 2, entryKey 0x2482 7, kMerged]

end Sys2Proof.Claims

/-- R330, R331, R332, R335: a descriptor that arrives is checked and halts its channel or begins to move data; a request moves its bytes; the end of a descriptor counts it,
goes on to its link or parks, and keeps the peer address for the next; an error is reissued while retries remain and halts the channel after them.
It rests in part on choices of the model: log 18. -/
def Obligations.DmaDescriptors : Prop :=
  ∀ (s : State) (n : Fin 16), engineOn s 5 = true → chState s n.val = 1 →
    (∀ b w t, (dmaChan s n.val).phase = .desc → (dmaChan s n.val).halting = false → busRead s (chCur s n.val) 16 = some b → w = wordsOf b →
      t = setDmaChan s n.val { dmaChan s n.val with
        phase := .data, words := w, moved := 0, tries := 0, peer := pairN s (chKey n.val 0x0C) (chKey n.val 0x0D) } →
      Completes s (.descReadDone n) (fun r => (dmaChan r n.val).words = w ∧ r.mem = s.mem ∧
        (descCheck t n.val = 0 → (dmaChan r n.val).phase = .data ∧ chState r n.val = 1) ∧
        (descCheck t n.val ≠ 0 → chState r n.val = 3 ∧ fld r (chKey n.val 7) 4 4 = descCheck t n.val ∧ flag r (chKey n.val 8) 1 = true))) ∧
    (∀ b t, (dmaChan s n.val).phase = .reRead → (dmaChan s n.val).halting = false → busRead s (chCur s n.val) 16 = some b →
      t = setDmaChan s n.val { dmaChan s n.val with words := (dmaChan s n.val).words.take 2 ++ (wordsOf b).drop 2 } →
      bits (chWord t n.val 2) 8 24 = 0 → bits (chWord t n.val 3) 2 2 = 0 →
      Completes s (.descReadDone n) (fun r => (dmaChan r n.val).words = (dmaChan t n.val).words ∧ r.mem = s.mem ∧
        (descEnd t n.val = true → chBell s n.val = false → chState r n.val = 2) ∧
        (descEnd t n.val = false → chState r n.val = 1 ∧ (dmaChan r n.val).phase = .desc ∧ chCur r n.val = descLink t n.val))) ∧
    (∀ b t len, (dmaChan s n.val).phase = .data → (dmaChan s n.val).halting = false → (dmaChan s n.val).moved < descLen s n.val →
      len = min (64 - (descSrc s n.val + (dmaChan s n.val).moved) % 64) (descLen s n.val - (dmaChan s n.val).moved) →
      busRead s (descSrc s n.val + (dmaChan s n.val).moved) len = some b → busWrite s (descDst s n.val + (dmaChan s n.val).moved) b = some t →
      Completes s (.dmaDataReadDone n) (fun r => r.mem = t.mem ∧ dmaChan r n.val = { dmaChan s n.val with
          moved := (dmaChan s n.val).moved + len, tries := 0 } ∧
        regN r (chKey n.val 0x0B) = (dmaChan s n.val).moved + len ∧ KeepsEntries (chKey n.val 0x0B :: trackerReports) s r ∧
        SameBut [.dma, .memory, .requests, .free, .reports] s r)) ∧
    ((dmaChan s n.val).phase = .data → descLen s n.val ≤ (dmaChan s n.val).moved →
      Completes s (.descComplete n) (fun r => regGet r (chKey n.val 0x10) = regGet s (chKey n.val 0x10) + 1#32 ∧
        (descIrq s n.val = true → flag r (chKey n.val 8) 0 = true) ∧
        ((dmaChan s n.val).halting = true → chState r n.val = 1 ∧ (dmaChan r n.val).phase = .none) ∧
        ((dmaChan s n.val).halting = false →
          (descEnd s n.val = true → chBell s n.val = false → chState r n.val = 2) ∧
          (descEnd s n.val = true → chBell s n.val = true → chState r n.val = 1 ∧ chBell r n.val = false ∧ (dmaChan r n.val).phase = .reRead) ∧
          (descEnd s n.val = false → chState r n.val = 1 ∧ (dmaChan r n.val).phase = .desc ∧ chCur r n.val = descLink s n.val)) ∧
        SameBut [.dma, .requests, .free, .reports] s r)) ∧
    (∀ write, (dmaChan s n.val).phase = .desc ∨ (dmaChan s n.val).phase = .reRead → Completes s (.dmaAccessError n write) (fun r =>
      ((dmaChan s n.val).tries < fld s (entryKey 0x2140 1) 0 3 → (dmaChan r n.val).tries = (dmaChan s n.val).tries + 1 ∧ chState r n.val = 1 ∧
        regGet r (entryKey 0x2140 3) = regGet s (entryKey 0x2140 3) + 1#32) ∧
      (fld s (entryKey 0x2140 1) 0 3 ≤ (dmaChan s n.val).tries → chState r n.val = 3 ∧ fld r (chKey n.val 7) 4 4 = 4 ∧ flag r (chKey n.val 8) 1 = true ∧
        pairN r (chKey n.val 0x0E) (chKey n.val 0x0F) = chCur s n.val) ∧ SameBut [.dma, .requests, .reports] s r)) ∧
    (∀ write : Bool, (dmaChan s n.val).phase = .data → Completes s (.dmaAccessError n write) (fun r =>
      ((dmaChan s n.val).tries < fld s (entryKey 0x2140 1) 0 3 → (dmaChan r n.val).tries = (dmaChan s n.val).tries + 1 ∧ chState r n.val = 1 ∧
        r.mem = s.mem) ∧
      (fld s (entryKey 0x2140 1) 0 3 ≤ (dmaChan s n.val).tries → chState r n.val = 3 ∧ fld r (chKey n.val 7) 4 4 = 4 ∧ flag r (chKey n.val 8) 1 = true ∧
        pairN r (chKey n.val 0x0E) (chKey n.val 0x0F) = (if write then descDst s n.val else descSrc s n.val) + (dmaChan s n.val).moved ∧
        regGet r (chKey n.val 0x0B) = regGet s (chKey n.val 0x0B)) ∧ SameBut [.dma, .memory, .requests, .free, .reports] s r))

/-- R338, R340, R342, R344: RUN starts a list; a command that is read is checked, and END ends the list with source 96; the spans of a command are read and written in turn;
the command's end moves to the next; ABORT is taken between spans; an error stops the list with its cause and address.
It rests in part on choices of the model: log 19. -/
def Obligations.BlitterLists : Prop :=
  ∀ s : State, engineOn s 6 = true →
    (∀ (a : BitVec 40) (cop : Bool), bltRuns s = false → a.toNat % 64 = 0 → Completes s (.bltRun a cop) (fun r => r.blt = { phase := .command } ∧
      bltRuns r = true ∧ bltIndex r = 0 ∧ bltAddr r = a.toNat ∧ SameBut [.blitter, .requests, .free, .reports] s r)) ∧
    (∀ (a : BitVec 40) (cop : Bool), bltRuns s = false → a.toNat % 64 ≠ 0 → Completes s (.bltRun a cop) (fun r => fld r kBltStatus 0 2 = 2 ∧
      fld r kBltStatus 2 4 = 2 ∧ r.mem = s.mem)) ∧
    (∀ a : BitVec 40, bltRuns s = true → Completes s (.bltRun a false) (fun r => flag r kBltFlags 2 = true ∧ r.blt = s.blt ∧ r.mem = s.mem)) ∧
    (bltRuns s = true → Completes s .bltAbort (fun r => r.blt = { s.blt with abort := true } ∧ SameBut [.blitter] s r)) ∧
    (∀ b w t, s.blt.phase = .command → s.blt.abort = false → busRead s (bltAddr s) 64 = some b →
      w = wordsOf b → t = setBlt s { phase := .reads, words := w, wmDone := false } →
      Completes s .bltCmdRead (fun r => r.mem = s.mem ∧
        (bltReserved t = false → bltOp t = 0 → bltRuns r = false ∧ r.blt.phase = .idle ∧ Asserted s 96 r) ∧
        (bltReserved t = true → fld r kBltStatus 0 2 = 2 ∧ fld r kBltStatus 2 4 = 3 ∧ flag r kBltFlags 0 = true) ∧
        (bltReserved t = false → bltOp t ≠ 0 → bltMisaligned t = true → fld r kBltStatus 0 2 = 2 ∧ fld r kBltStatus 2 4 = 2) ∧
        (bltReserved t = false → bltOp t ≠ 0 → bltMisaligned t = false → bltFormatsOk t = true → bltWmEn t = false →
          r.blt = t.blt ∧ KeepsEntries trackerReports s r))) ∧
    (∀ out, s.blt.phase = .reads → spanOut s = .ok out → Completes s .bltSpanReadsDone (fun r =>
      r.blt = { s.blt with phase := .writes, out := out } ∧ KeepsEntries trackerReports s r ∧ SameBut [.blitter, .requests, .free, .reports] s r)) ∧
    (s.blt.abort = true → s.blt.phase = .command → Completes s .bltCmdRead (fun r => fld r kBltStatus 0 2 = 2 ∧ fld r kBltStatus 2 4 = 1 ∧ r.mem = s.mem)) ∧
    (∀ t, s.blt.phase = .writes → writeSpan s s.blt.out = (t, none) → Completes s .bltSpanWritesDone (fun r =>
      r.mem = t.mem ∧ SameBut [.blitter, .memory, .requests, .free, .reports] s r ∧
      (bltW s ≤ (s.blt.span + 1) * spanPixels (bltDstFmt s) → bltWmEn s = true → spanRow s = bits (bltWord s 10) 0 12 →
        Asserted s 97 r ∧ regN r (entryKey 0x2182 7) = bltIndex s) ∧
      (s.blt.abort = true → fld r kBltStatus 0 2 = 2 ∧ fld r kBltStatus 2 4 = 1))) ∧
    (∀ t, s.blt.phase = .writes → writeSpan s s.blt.out = (t, none) → s.blt.abort = false → Completes s .bltSpanWritesDone (fun r =>
      ((s.blt.span + 1) * spanPixels (bltDstFmt s) < bltW s → r.blt = { s.blt with phase := .reads, out := [], span := s.blt.span + 1 } ∧
        KeepsEntries trackerReports s r) ∧
      (bltW s ≤ (s.blt.span + 1) * spanPixels (bltDstFmt s) → s.blt.row + 1 ≠ bltH s →
        r.blt = { s.blt with phase := .reads, out := [], row := s.blt.row + 1, span := 0, wmDone := r.blt.wmDone } ∧
        KeepsEntries (entryKey 0x2182 7 :: trackerReports) s r) ∧
      (bltW s ≤ (s.blt.span + 1) * spanPixels (bltDstFmt s) → s.blt.row + 1 = bltH s → r.blt = { phase := .command } ∧
        bltIndex r = (bltIndex s + 1) % 65536 ∧ bltAddr r = (bltAddr s + 64) % 2 ^ 40 ∧
        regGet r (entryKey 0x2182 0x0A) = regGet s (entryKey 0x2182 0x0A) + 1#32))) ∧
    (∀ a : BitVec 40, bltRuns s = true → Completes s (.bltError a) (fun r => fld r kBltStatus 0 2 = 2 ∧ fld r kBltStatus 2 4 = 4 ∧
      flag r kBltFlags 0 = true ∧ pairN r (entryKey 0x2182 5) (entryKey 0x2182 6) = a.toNat ∧ r.blt.phase = .idle ∧
      (s.blt.phase ≠ .writes → r.mem = s.mem) ∧ SameBut [.blitter, .memory, .requests, .free, .reports] s r))

/-- R341: COPY writes the source, FILL the colour, CKEY nothing where the source equals the key under its mask; each bit of a ROP is the bit of its table that pattern,
source and destination select. -/
def Sys2Proof.Claims.BlitterPixels : Prop :=
  (∀ (s : State) (x r v : Nat), readPixel s 4 (bltSrcFmt s) x r = .ok v →
    (bltOp s = 1 → bltPixel s x r = .ok (some v)) ∧
    (bltOp s = 2 → bltPixel s x r = .ok (some (bits (bltWord s 8) 0 (fmtBits (bltDstFmt s))))) ∧
    (bltOp s = 3 → maskAnd v (bltWord s 9) = maskAnd (bits (bltWord s 8) 0 (fmtBits (bltDstFmt s))) (bltWord s 9) → bltPixel s x r = .ok none)) ∧
  (∀ (s : State) (m sv dv b : Nat), b < fmtBits (bltDstFmt s) → bitAt (ropPixel s m sv dv) b =
    bitAt (bltWord s 9) (8 * m + 4 * bits (bltWord s 8) b 1 + 2 * bits sv b 1 + bits dv b 1)) ∧
  (∀ (s : State) (v d : Nat), bitAt (bltWord s 0) 12 = false → bits (bltWord s 9) 0 8 = 255 → bltDstFmt s = 3 →
    blendPixel s v d = 255 * 2 ^ 24 + bits v 0 24)

/-! ### Timers and pins -/

/-- R348 to R353, R357: a wrap takes the new reload and flags WRAP, and ticks a cascaded channel; a match flags MATCH, and in native mode the compare value advances
unless a write of the same tick replaces it, while a compatibility match without action leaves it; a locked channel starts from its lock time by its formula. The
writes that wait for the channel's clock take effect with it. -/
def Sys2Proof.Claims.TimerEvents : Prop :=
  ∀ (s q : State) (n : Fin 40), q = tmTake s n.val → tmOn q n.val = true → tmRuns q n.val = true → tmFrozen q n.val = false →
    (tmLocked q n.val = false ∨ tmCounting q n.val = false → Completes s (.tmWrap n) (fun r =>
      ((n.val = tmLast n.val ∨ (tmRuns q (n.val + 1) && tmSrc q (n.val + 1) == 1) = false) → tmCount r n.val = 0 ∧ tmReloadCur r n.val = regN q (timerKey n.val 2) ∧
        flag r (timerKey n.val 0x0B) 1 = true) ∧
      (n.val < tmLast n.val → tmRuns q (n.val + 1) = true → tmSrc q (n.val + 1) = 1 → tmFrozen q (n.val + 1) = false → tmActs q (n.val + 1) = false →
        tmCount q (n.val + 1) < regN q (timerKey (n.val + 1) 2) → tmCount q (n.val + 1) < tmReloadCur q (n.val + 1) →
        tmCount r n.val = 0 ∧ tmCount r (n.val + 1) = tmCount q (n.val + 1) + 1) ∧ SameBut [.timers, .reports] s r)) ∧
    (∀ written : Option Word, regN q (timerKey n.val 3) ≤ tmReloadCur q n.val → tmActs q n.val = false →
      bitAt (tmCtrl q n.val) 1 = false ∨ bits (tmCtrl q n.val) 11 3 = 0 →
      Completes s (.tmMatch n written) (fun r => tmCount r n.val = regN q (timerKey n.val 3) ∧ flag r (timerKey n.val 0x0B) 0 = true ∧
        regN r (timerKey n.val 3) = (match written with
          | some v => v.toNat
          | none => if bitAt (tmCtrl q n.val) 1 then regN q (timerKey n.val 3)
            else (regN q (timerKey n.val 3) + regN q (timerKey n.val 4)) % (tmReloadCur q n.val + 1)) ∧
        KeepsEntries [timerKey n.val 3, timerKey n.val 5, timerKey n.val 0x0B, kMerged] q r)) ∧
    (n.val < 32 → tmLocked q n.val = true → tmCounting q n.val = false → lockAt q n.val ≤ q.tb.ns → Completes s (.tmLockStart n) (fun r =>
      tmCounting r n.val = true ∧
      tmCount r n.val = ((q.tb.ns - lockAt q n.val) / 10 + regN q (timerKey n.val 6)) % (tmReloadCur q n.val + 1) ∧ SameBut [.timers, .reports] s r))

/-- R355: a group start gives every unlocked channel of its mask its phase and runs it, a group stop stops every channel of its mask, and both leave the other channels
alone; a staggered start spreads the phases evenly. -/
def Sys2Proof.Claims.TimerGroups : Prop :=
  (∀ (s : State) (w : Writer) (v : Word) (d : DictRow) (at_ : Bool) (n : Nat), (if at_ then 32 ≤ n ∧ n < 40 else n < 32) →
    (StoreReaches s w 0x20C0 (if at_ then 4 else 1) v d → Completes s (if at_ then .atGroupStart w v else .tmGroupStart w v) (fun r =>
      (bitAt v.toNat (n % 32) = true → tmLocked s n = false → tmCount r n = regN s (timerKey n 6) ∧ tmRuns r n = true) ∧
      (bitAt v.toNat (n % 32) = false ∨ tmLocked s n = true → ∀ sub, sub < 16 → regGet r (timerKey n sub) = regGet s (timerKey n sub)) ∧
      SameBut [.timers, .reports] s r)) ∧
    (StoreReaches s w 0x20C0 (if at_ then 5 else 2) v d → Completes s (if at_ then .atGroupStop w v else .tmGroupStop w v) (fun r =>
      (bitAt v.toNat (n % 32) = true → tmRuns r n = false) ∧
      (bitAt v.toNat (n % 32) = false → ∀ sub, sub < 16 → regGet r (timerKey n sub) = regGet s (timerKey n sub)) ∧
      tmCount r n = tmCount s n ∧ SameBut [.timers, .reports] s r))) ∧
  (∀ (s : State) (w : Writer) (v : Word) (d : DictRow) (i : Nat), StoreReaches s w 0x20C0 3 v d → bits v.toNat 0 5 + bits v.toNat 8 6 ≤ 32 →
    i < bits v.toNat 8 6 → tmLocked s (bits v.toNat 0 5 + i) = false →
    Completes s (.tmStagger w v) (fun r => tmRuns r (bits v.toNat 0 5 + i) = true ∧
      tmCount r (bits v.toNat 0 5 + i) = i * (tmReloadCur s (bits v.toNat 0 5 + i) + 1) / bits v.toNat 8 6 ∧ SameBut [.timers, .reports] s r))

/-- R349, R350, R351: a write of COUNT, RELOAD or COMPARE replaces that entry of its channel and no other. -/
def Sys2Proof.Claims.TimerRegisters : Prop :=
  ∀ (s : State) (w : Writer) (n : Fin 40) (v : Word) (d : DictRow), d.acc = .rw →
    (StoreReaches s w (timerIdx n) 5 v d → Completes s (.tmCount w n v) (fun r =>
      tmCount r n.val = maskClear (tmCount s n.val) (checkWrite s d (timerIdx n) 5 v.toNat).mask ||| v.toNat ∧
      KeepsEntries [timerKey n.val 5] s r ∧ SameBut [.timers, .reports, .power] s r)) ∧
    (StoreReaches s w (timerIdx n) 2 v d → Completes s (.tmReload w n v) (fun r =>
      regN r (timerKey n.val 2) = maskClear (regN s (timerKey n.val 2)) (checkWrite s d (timerIdx n) 2 v.toNat).mask ||| v.toNat ∧
      KeepsEntries [timerKey n.val 2] s r ∧ SameBut [.timers, .reports, .power] s r)) ∧
    (StoreReaches s w (timerIdx n) 3 v d → Completes s (.tmCompare w n v) (fun r =>
      regN r (timerKey n.val 3) = maskClear (regN s (timerKey n.val 3)) (checkWrite s d (timerIdx n) 3 v.toNat).mask ||| v.toNat ∧
      KeepsEntries [timerKey n.val 3] s r ∧ SameBut [.timers, .reports, .power] s r))

/-- R361 to R367: a new function or owner of a pin starts a handover in which the pad keeps what drives it; its end gives the pad to the function; an edge that a detector looks for
asserts the pin's source; a pattern that holds long enough is matched and counted; a changed grant disables its unit.
It rests in part on choices of the model: log 86. -/
def Obligations.PinsAndPatterns : Prop :=
  (∀ (s : State) (w : Writer) (k : Fin 48) (v : Word) (d : DictRow) (new : Nat), StoreReaches s w 0x2101 k.val v d → d.acc = .rw →
    new = (maskClear (regN s (muxKey k.val)) (checkWrite s d 0x2101 k.val v.toNat).mask ||| v.toNat) →
    bits (regN s (muxKey k.val)) 0 3 ≠ bits new 0 3 ∨ (bits new 0 3 = 0 ∧ bits (regN s (muxKey k.val)) 3 4 ≠ bits new 3 4) →
    Completes s (.pinMux w k v) (fun r => regN r (muxKey k.val) = new ∧ padDrive r k.val = padDrive s k.val ∧
      (mapGet (fun _ => none) s.pins.hand k.val = none → (mapGet (fun _ => none) r.pins.hand k.val).map (fun h => (h.mux, h.next)) = some (new, [])) ∧
      (∀ h, mapGet (fun _ => none) s.pins.hand k.val = some h → mapGet (fun _ => none) r.pins.hand k.val = some { h with next := h.next ++ [new] }) ∧
      r.pins.out = s.pins.out ∧ r.pins.ext = s.pins.ext ∧ SameBut [.pins, .reports, .power] s r)) ∧
  (∀ (s : State) (k : Fin 48) (h : PadHold), mapGet (fun _ => none) s.pins.hand k.val = some h →
    Completes s (.pinHandoverEnd k) (fun r =>
      (h.next = [] → mapGet (fun _ => none) r.pins.hand k.val = none ∧
        (s.sec.ir ≠ 3 → padDrive r k.val = muxDrive s k.val (regN s (muxKey k.val)))) ∧
      (∀ v rest, h.next = v :: rest → (mapGet (fun _ => none) r.pins.hand k.val).map (fun h => (h.mux, h.next)) = some (v, rest) ∧
        (s.sec.ir ≠ 3 → padDrive r k.val = muxDrive s k.val h.mux)) ∧ SameBut [.pins, .reports] s r)) ∧
  (∀ (s : State) (w : Writer) (k : Fin 48) (v : Word) (d : DictRow), StoreReaches s w 0x2102 k.val v d → d.acc = .rw →
    Completes s (.pinCfg w k v) (fun r =>
      regN r (pinKey k.val) = maskClear (regN s (pinKey k.val)) (checkWrite s d 0x2102 k.val v.toNat).mask ||| v.toNat ∧ r.pins = s.pins ∧
      SameBut [.reports, .power] s r)) ∧
  (∀ (s : State) (k : Fin 48) (level : Bool), Completes s (.pinDetect k level) (fun r => bitAt r.pins.ext k.val = level ∧
    (∀ j, j ≠ k.val → bitAt r.pins.ext j = bitAt s.pins.ext j) ∧
    (padDrive s k.val = none → padLevel r k.val = level ∧
      (bits (regN s (pinKey k.val)) 4 3 = 3 ∨ bits (regN s (pinKey k.val)) 4 3 = 5 → bitAt s.pins.ext k.val = false → level = true →
        Asserted s (592 + k.val) r) ∧
      (bits (regN s (pinKey k.val)) 4 3 = 4 ∨ bits (regN s (pinKey k.val)) 4 3 = 5 → bitAt s.pins.ext k.val = true → level = false →
        Asserted s (592 + k.val) r)) ∧ SameBut [.pins, .reports] s r)) ∧
  (∀ (s : State) (u : Fin 4), domainOn s 8 = true → patOn s u.val = true → patM s u.val = true → flag s (patKey u.val 5) 0 = false →
    Completes s (.patternMatch u) (fun r => flag r (patKey u.val 5) 0 = true ∧ regGet r (patKey u.val 6) = regGet s (patKey u.val 6) + 1#32 ∧
      KeepsEntries [patKey u.val 5, patKey u.val 6, kMerged] s r ∧ SameBut [.reports] s r)) ∧
  (∀ (s : State) (w : Writer) (v : Word) (d : DictRow) (u : Fin 4) (new : Nat), StoreReaches s w 0x2100 3 v d → d.acc = .rw →
    new = (maskClear (regN s (entryKey 0x2100 3)) (checkWrite s d 0x2100 3 v.toNat).mask ||| v.toNat) →
    Completes s (.patGrant w v) (fun r => regN r (entryKey 0x2100 3) = new ∧
      (bits new (4 * u.val) 4 ≠ patOwner s u.val → flag r (patKey u.val 1) 0 = false ∧ flag r (patKey u.val 5) 0 = false) ∧
      (bits new (4 * u.val) 4 = patOwner s u.val → regGet r (patKey u.val 1) = regGet s (patKey u.val 1)) ∧ SameBut [.reports, .power] s r))

/-! ### Audio -/

/-- R374, R377, R378, R380: an arm latches the configuration of an idle voice; a start plays it from sample 0, with the samples of an arm of the same configuration; a stop
fades a playing voice; data that arrives fills the buffer; a failing request stops the voice with the address. A start accepted 50 µs or more before it sounds fetches
its samples, and goes on playing or fades where a fetch fails.
It rests in part on choices of the model: logs 13 and 74. -/
def Obligations.VoiceCommands : Prop :=
  ∀ (s : State) (arg : Word) (v : Nat), audOn s = true → v = bits arg.toNat 0 6 → v < voiceCount s.variant →
    (voiceCfgOk (voiceCfg s v) = true → (voiceOf s v).st = 0 → Completes s (.voiceArm arg) (fun r => (voiceOf r v).st = 1 ∧
      (voiceOf r v).cfg = voiceCfg s v ∧ (voiceOf r v).buf = [] ∧ (voiceOf r v).i = 0 ∧ SameBut [.audio, .reports] s r)) ∧
    ((voiceOf s v).st ≠ 0 → Completes s (.voiceArm arg) (fun r => r.aud = s.aud ∧ SameBut [.reports] s r)) ∧
    (∀ accepted : BitVec 64, voiceCfgOk (voiceCfg s v) = true → accepted.toNat + 50000 ≤ s.tb.ns → (voiceOf s v).st < 2 →
      Completes s (.voiceStart arg accepted) (fun r => (voiceOf r v).st = 2 ∨ (voiceOf r v).st = 3) ∧
      Completes s (.voiceStart arg accepted) (fun r => (voiceOf r v).cfg = voiceCfg s v ∧ SameBut [.audio, .requests, .free, .reports] s r)) ∧
    (∀ accepted : BitVec 64, voiceCfgOk (voiceCfg s v) = true → s.tb.ns < accepted.toNat + 50000 → (voiceOf s v).st < 2 →
      Completes s (.voiceStart arg accepted) (fun r => (voiceOf r v).st = 2 ∧ SameBut [.audio, .reports] s r ∧
        ((voiceOf s v).st = 1 → (voiceOf s v).cfg = voiceCfg s v → voiceOf r v = { voiceOf s v with st := 2 }) ∧
        ((voiceOf s v).st = 0 → (voiceOf r v).cfg = voiceCfg s v ∧ (voiceOf r v).i = 0 ∧ (voiceOf r v).buf = []))) ∧
    (∀ accepted : BitVec 64, voiceCfgOk (voiceCfg s v) = true → 2 ≤ (voiceOf s v).st → Completes s (.voiceStart arg accepted) (fun r =>
      voiceOf r v = { voiceOf s v with st := 3, fade := some ((voiceOf s v).fade.getD 0), again := some (voiceCfg s v, accepted.toNat) } ∧
      SameBut [.audio, .reports] s r)) ∧
    (bitAt arg.toNat 8 = false → Completes s (.voiceStop arg) (fun r => SameBut [.audio, .reports] s r ∧
      ((voiceOf s v).st = 1 → (voiceOf r v).st = 0) ∧ ((voiceOf s v).st = 2 → voiceOf r v = { voiceOf s v with st := 3, fade := some 0 }) ∧
      ((voiceOf s v).st = 3 → voiceOf r v = { voiceOf s v with again := none }))) ∧
    (bitAt arg.toNat 8 = true → (voiceOf s v).st = 2 → Completes s (.voiceStop arg) (fun r => SameBut [.audio, .reports] s r ∧
      (voiceOf r v).st = 2 ∧ (voiceOf r v).loops = 0 ∧ (voiceOf r v).i = (voiceOf s v).i)) ∧
    (∀ (k : Fin 48) (y : Voice), k.val = v → (voiceOf s v).st ≠ 0 → fetchOne s (voiceOf s v) = .ok y → Completes s (.voiceFetchReturn k) (fun r =>
      voiceOf r v = y ∧ SameBut [.audio, .requests, .free, .reports] s r)) ∧
    (∀ (k : Fin 48) (a : Nat), k.val = v → (voiceOf s v).st ≠ 0 → fetchEnded (fetchWrap (voiceOf s v)) = false →
      a = fetchAddr (fetchWrap (voiceOf s v)).cfg (fetchWrap (voiceOf s v)).fIdx → a < 2 ^ 40 → Completes s (.voiceFetchError k) (fun r =>
        flag r kAudFlags 0 = true ∧ pairN r (entryKey 0x2400 7) (entryKey 0x2400 8) = a ∧ SameBut [.audio, .reports] s r ∧
        (voiceOf r v).st = if (voiceOf s v).st = 1 then 0 else 3))

/-- R374, R381, R388, R389: tones start from their entries and stop by a fade; GAIN and ROUTE set the target of their source; a mark is left with source 264; a gain steps
at its timeout. -/
def Sys2Proof.Claims.AudioCommands : Prop :=
  ∀ s : State, audOn s = true →
    (∀ arg g, g = bits arg.toNat 0 4 → Completes s (.toneStart arg) (fun r => toneOf r g = { on := true, words :=
        [regN s (entryKey 0x240A g), regN s (entryKey 0x240B g), regN s (entryKey 0x240C g), regN s (entryKey 0x240D g)] } ∧
      (∀ m, m ≠ g → toneOf r m = toneOf s m) ∧ SameBut [.audio] s r)) ∧
    (∀ arg g, g = bits arg.toNat 0 4 → Completes s (.toneStop arg) (fun r =>
      toneOf r g = (if (toneOf s g).on = true ∧ (toneOf s g).fade = none then { toneOf s g with fade := some 0 } else toneOf s g) ∧ (∀ m, m ≠ g → toneOf r m = toneOf s m) ∧ SameBut [.audio] s r)) ∧
    (∀ arg src, src = bits arg.toNat 0 7 → sourceExists s src = true → Completes s (.gain arg) (fun r =>
      regN r (entryKey 0x2408 src) = bits arg.toNat 16 16 ∧ KeepsEntries [entryKey 0x2408 src] s r ∧ SameBut [.reports] s r)) ∧
    (∀ arg src, src = bits arg.toNat 0 7 → sourceExists s src = true → bits arg.toNat 8 4 < 8 ∨ bits arg.toNat 8 4 = 15 → Completes s (.route arg) (fun r =>
      regN r (entryKey 0x2409 src) = bits arg.toNat 8 4 ∧ KeepsEntries [entryKey 0x2409 src] s r ∧ SameBut [.reports] s r)) ∧
    (∀ arg, Completes s (.audMark arg) (fun r => regN r (entryKey 0x2400 6) = bits arg.toNat 0 16 ∧ Asserted s 264 r ∧
      KeepsEntries [entryKey 0x2400 6, kMerged] s r ∧ SameBut [.reports] s r)) ∧
    (∀ g : Fin 96, (gainOf s g.val).since.isSome = true → Completes s (.gainZcTimeout g) (fun r =>
      gainOf r g.val = ⟨regN s (gainEntry g.val), none, (gainOf s g.val).prev⟩ ∧
      regGet r (entryKey 0x2400 0x0B) = regGet s (entryKey 0x2400 0x0B) + 1#32 ∧ SameBut [.audio, .reports] s r))

namespace Sys2Proof.Claims

/-- The number of the next sample boundary (R371, R372): one on, or that of the time base at the start and in the middle of a resynchronisation. -/
def boundaryNumber (s : State) : Nat :=
  if s.aud.resync = some 32 then dueBoundary s.tb.ns else (s.aud.k.map (· + 1)).getD (dueBoundary s.tb.ns)

end Sys2Proof.Claims

/-- R371, R372, R373, R375: a push waits at the queue's end; a boundary is numbered one on, takes the commands that are due out of the queue and leaves the others; a time
base that comes back at another boundary starts a resynchronisation. -/
def Sys2Proof.Claims.AudioBoundaries : Prop :=
  (∀ (s : State) (stamp : BitVec 64) (arg : Word) (code : Byte), engineOn s 16 = true → audFull s = false →
    Completes s (.aqPush stamp arg code) (fun r => SameBut [.audio, .reports] s r ∧
      r.aud = { s.aud with queue := s.aud.queue ++ [⟨if stamp = 0#64 then none else some (dueBoundary stamp.toNat), arg.toNat, code.toNat, s.tb.ns⟩] } ∧
      regGet r (entryKey 0x2400 0x0D) = if cmdRsvd code.toNat arg.toNat then regGet s (entryKey 0x2400 0x0D) + 1#32 else regGet s (entryKey 0x2400 0x0D))) ∧
  (∀ (s : State) (k : Nat), audOn s = true →
    k = boundaryNumber s → Completes s .sampleBoundary (fun r =>
      r.aud.k = some k ∧ r.aud.queue = s.aud.queue.filter (fun c => !(cmdDue s k c)) ∧
      r.aud.resync = (s.aud.resync.bind (fun i => if 63 ≤ i then none else some (i + 1))) ∧
      regN r (entryKey 0x2400 4) = k % 2 ^ 32 ∧ r.mem = s.mem ∧ r.ss = s.ss ∧ r.cores = s.cores)) ∧
  (∀ (s : State) (k : Nat), audOn s = true → engineOn s 7 = true → s.tb.sync = true ∨ s.tb.gm = true → s.aud.resync = none → s.aud.k = some k →
    k + 1 < dueBoundary s.tb.ns ∨ dueBoundary s.tb.ns + 1 < k →
    Completes s .audioResync (fun r => r.aud = { s.aud with resync := some 0 } ∧ SameBut [.audio] s r))

/-- R383, R384, R391, R414: a slave port that loses FS says so once and measures its rate anew when it returns; a change of TDM_CFG stops its port until its restart; a paging
message in time joins the samples of its stream.
It rests in part on choices of the model: log 14. -/
def Obligations.TdmAndPaging : Prop :=
  (∀ (s : State) (n : Fin 2), audOn s = true → bitAt (Machine.tdmCfg s n.val) 0 = true → bitAt (Machine.tdmCfg s n.val) 2 = false →
    (tdmOf s n.val).lost = false → Completes s (.tdmFsLoss n) (fun r => tdmOf r n.val = { tdmOf s n.val with lost := true } ∧
      flag r kAudFlags 4 = true ∧ KeepsEntries [kAudFlags, kMerged] s r ∧ SameBut [.audio, .reports] s r)) ∧
  (∀ (s : State) (n : Fin 2) (rate : Nat), audOn s = true → (tdmOf s n.val).lost = true → 8000 ≤ rate → rate ≤ 96000 →
    Completes s (.tdmFsReturn n rate) (fun r => tdmOf r n.val = { tdmOf s n.val with lost := false, rate := rate } ∧ SameBut [.audio] s r)) ∧
  (∀ (s : State) (w : Writer) (n : Fin 2) (v : Word) (d : DictRow) (new : Nat), StoreReaches s w 0x2415 n.val v d → d.acc = .rw →
    new = (maskClear (Machine.tdmCfg s n.val) (checkWrite s d 0x2415 n.val v.toNat).mask ||| v.toNat) → new ≠ Machine.tdmCfg s n.val →
    Completes s (.tdmCfg w n v) (fun r => Machine.tdmCfg r n.val = new ∧ 0 < (tdmOf r n.val).wait ∧ tdmRuns r n.val = false ∧
      (∀ m, m ≠ n.val → tdmOf r m = tdmOf s m) ∧ SameBut [.audio, .pins, .reports, .power] s r)) ∧
  (∀ (s : State) (h : CopHdr) (p : Fin 4) (stream rate time : Nat) (samples : List Nat), rate ≤ 2 → samples ≠ [] → samples.length ≤ 480 → audOn s = true →
    flag s (entryKey 0x2417 p.val) 16 = true → fld s (entryKey 0x2417 p.val) 0 16 = stream →
    s.aud.k.getD 0 < dueBoundary (time + regN s (entryKey 0x2418 p.val) * 62500 / 3) → (pageOf s p.val).buf.length + samples.length ≤ 4096 →
    Completes s (.paging h stream rate time samples) (fun r => (pageOf r p.val).buf = (pageOf s p.val).buf ++ samples.zipIdx.map (fun e =>
      (dueBoundary (time + regN s (entryKey 0x2418 p.val) * 62500 / 3) + pageSpace rate * e.2, pageSpace rate, toSigned 16 e.1 * 256)) ∧
      r.mem = s.mem ∧ r.ss = s.ss ∧ r.cores = s.cores))

/-! ### The network -/

/-- R395, R402, R403, R405: a bad frame is dropped; an untagged unicast frame for another device leaves by the other port and its sender is learned; a host transfer takes
the oldest message that waits for it; the oldest owed reply is sent under the next SEQ.
It rests in part on choices of the model: logs 67 and 91. -/
def Obligations.FramesAndReplies : Prop :=
  (∀ (s : State) (k : Fin 2) (f : List Byte) (own : Bool), Completes s (.ethFrameRx k f false own) (fun r => r = s)) ∧
  (∀ (s : State) (k : Fin 2) (f : List Byte), engineOn s 7 = true → flag s (entryKey 0x21C0 1) 0 = true → flag s (entryKey 0x21C0 1) 1 = true →
    14 ≤ f.length → ofBytesBE ((f.drop 12).take 2) ≠ 0x8100 → bitAt (ofBytes (f.take 1)) 0 = false → bitAt (ofBytes ((f.drop 6).take 1)) 0 = false →
    vlanEntry s (fun v => bitAt v (12 + k.val)) = none → s.net.macs = [] →
    Completes s (.ethFrameRx k f true false) (fun r => r.net.lastForward = some (1 - k.val, 0, f) ∧
      r.net.macs = [(ofBytesBE ((f.drop 6).take 6), k.val)] ∧ SameBut [.net, .reports] s r)) ∧
  (∀ (s : State) (m : List Byte) (rest : List (List Byte)), domainOn s 24 = true → s.net.spiOut = m :: rest →
    Completes s (.spiHostFrame (hostFrame [])) (fun r => r.net.toHost = some (hostFrame m) ∧ r.net.spiOut = rest ∧ SameBut [.net] s r)) ∧
  (∀ (s : State) (m : OutMsg) (rest : List OutMsg), s.net.replies = m :: rest → seqWaits s = false → m.reply = false ∨ m.typ ≠ 2 ∨ s.ic.waiting = [] →
    (∀ k, m.path = .port k → engineOn s 7 = true → Completes s .copReplySend (fun r => r.net.replies = rest ∧
      r.net.lastSent = some { m with seq := regN s kCopSeq } ∧ regGet r kCopSeq = regGet s kCopSeq + 1#32 ∧ r.mem.sram = s.mem.sram ∧ r.ss = s.ss)) ∧
    (m.path = .spi → s.net.spiOut.length < 8 → Completes s .copReplySend (fun r => r.net.replies = rest ∧
      r.net.spiOut = s.net.spiOut ++ [copBytes s { m with seq := regN s kCopSeq }] ∧ regGet r kCopSeq = regGet s kCopSeq + 1#32 ∧
      r.mem.sram = s.mem.sram ∧ r.ss = s.ss)) ∧
    (∀ p q, m.path = .proc p → openReq s p.val m.tag = some q → Completes s .copReplySend (fun r => r.net.replies = rest ∧
      { q with state := 3, status := if q.cap < (copBytes s { m with seq := regN s kCopSeq }).length then 10 else m.status } ∈ r.net.reqs ∧
      regGet r kCopSeq = regGet s kCopSeq + 1#32 ∧ r.ss = s.ss)))

/-- R411: a transfer opens in either direction when no check refuses it; its segments are kept in order and others discarded; a transfer from the device ends with its last acknowledgement, resends
from the last NEXT, and is given up at its timeout.
It rests in part on choices of the model: logs 35, 62 and 63. -/
def Obligations.SegmentedTransfers : Prop :=
  (∀ (s : State) (h : CopHdr) (idx sub total crc : Nat), segStatus (copReceived s h) h idx sub 0 = 0 →
    Completes s (.segStart h idx sub 0 total crc) (fun r =>
      r.net.transfers = s.net.transfers ++ [⟨h, idx, sub, false, total, crc, 0, 0, []⟩] ∧ r.mem = s.mem ∧ r.ss = s.ss)) ∧
  (∀ (s : State) (h : CopHdr) (idx sub total crc : Nat) (d : DictRow) (b : List Byte), segStatus (copReceived s h) h idx sub 1 = 0 →
    dictRow? idx sub = some d → b = (if d.acc = .wo then [] else entryBytes (copReceived s h) idx sub) →
    Completes s (.segStart h idx sub 1 total crc) (fun r =>
      r.net.transfers = s.net.transfers ++ (if b = [] then [] else [⟨h, idx, sub, true, b.length, crc32 b, 0, 0, b⟩]) ∧ r.mem.ext = s.mem.ext ∧
      r.ss = s.ss)) ∧
  (∀ (s : State) (h : CopHdr) (t : Transfer) (b : List Byte), s.net.transfers = [t] → sameTransfer t h = true → t.fromDevice = false → isLocal h.path = false →
    t.next = t.data.length → b ≠ [] → b.length ≤ 1024 →
    (t.data.length + b.length < t.total → t.unacked < 7 → Completes s (.segData h t.next b) (fun r =>
      r.net.transfers = [{ t with data := t.data ++ b, next := t.data.length + b.length, unacked := t.unacked + 1 }] ∧ r.mem = s.mem ∧
      r.net.lastSent = s.net.lastSent)) ∧
    (∀ off, off ≠ t.next → Completes s (.segData h off b) (fun r => r.net.transfers = [{ t with unacked := 0 }] ∧ r.mem.sram = s.mem.sram ∧ r.ss = s.ss))) ∧
  (∀ (s : State) (h : CopHdr) (t : Transfer) (next : Nat), s.net.transfers = [t] → sameTransfer t h = true → t.fromDevice = true → isLocal h.path = false →
    t.next ≤ t.total → t.total ≤ next → Completes s (.segAck h next) (fun r => r.net.transfers = [] ∧ r.mem = s.mem ∧ r.ss = s.ss)) ∧
  (∀ (s : State) (i : Nat) (t : Transfer) (k : Fin 2), engineOn s 7 = true → s.net.transfers[i]? = some t → t.fromDevice = true → t.hdr.path = .port k →
    t.next < t.total → t.total ≤ t.next + 1024 → seqWaits s = false → Completes s (.segResend i) (fun r => r.net.transfers = s.net.transfers ∧
      r.net.lastSent = some ⟨.port k, 0, t.hdr.src, 6, false, t.hdr.tag, t.hdr.key, regN s kCopSeq, 0, segment t t.next⟩ ∧ r.mem.sram = s.mem.sram)) ∧
  (∀ (s : State) (i : Nat) (t : Transfer), s.net.transfers[i]? = some t → isLocal t.hdr.path = false → Completes s (.segTimeout i) (fun r =>
    (∀ u ∈ r.net.transfers, sameTransfer u t.hdr = false) ∧ (∀ u ∈ s.net.transfers, sameTransfer u t.hdr = false → u ∈ r.net.transfers) ∧
    r.net.replies.map OutMsg.status = s.net.replies.map OutMsg.status ++ [11] ∧ SameBut [.net] s r))

/-- R412, R413, R418: a sampled entry that changed is sent once its interval has passed; a save is a long operation that reports its progress and, when it ends, has kept every
saved entry of the domains that are on.
It rests in part on choices of the model: logs 68 and 69. -/
def Obligations.EventsAndSaves : Prop :=
  (∀ (s : State) (n : Fin 64) (d : DictRow) (v : Nat), subRuns s n.val false = true →
    reachStatus s (subTarget s n.val % 65536) (bits (subTarget s n.val) 16 8) false = 0 →
    dictRow? (subTarget s n.val % 65536) (bits (subTarget s n.val) 16 8) = some d → isBytes d.typ = false →
    v = ofBytes (valueBytes d.typ (entryValue s d (subTarget s n.val % 65536) (bits (subTarget s n.val) 16 8))) →
    ((subOf s n.val).last = some v → Completes s (.subSample n) (fun r => r = s)) ∧
    ((subOf s n.val).last ≠ some v → subReady s n.val = true → Completes s (.subSample n) (fun r =>
      subOf r n.val = { last := some v, lastTime := some s.tb.ns } ∧ (∀ m, m ≠ n.val → subOf r m = subOf s m) ∧
      (engineOn s 7 = true → seqWaits s = false → ∃ body, r.net.lastSent = some ⟨.port 0, bits (subDest s n.val) 12 2, bits (subDest s n.val) 0 12, 4,
        false, 0, none, regN s kCopSeq, 0, body⟩) ∧ r.mem.sram = s.mem.sram))) ∧
  (∀ (s : State) (w : Writer) (v : Word) (d : DictRow), StoreReaches s w 0x1200 2 v d → v.toNat % 2 = 1 → s.net.lop = none →
    Completes s (.dictSave w v) (fun r => r.net = { s.net with lop := some ⟨6, 1, none, 0, []⟩ } ∧ regN r (kLop 4) = 1 ∧ regN r (kLop 3) = 0 ∧
      KeepsEntries [kLop 1, kLop 2, kLop 3, kLop 4, kLop 5] s r ∧ SameBut [.net, .reports] s r)) ∧
  (∀ (s : State) (l : LongOp) (value : Nat), s.net.lop = some l → l.progress = none → Completes s (.progressSend value) (fun r =>
    regN r (kLop 3) = value % 2 ^ 32 ∧ KeepsEntries [kLop 3] s r ∧ SameBut [.reports] s r)) ∧
  (∀ (s : State) (l : LongOp) (status : Nat), s.net.lop = some l → l.progress = none → l.op = 6 → l.data = [] → keysRise s.dict = true →
    Completes s (.lopDone status) (fun r => r.net.lop = none ∧ regN r (kLop 5) = status % 2 ^ 32 ∧
      (status = 0 → regN r (kLop 4) = 2 ∧ regN r (kLop 3) = 100 ∧ ∀ k, savedNow s k = true → mapGet dictReset r.saved k = regGet s k) ∧
      (status ≠ 0 → regN r (kLop 4) = 3 ∧ r.saved = s.saved) ∧ SameBut [.net, .saved, .reports] s r))

/-- R398 to R401, R486: a Sync of the best master corrects the time base: a small offset is taken and synchronises, a larger one steps it while it is not synchronised and ends
the synchronisation while it is; a lost master leaves holdover or makes the device grandmaster; a grandmaster's time is written, sent, and marked at each whole second.
It rests in part on choices of the model: log 73. -/
def Obligations.TimeBaseRules : Prop :=
  (∀ (s : State) (k : Fin 2) (offset : Int) (hops : Nat), engineOn s 7 = true → flag s (entryKey 0x21C0 1) k.val = true →
    Completes s (.tbSyncRx k true offset hops) (fun r => r.tb.gm = false ∧ regN r (entryKey 0x21C2 5) = ofSigned 32 offset ∧
      regN r (entryKey 0x21C2 6) = hops % 256 ∧ r.mem = s.mem ∧
      (offset.natAbs < 1000 ∨ s.tb.sync = false → r.tb.sync = true ∧ r.tb.ns = ((s.tb.ns : Int) - offset).toNat % 2 ^ 64) ∧
      (s.tb.sync = true → 1000 ≤ offset.natAbs → r.tb.sync = false ∧ r.tb.ns = s.tb.ns ∧ flag r kNetFlags 0 = true) ∧
      (s.tb.sync = false → 1000 < offset.natAbs → flag r kNetFlags 1 = true))) ∧
  (∀ (s : State) (win : Bool), engineOn s 7 = true → s.tb.gm = false → Completes s (.tbLost win) (fun r => r.tb.gm = win ∧ r.tb.sync = win ∧
    r.tb.ns = s.tb.ns ∧ (s.tb.sync = true → flag r kNetFlags 0 = true) ∧ SameBut [.timeBase, .raster, .reports] s r)) ∧
  (∀ (s : State) (w : Writer) (lo hi : Word) (d e : DictRow), StoreReaches s w 0x21C0 0x0A lo d →
    StoreReaches (setN s (entryKey 0x21C0 0x0A) lo.toNat) w 0x21C0 0x0B hi e → s.tb.gm = true ∨ domainOn s 7 = false →
    Completes s (.netTbSet w lo hi) (fun r => r.tb = { s.tb with ns := lo.toNat + 2 ^ 32 * hi.toNat, frac := 0 } ∧
      SameBut [.timeBase, .raster, .timers, .reports] s r)) ∧
  (∀ s : State, engineOn s 7 = true → s.tb.gm = true → flag s (entryKey 0x21C0 1) 1 = true → Completes s .syncInterval (fun r =>
    r.net.lastForward = some (1, 7, toBytes 8 s.tb.ns) ∧ SameBut [.net] s r)) ∧
  (∀ s : State, engineOn s 7 = true → Completes s .tbPps (fun r => bitAt r.pins.func 7 = true ∧ r.pins.ppsUntil = s.tb.ns + 100000000 ∧
    r.pins.out = s.pins.out ∧ SameBut [.pins, .reports] s r))

/-- R395, R396, R421, R422: polling asks the devices of its range in turn and files their answers; a raw frame fills its slot and asserts source 120, one that is sent frees it and
asserts 121; links, gates and learned addresses follow their events.
It rests in part on choices of the model: logs 32 and 69. -/
def Obligations.PollingAndRawRings : Prop :=
  (∀ s : State, polls s = true → seqWaits s = false → Completes s .pollSend (fun r =>
    let lo := fld s (entryKey 0x1201 2) 0 12
    let hi := fld s (entryKey 0x1201 2) 16 12
    let d := if s.net.pollNext < lo ∨ hi < s.net.pollNext then lo else s.net.pollNext
    r.net.pollNext = (if d = hi then lo else d + 1) ∧ (∃ body, r.net.lastSent = some ⟨.port 0, 0, d, 1, false, d, none, regN s kCopSeq, 0, body⟩) ∧
    pollAge r d = min 255 (pollAge s d) + 1 ∧ r.ss = s.ss)) ∧
  (∀ (s : State) (d status value : Nat), polls s = true → fld s (entryKey 0x1201 2) 0 12 ≤ d → d ≤ fld s (entryKey 0x1201 2) 16 12 →
    Completes s (.pollReply d status value) (fun r => sramWord r (pollRecord s d) = status % 256 ∧ sramWord r (pollRecord s d + 4) = value % 2 ^ 32 ∧
      pollAge r d = 1 ∧ SameBut [.net, .memory] s r)) ∧
  (∀ (s : State) (f : List Byte) (a : Nat), engineOn s 7 = true → f.length ≤ 1518 → a = rawSlot s 0x0E (s.net.rawRx % rawSlots s 0x0E) →
    bitAt (sramWord s a) 31 = false → Completes s (.rawRx f) (fun r => sramWord r a = f.length + 2 ^ 31 ∧
      readBytes sramSize r.mem.sram (a + 4) f.length = f ∧ r.net = { s.net with rawRx := (s.net.rawRx % rawSlots s 0x0E + 1) % rawSlots s 0x0E } ∧
      Asserted s 120 r ∧ SameBut [.net, .memory, .reports] s r)) ∧
  (∀ (s : State) (a : Nat), engineOn s 7 = true → a = rawSlot s 0x0F (s.net.rawTx % rawSlots s 0x0F) → bitAt (sramWord s a) 31 = true →
    Completes s .rawTxDone (fun r => sramWord r a = sramWord s a - 2 ^ 31 ∧
      r.net.lastForward = some (2, 0, readBytes sramSize s.mem.sram (a + 4) (bits (sramWord s a) 0 11)) ∧ Asserted s 121 r ∧
      SameBut [.net, .memory, .reports] s r)) ∧
  (∀ (s : State) (k : Fin 2) (up : Bool) (speed : Nat), engineOn s 7 = true → Completes s (.linkChange k up speed) (fun r =>
    flag r (entryKey 0x21C2 1) k.val = up ∧ fld r (entryKey 0x21C2 1) (2 + 2 * k.val) 2 = (if up then speed % 4 else 0) ∧ flag r kNetFlags 6 = true ∧
    KeepsEntries [entryKey 0x21C2 1, kNetFlags, kMerged] s r ∧ SameBut [.reports] s r)) ∧
  (∀ (s : State) (k : Fin 2), engineOn s 7 = true → flag s (entryKey 0x21C0 0x0D) k.val = true → Completes s (.gateControlEntry k) (fun r =>
    mapGet (fun _ => 0) r.net.gate k.val = (mapGet (fun _ => 0) s.net.gate k.val + 1) % (fld s (entryKey 0x21C0 0x0D) (8 + 8 * k.val) 6 + 1) ∧
    SameBut [.net] s r)) ∧
  (∀ (s : State) (mac : BitVec 48), Completes s (.addressAgeing mac) (fun r => (∀ e, e ∈ r.net.macs ↔ e ∈ s.net.macs ∧ e.1 ≠ mac.toNat) ∧ SameBut [.net] s r))

/-- R480, R481: a request to an application entry enters service by its record and doorbell, or waits behind the one in service; APP_DONE and the timeout answer it.
It rests in part on choices of the model: log 70. -/
def Obligations.ApplicationRequests : Prop :=
  (∀ (s : State) (q : AppReq) (p : Nat), appHandler s q.idx = some p → appServes s p = true → selfRequest q p = false → q.values.length ≤ 64 →
    ((appOf s p).cur = none → Completes s (.appRequest q) (fun r => (appOf r p).cur = some { q with record := appRecord s p } ∧
      (appOf r p).queue = (appOf s p).queue ∧ Asserted s (768 + fld s (entryKey 0x1230 p) 16 8) r ∧
      sramWord r (appRecord s p) = (q.idx + 65536 * q.sub + 2 ^ 24 * q.count + if q.write then 2 ^ 31 else 0) % 2 ^ 32 ∧
      SameBut [.net, .memory, .reports] s r)) ∧
    (∀ c, (appOf s p).cur = some c → (appOf s p).queue.length < 8 → Completes s (.appRequest q) (fun r =>
      appOf r p = { appOf s p with queue := (appOf s p).queue ++ [q] } ∧ SameBut [.net] s r))) ∧
  (∀ (s : State) (p : Fin 9) (q : AppReq) (d : DictRow), (appOf s p.val).cur = some q → (appOf s p.val).queue = [] → q.hdr.replyReq = true →
    (StoreReaches s (.proc p) 0x1232 p.val 1#32 d → Completes s (.appDone p) (fun r => (appOf r p.val).cur = none ∧
      r.net.replies.map OutMsg.status = s.net.replies.map OutMsg.status ++ [if 13 ≤ bits (sramWord s (q.record + 4)) 0 8 then 9
        else bits (sramWord s (q.record + 4)) 0 8] ∧ SameBut [.net] s r)) ∧
    Completes s (.appTimeout p) (fun r => (appOf r p.val).cur = none ∧ r.net.replies.map OutMsg.status = s.net.replies.map OutMsg.status ++ [3] ∧
      regGet r (entryKey 0x1232 0x10) = regGet s (entryKey 0x1232 0x10) + 1#32 ∧ SameBut [.net, .reports] s r))

/-! ### Bellmetal -/

/-- R220, R222 to R226, R219: a start reads the control rows and the identity, or notes what it cannot resolve; a verified image releases the legal core and any other
halts the partition with a record; the legal core's restart and the watchdog's expiry restart it.
It rests in part on choices of the model: logs 8 and 84. -/
def Obligations.PartitionStarts : Prop :=
  (∀ (s u : State) (p : SlotPtr), u = (if s.bm.state = bmOff then domainUp (domainUp s 4 false) 6 false else s) → domainOn u 4 = true → domainOn u 6 = true →
    u.bm.state = bmOff ∨ u.bm.state = bmRestarting → u.bm.ctl.marker = none → u.bm.ctl.intent = none → u.bm.ctl.tail = u.bm.ctl.head →
    (ctrValid u.bm.ctl.ctrA = true → u.bm.ctl.ctrB = u.bm.ctl.ctrA → u.bm.ctl.ptrA = some p → u.bm.ctl.ptrB = some p →
      Completes s .bmStart (fun r => r.bm.state = bmBooting ∧ r.bm.err = true ∧ Asserted u 304 r ∧ r.bm.hwFrames = true ∧ r.bm.bootFail = 0 ∧
        eventCounter r = eventCounter u ∧ r.bm.swId = mramBytes u (slotBase p.slot + 8) 16 ∧ (coreOf r 9).run = 0 ∧ r.bm.mram = u.bm.mram)) ∧
    (ctrValid u.bm.ctl.ctrA = false → ctrValid u.bm.ctl.ctrB = false → Completes s .bmStart (fun r => r.bm.state = bmBooting ∧ r.bm.bootFail = 2 ∧
      r.bm.hwFrames = true ∧ (coreOf r 9).run = 0 ∧ r.bm.mram = u.bm.mram))) ∧
  (∀ s : State, s.bm.state = bmBooting → s.bm.bootFail = 0 →
    (imgVerify s (activeSlot s) = 0 → Completes s .bmBootDone (fun r => r.bm.state = bmRunning ∧ (coreOf r 9).run = 1 ∧ (coreOf r 9).pc = 0 ∧
      r.bm.ctl.sealGen = (s.bm.ctl.sealGen + 1) % 2 ^ 32 ∧ Asserted s 304 r ∧ r.bm.mram = s.bm.mram ∧
      (∀ i, i < imgCode s (activeSlot s) → byteAt (coreOf r 9).iram i = byteAt s.bm.mram (slotBase (activeSlot s) + 64 + i)))) ∧
    (imgVerify s (activeSlot s) ≠ 0 → auditFree s ≠ 0 → Completes s .bmBootDone (fun r => r.bm.state = bmHalted ∧ r.bm.err = true ∧ Asserted s 304 r ∧
      r.bm.ctl.head = s.bm.ctl.head + 1 ∧ (coreOf r 9).run = (coreOf s 9).run ∧ ∀ c, c ≠ 9 → coreOf r c = coreOf s c))) ∧
  (∀ s : State, legalRuns s = true → Completes s .bmRestart (fun r => r.bm.state = bmRestarting ∧ r.bm.err = true ∧ r.bm.watchdog = 0 ∧
      (coreOf r 9).run = 0 ∧ Asserted s 304 r ∧ r.bm.ctl = s.bm.ctl ∧ r.bm.mram = s.bm.mram) ∧
    (∀ v, Completes s (.bmWatchdog v) (fun r => r.bm = { s.bm with watchdog := v.toNat % 256, wdHalf := false } ∧ SameBut [.bellmetal] s r)) ∧
    (s.bm.watchdog ≠ 0 → Completes s .watchdogHalf (fun r => r.bm = { s.bm with wdHalf := true } ∧ SameBut [.bellmetal] s r)) ∧
    (s.bm.watchdog ≠ 0 → auditFree s ≠ 0 → Completes s .watchdog (fun r => r.bm.state = bmRestarting ∧ r.bm.ctl.head = s.bm.ctl.head + 1 ∧
      (coreOf r 9).run = 0 ∧ Asserted s 304 r))) ∧
  (∀ s : State, domainOn s 4 = true → Completes s .clockFallback (fun r => r.bm = { s.bm with fallback := true } ∧ SameBut [.bellmetal] s r))

/-- R242, R243, R246: a session opens with its marker unless something bars it, which its result then says; closing a written one leaves a record, counts the event
once and advances the seal generation; closing an unwritten one leaves the counter; SEAL_SW opening ends a session.
It rests in part on choices of the model: log 23. -/
def Obligations.PartitionSessions : Prop :=
  ∀ s : State,
    (legalRuns s = true → ∀ typ, typ = 1 ∨ typ = 2 → Completes s (.bmSessionOpen typ) (fun r => SameBut [.bellmetal] s r ∧
      (sessionBar s = 0 → r.bm.sessionType = typ ∧ r.bm.ctl = { s.bm.ctl with marker := some (typ, false) } ∧ r.bm.sessionResult = 0) ∧
      (sessionBar s ≠ 0 → r.bm = { s.bm with sessionResult := sessionBar s }))) ∧
    (∀ typ written, legalRuns s = true → s.bm.sessionType ≠ 0 → s.bm.ctl.marker = some (typ, written) → auditFree s ≠ 0 → eventCounter s < 0xFFFFFFFF →
      Completes s .bmSessionClose (fun r => r.bm.sessionType = 0 ∧ r.bm.ctl.marker = none ∧ 27 ∈ r.bm.latched ∧
        (written = true → eventCounter r = eventCounter s + 1 ∧ r.bm.ctl.head = s.bm.ctl.head + 1 ∧
          r.bm.ctl.sealGen = (s.bm.ctl.sealGen + 1) % 2 ^ 32 ∧ Asserted s 307 r) ∧
        (written = false → r.bm.ctl = { s.bm.ctl with marker := none } ∧ r.bm.mram = s.bm.mram) ∧ SameBut [.bellmetal, .reports] s r)) ∧
    (∀ closed, domainOn s 4 = true → s.bm.sealClosed ≠ closed → Completes s (.sealSwChange closed) (fun r => r.bm.sealClosed = closed ∧
      24 ∈ r.bm.latched ∧ Asserted s 309 r ∧ (closed = false → s.bm.ctl.marker ≠ none → s.bm.sessionType ≠ 0 → r.bm.sessionType = 0) ∧
      SameBut [.bellmetal, .blobs, .reports] s r))

/-- R240, R245, R251: a legal commit notes its intent and verifies the other slot: a good image becomes the active one with a record and one more event and restarts
the partition, and any other is rolled back; re-verification mends a broken seal; freeing audit records moves the tail up to the head at most. -/
def Obligations.LegalCommitAndAudit : Prop :=
  ∀ s : State, legalRuns s = true →
    (sessionBar s = 0 → s.bm.lop = 0 → Completes s .bmFwCommit (fun r => r.bm.ctl = { s.bm.ctl with
      intent := some (1 - activeSlot s % 2, s.bm.checksum) } ∧ r.bm.lop = 2 ∧ r.bm.mram = s.bm.mram ∧ SameBut [.bellmetal, .reports] s r)) ∧
    (∀ slot oldSum, s.bm.ctl.intent = some (slot, oldSum) → commitPending s = false → auditFree s ≠ 0 → eventCounter s < 0xFFFFFFFF →
      (imgVerify s slot = 0 → Completes s .fwVerifyDone (fun r => r.bm.state = bmRestarting ∧ activeSlot r = slot ∧ r.bm.ctl.intent = none ∧
        eventCounter r = eventCounter s + 1 ∧ Asserted s 307 r ∧ (coreOf r 9).run = 0)) ∧
      (imgVerify s slot ≠ 0 → Completes s .fwVerifyDone (fun r => r.bm.state = bmRunning ∧ activeSlot r = activeSlot s ∧ r.bm.ctl.intent = none ∧
        eventCounter r = eventCounter s ∧ r.bm.lop = 0 ∧ Asserted s 310 r ∧ r.cores = s.cores))) ∧
    (s.bm.sealClosed = true → s.bm.lop = 0 → Completes s .bmReverify (fun r => r.bm = { s.bm with lop := 1, lopArg := 0 } ∧
      SameBut [.bellmetal, .reports] s r)) ∧
    (s.bm.lop = 1 → Completes s .reverifyDone (fun r => r.bm.lop = 0 ∧ Asserted s 310 r ∧ eventCounter r = eventCounter s ∧ r.cores = s.cores ∧
      (imgVerify s (activeSlot s) = 0 → paramsOk s = true → s.sec.fuses.lifecycle ≠ 3 → r.bm.ctl.broken = false) ∧
      (imgVerify s (activeSlot s) ≠ 0 → r.bm.ctl = s.bm.ctl))) ∧
    (∀ seq, s.bm.lop = 0 → Completes s (.bmAuditFree seq) (fun r => r.bm = { s.bm with lop := 4, lopArg := seq.toNat } ∧
      SameBut [.bellmetal, .reports] s r)) ∧
    (s.bm.lop = 4 → Completes s .compactionDone (fun r => r.bm.lop = 0 ∧ r.bm.ctl.tail = max s.bm.ctl.tail (min s.bm.lopArg s.bm.ctl.head) ∧
      Asserted s 310 r ∧ eventCounter r = eventCounter s ∧ r.cores = s.cores))

/-- R222, R237, R240, R241, R250, R255: the bank a request names is checked and then waits for its commit instant or is refused; release and identification wait for theirs;
mailbox messages move in and out with their sources; mirror signals take the values of the partition, when they are asked for and at every change. -/
def Obligations.PartitionDisplayAndMessages : Prop :=
  (∀ s : State, legalRuns s = true →
    (∀ v, s.bm.bankChecking = none → Completes s (.bmBank v) (fun r => r.bm = { s.bm with bankChecking := some (v.toNat % 2) } ∧
      SameBut [.bellmetal] s r)) ∧
    Completes s .bmErrRelease (fun r => r.bm = { s.bm with errRelease := true } ∧ SameBut [.bellmetal] s r) ∧
    Completes s (.idShow true) (fun r => r.bm = { s.bm with idRequest := true } ∧ SameBut [.bellmetal] s r) ∧
    Completes s .bmWake (fun r => 4 ∈ r.woken ∧ Asserted s 311 r ∧ r.bm = s.bm ∧ SameBut [.reports] s r) ∧
    (s.bm.inFull = true → Completes s .inDone (fun r => r.bm = { s.bm with inFull := false } ∧ Asserted s 306 r ∧ SameBut [.bellmetal, .reports] s r)) ∧
    (∀ len, Completes s (.outSend len) (fun r => r.bm = { s.bm with outValid := true, outLen := len % 512 } ∧ Asserted s 305 r ∧
      SameBut [.bellmetal, .reports] s r)) ∧
    (∀ (w : Word) (n : Nat), engineOn s 8 = true → n = bits s.bm.mirrorSel 0 6 → n < 48 → Completes s (.bmMirrorData w) (fun r =>
      stagOf r (262096 + n) = w.toNat % 2 ^ 25 ∧ dirtyOf r (262096 + n) = true ∧ attrOf r (262096 + n) = 0xE0 + bits s.bm.mirrorSel 8 5 ∧
      (∀ m, m ≠ 262096 + n → stagOf r m = stagOf s m ∧ attrOf r m = attrOf s m) ∧ r.bm = s.bm))) ∧
  (∀ (s : State) (bank : Nat), s.bm.bankChecking = some bank → Completes s .bankCheckDone (fun r => SameBut [.bellmetal] s r ∧
    r.bm = if bankRefusal s bank then { s.bm with bankChecking := none, bankRefused := true }
      else { s.bm with bankChecking := none, bankRefused := false, bankPending := some bank })) ∧
  (∀ s : State, s.bm.idRequest = false → Completes s .idTimeExpire (fun r => r.bm = { s.bm with idShowing := false } ∧ SameBut [.bellmetal] s r)) ∧
  (∀ (s : State) (temp : Int), domainOn s 4 = true → engineOn s 8 = true → eventCounter s < 2 ^ 32 → Completes s (.mirrorRefresh temp) (fun r =>
    r.bm = { s.bm with temp := temp, mirrored := r.bm.mirrored } ∧ stagOf r 262081 = eventCounter s % 65536 ∧ stagOf r 262082 = eventCounter s / 65536 ∧
    stagOf r 262083 = ofSigned 16 temp ∧ stagOf r 262080 = lglState s % 2 ^ 25 ∧
    (∀ n, n < loadCells s.variant → stagOf r (262084 + n) = chanMirror s n % 2 ^ 25))) ∧
  (∀ (s : State) (m : Nat × Nat × Nat), domainOn s 4 = true → engineOn s 8 = true → m ∈ mirrorWords s →
    mapGet (fun _ => 0) s.bm.mirrored m.1 ≠ m.2.1 + 1 → stagOf (bmSync s) m.1 = m.2.1 % 2 ^ 25) ∧
  (∀ (s : State) (h : CopHdr) (m : List Byte) (d : DictRow), dictRow? 0x24C2 1 = some d → reachStatus (copReceived s h) 0x24C2 1 true = 0 →
    mayWrite (copReceived s h) d 0x24C2 1 (.cop h.path) (h.key == some 0) = true → entryOffline (copReceived s h) 0x24C2 1 = false →
    s.bm.state ≠ bmOff → s.bm.inFull = false → 1 ≤ m.length → m.length ≤ 256 → Completes s (.lglMsgIn h m) (fun r => r.bm.inFull = true ∧
      r.bm.inLen = m.length ∧ mapGetMany memReset r.bm.inBox 0 m.length = m ∧ r.bm.ctl = s.bm.ctl ∧ r.cores = s.cores)) ∧
  (∀ (s : State) (w : Writer) (v : Word) (d : DictRow), StoreReaches s w 0x24C2 4 v d → v.toNat % 2 = 1 → s.bm.outValid = true →
    Completes s (.lglMsgOutAck w v) (fun r => r.bm.outValid = false ∧ 23 ∈ r.bm.latched ∧ SameBut [.bellmetal] s r))

/-- R231 to R235: calibrations, sweeps and coefficients of a load-cell channel whose front end is on; a sample without the filter is the input, negated while the excitation is
reversed, limited to 24 bits; reading takes the oldest sample.
It rests in part on choices of the model: logs 20 and 21. -/
def Obligations.LoadCells : Prop :=
  ∀ (s : State) (n : Fin 4), frontEnd s n.val = true →
    (calBusy s = false → Completes s (.calStart n) (fun r => chanOf r n.val = { chanOf s n.val with calibrating := true } ∧
      (∀ m, m ≠ n.val → chanOf r m = chanOf s m) ∧ SameBut [.bellmetal] s r)) ∧
    (calBusy s = true → Completes s (.calStart n) (fun r => bitAt (chanOf r n.val).sticky 14 = true ∧ SameBut [.bellmetal] s r)) ∧
    (∀ k, calBusy s = false → s.bm.lop = 0 → nextEnabled s 0 = some k → Completes s (.calSweep n) (fun r => r.bm.lop = 3 ∧
      chanOf r k = { chanOf s k with calibrating := true } ∧ (∀ m, m ≠ k → chanOf r m = chanOf s m) ∧ SameBut [.bellmetal, .reports] s r)) ∧
    (∀ v : Word, bits v.toNat 18 6 = 0 → bitAt v.toNat 30 = false → bits v.toNat 24 6 < 32 → Completes s (.firCoefWrite n v) (fun r =>
      firCoef (chanOf r n.val) (bits v.toNat 24 6) = toSigned 18 v.toNat ∧
      (∀ j, j ≠ bits v.toNat 24 6 → firCoef (chanOf r n.val) j = firCoef (chanOf s n.val) j) ∧ SameBut [.bellmetal] s r)) ∧
    (∀ ok, (chanOf s n.val).calibrating = true → s.bm.lop ≠ 3 → Completes s (.calDone n ok) (fun r => (chanOf r n.val).calibrating = false ∧
      filterSpan (chanOf s n.val) ≤ (chanOf r n.val).settle ∧ (ok = false → bitAt (chanOf r n.val).sticky 9 = true) ∧ 28 ∈ r.bm.latched ∧
      SameBut [.bellmetal] s r)) ∧
    (∀ (dec : Int) (ovr ref sup : Bool), bitAt (chanOf s n.val).cfg 0 = true → (chanOf s n.val).calibrating = false → bitAt (chanOf s n.val).cfg 9 = false →
      (chanOf s n.val).fifo.length ≤ 16 → Completes s (.lcSample n dec ovr ref sup) (fun r => (∃ w, (chanOf r n.val).fifo.getLast? = some w ∧
        bits w 0 24 = ofSigned 24 (clampInt (-8388608) 8388607 (if (chanOf s n.val).reversed then -dec else dec))) ∧
        (chanOf r n.val).fifo.length = min 16 ((chanOf s n.val).fifo.length + 1) ∧ SameBut [.bellmetal] s r)) ∧
    (bitAt (chanOf s n.val).cfg 0 = true → bits (chanOf s n.val).cfg 10 8 ≠ 0 → bits (chanOf s n.val).cfg 10 8 ≤ (chanOf s n.val).since →
      (chanOf s n.val).calibrating = false → Completes s (.excitationReversal n) (fun r => (chanOf r n.val).reversed = !(chanOf s n.val).reversed ∧
        (chanOf r n.val).since = 0 ∧ SameBut [.bellmetal] s r)) ∧
    (∀ w ws, (chanOf s n.val).fifo = w :: ws → Completes s (.bmChnSample n) (fun r => chanOf r n.val = { chanOf s n.val with fifo := ws } ∧
      SameBut [.bellmetal] s r))

/-- R247 to R249: a frame with a good check goes to the hardware's requests or to the legal core by its type, and a bad one is counted; the hardware answers its requests by type
when the line is free; the legal core pops frames, gathers a payload and sends it; what stands on the line between two 0x7E holds none, and unescapes to the frame with
its check.
It rests in part on choices of the model: log 22. -/
def Obligations.SealedSerialPort : Prop :=
  (∀ (s : State) (c : List Byte) (f : SerFrame), s.bm.state ≠ bmOff → 5 ≤ (unescape c).length →
    (ofBytesBE ((unescape c).drop ((unescape c).length - 2)) ≠ crc16 ((unescape c).take ((unescape c).length - 2)) →
      Completes s (.serFrameRx c) (fun r => r.bm = { s.bm with ser := { s.bm.ser with badCrc := (s.bm.ser.badCrc + 1) % 2 ^ 32 } } ∧
        SameBut [.bellmetal] s r)) ∧
    (unescape c = [BitVec.ofNat 8 f.typ, BitVec.ofNat 8 f.seq, BitVec.ofNat 8 f.payload.length] ++ f.payload ++
        toBytesBE 2 (crc16 ([BitVec.ofNat 8 f.typ, BitVec.ofNat 8 f.seq, BitVec.ofNat 8 f.payload.length] ++ f.payload)) →
      f.typ < 256 → f.seq < 256 → f.payload.length ≤ 248 →
      (0xF0 ≤ f.typ → s.bm.hwFrames = true → Completes s (.serFrameRx c) (fun r =>
        r.bm = { s.bm with ser := { s.bm.ser with requests := s.bm.ser.requests ++ [f] } } ∧ SameBut [.bellmetal] s r)) ∧
      (f.typ < 0xF0 → legalRuns s = true → rxLevel s.bm.ser + fifoBytes f ≤ 512 → Completes s (.serFrameRx c) (fun r =>
        r.bm = { s.bm with ser := { s.bm.ser with rx := s.bm.ser.rx ++ [f] } } ∧ SameBut [.bellmetal] s r)))) ∧
  (∀ (s : State) (f : SerFrame) (fs : List SerFrame) (answer : List Byte), s.bm.ser.requests = f :: fs → s.bm.ser.line = none → s.bm.ser.replies = [] →
    ∀ P : State → Prop, P = (fun r => r.bm = { s.bm with ser := { s.bm.ser with requests := fs, line := some (false, serWire ⟨f.typ, f.seq, answer⟩) } } ∧
      SameBut [.bellmetal] s r) →
    (f.typ = 0xF0 → answer = s.bm.swId ++ toBytes 4 s.bm.checksum ++ toBytes 4 (eventCounter s) ++ toBytes 1 s.bm.state ++
      toBytes 1 (if s.bm.ctl.broken then 1 else 0) → Completes s .ident P) ∧
    (f.typ = 0xF1 → f.payload.length = 4 → s.bm.ctl.tail ≤ ofBytes f.payload → ofBytes f.payload < s.bm.ctl.head →
      answer = mramBytes s (recordAt (ofBytes f.payload)) 64 → Completes s .auditRead P) ∧
    (f.typ = 0xF2 → answer = toBytes 4 s.bm.ctl.tail ++ toBytes 4 s.bm.ctl.head → Completes s .auditRange P) ∧
    (0xF3 ≤ f.typ → f.typ ≤ 0xFF → answer = [2#8] → Completes s .serUnknownType P)) ∧
  (∀ s : State, legalRuns s = true →
    Completes s .serRxPop (fun r => r.bm = { s.bm with ser := { s.bm.ser with rx := s.bm.ser.rx.drop 1, rxRead := 0 } } ∧ SameBut [.bellmetal] s r) ∧
    (∀ w : Word, s.bm.ser.txReady = true → s.bm.ser.txBuf.length < 248 → Completes s (.serTxData w) (fun r =>
      r.bm = { s.bm with ser := { s.bm.ser with txBuf := s.bm.ser.txBuf ++ toBytes 4 w.toNat } } ∧ SameBut [.bellmetal] s r)) ∧
    (∀ v : Word, s.bm.ser.txReady = true → v.toNat % 256 < 0xF0 → bits v.toNat 16 8 ≤ 248 → bits v.toNat 16 8 ≤ s.bm.ser.txBuf.length →
      s.bm.ser.line = none → s.bm.ser.replies = [] → Completes s (.serTxSend v) (fun r => r.bm = { s.bm with ser := { s.bm.ser with
        txBuf := [], txReady := true, txDone := false, queued := none,
        line := some (true, serWire ⟨v.toNat % 256, bits v.toNat 8 8, s.bm.ser.txBuf.take (bits v.toNat 16 8)⟩) } } ∧ SameBut [.bellmetal] s r))) ∧
  (∀ (s : State) (b : List Byte), s.bm.ser.line = some (true, b) → s.bm.ser.replies = [] → s.bm.ser.queued = none → Completes s .serTxDone (fun r =>
    r.bm = { s.bm with ser := { s.bm.ser with line := none, txDone := true } } ∧ SameBut [.bellmetal] s r)) ∧
  (∀ f : SerFrame, f.typ < 256 → f.seq < 256 → f.payload.length ≤ 248 → ∃ c b, serWire f = [0x7E#8] ++ c ++ [0x7E#8] ∧ 0x7E#8 ∉ c ∧
    b = [BitVec.ofNat 8 f.typ, BitVec.ofNat 8 f.seq, BitVec.ofNat 8 f.payload.length] ++ f.payload ∧ unescape c = b ++ toBytesBE 2 (crc16 b))

/-! ### Power, starts and recovery -/

namespace Sys2Proof.Claims

/-- No transition, resume or recovery step is in progress. -/
def Settled (s : State) : Prop := s.pwr.trans = none ∧ s.pwr.resuming = false ∧ recovering s = false

/-- A part with external memory whose straps select slot A or B first. -/
def Boots (s : State) : Prop := s.variant ≠ .yl6430 ∧ s.pwr.strap % 8 < 2

/-- R427: a state request begins a transition, with the switches that it takes; a request for Calm that a unit refuses, and any request while a transition, a
resume or a recovery step is in progress, changes no domain and sets REFUSED. A transition whose switches are made ends in its state with result OK and
source 16; towards Gale it goes on to the resume. -/
def StateTransitions : Prop :=
  (∀ (s : State) (w : Writer) (v : Word) (d : DictRow) (target : Nat), StoreReaches s w 0x2040 2 v d → d.acc = .wo → target = bits v.toNat 0 2 →
    (Settled s → target ≠ 2 ∨ calmRefused s = false → Completes s (.pwrStateReq w v) (fun r =>
      r.pwr = { s.pwr with trans := some ⟨target, pwrState s, transPlan s target (bitAt v.toNat 2), [], false⟩ } ∧ SameBut [.power] s r)) ∧
    (Settled s → target = 2 → calmRefused s = true → Completes s (.pwrStateReq w v) (fun r => flag r kPwrFlags 0 = true ∧
      fld r kPwrState 4 4 = 3 ∧ Asserted s 16 r ∧ SameBut [.reports] s r)) ∧
    (s.pwr.trans.isSome = true → Completes s (.pwrStateReq w v) (fun r => flag r kPwrFlags 0 = true ∧ SameBut [.reports] s r))) ∧
  (∀ (s : State) (t : Transition), s.pwr.trans = some t → t.todo = [] → t.abort = false → s.pwr.ladders = [] →
    (t.target = 1 ∨ t.target = 2 → Completes s .stateDone (fun r => r.pwr = { s.pwr with trans := none, resuming := false } ∧
      pwrState r = t.target ∧ fld r kPwrState 4 4 = 0 ∧ Asserted s 16 r ∧ KeepsEntries [kPwrState, kMerged] s r ∧ SameBut [.power, .reports] s r)) ∧
    (t.target = 0 → t.from_ ≠ 0 → Completes s .stateDone (fun r => r.pwr = { s.pwr with trans := none, resuming := true } ∧ SameBut [.power] s r)))

/-- R424, R425, R44: a domain request is begun, and its switch ends later, or is refused with its status in RESULT and REFUSED set; a domain that finishes switching is
on, or off, as asked, unless by then the switch would leave a domain without one that it requires; the switches of a transition end in their order. -/
def DomainRequests : Prop :=
  (∀ (s : State) (w : Writer) (v : Word) (d : DictRow) (k : Nat) (on : Bool), StoreReaches s w 0x2040 5 v d → d.acc = .wo → k = bits v.toNat 0 5 →
    on = bitAt v.toNat 8 →
    (domainStatus s k on = 0 → Completes s (.pwrDomainReq w v) (fun r => r.pwr = { s.pwr with switching := s.pwr.switching ++ [(k, on)] } ∧
      fld r kPwrState 4 4 = 0 ∧ KeepsEntries [kPwrState] s r ∧ SameBut [.power, .reports] s r)) ∧
    (domainStatus s k on ≠ 0 → Completes s (.pwrDomainReq w v) (fun r => fld r kPwrState 4 4 = domainStatus s k on ∧
      flag r kPwrFlags 0 = true ∧ KeepsEntries [kPwrState, kPwrFlags, kMerged] s r ∧ SameBut [.reports] s r))) ∧
  (∀ (s : State) (d : Fin 25) (on : Bool) (rest : List (Nat × Bool)), s.pwr.trans = none → s.pwr.switching = (d.val, on) :: rest → 3 ≤ d.val →
    (switchBroken s d.val on = false → on = true ∨ offRefused s d.val = false →
      Completes s (.domainSwitched d) (fun r => domainOn r d.val = on ∧ r.pwr.switching = rest)) ∧
    (switchBroken s d.val on = true → Completes s (.domainSwitched d) (fun r => r.pwr = { s.pwr with switching := rest } ∧ SameBut [.power] s r))) ∧
  (∀ (s : State) (d : Fin 25) (on : Bool) (t : Transition) (rest : List (Nat × Bool)), s.pwr.trans = some t → t.todo = (d.val, on) :: rest → 3 ≤ d.val →
    on = true ∨ offRefused s d.val = false → Completes s (.domainSwitched d) (fun r => domainOn r d.val = on ∧
      r.pwr.trans = some { t with todo := rest, made := if on then t.made else d.val :: t.made }))

/-- R428, R431: a wake pin that is enabled is recorded, takes Calm to Breeze, releases the Warden in Breeze when it is off and asserts source 3 when it runs; a
resume whose copy compares equal releases the application cores in Gale with source 16. -/
def WakeAndResume : Prop :=
  (∀ s : State, flag s (entryKey 0x2040 6) 0 = true → s.pwr.supply = true → s.pwr.refStopped = false → s.pwr.trans = none →
    Completes s .wakePin (fun r => flag r (entryKey 0x2040 7) 0 = true ∧
      (pwrState s = 1 → domainOn s 3 = false → domainOn r 3 = true ∧ (coreOf r 8).run = 1 ∧ (coreOf r 8).pc = 0) ∧
      (pwrState s = 2 → domainOn s 3 = false → pwrState r = 1 ∧ (∀ d, d = 3 ∨ d = 7 ∨ d = 8 → domainOn r d = true) ∧ (coreOf r 8).run = 1) ∧
      (pwrState s = 0 → domainOn s 3 = true → (coreOf s 8).run ≠ 0 → Asserted s 3 r ∧ KeepsEntries [entryKey 0x2040 7, kMerged] s r ∧
        SameBut [.reports] s r))) ∧
  (∀ s : State, s.pwr.resuming = true → s.pwr.training = 0 → s.variant ≠ .yl6430 → s.pwr.ladders = [] →
    s.pwr.copyLen = 0 ∨ sha256 (readBytes extSize s.mem.ext s.pwr.copyAt s.pwr.copyLen) = s.pwr.copyDigest →
    Completes s .resumeDone (fun r => r.pwr.resuming = false ∧ pwrState r = 0 ∧ fld r kPwrState 2 2 = 2 ∧ fld r kPwrState 4 4 = 0 ∧ Asserted s 16 r ∧
      (∀ c, c < 8 → procPresent s.variant c = true → domainOn s (9 + c / 2) = true → (coreOf r c).run = 1) ∧
      KeepsEntries [kPwrState, kMerged] s r ∧ SameBut [.cores, .power, .reports] s r))

/-- R434, R435, R443, R444, R489: what a cold start, a warm start, a loss of supplies and the release of RESET_N leave before the memory is trained. A cold start loses every memory
but the flash, the fuses, the MRAM and the saved entries, and a lifecycle transition that it interrupts leaves the old state or the new; a warm start keeps external memory and the partition. -/
def Starts : Prop :=
  (∀ (s : State) (w : Writer) (d : DictRow), d.acc = .wo → Boots s → StoreReaches s w 0x2040 0x0A 1#32 d → Completes s (.coldStart w) (fun r =>
    r.pwr.training = 1 ∧ r.mem = { flash := s.mem.flash } ∧ (s.sec.lcTarget = none → r.sec.fuses = s.sec.fuses ∧ r.bm.mram = s.bm.mram) ∧
    r.saved = s.saved ∧ (∀ c, c < 9 → (coreOf r c).run = 0))) ∧
  (∀ (s : State) (w : Writer) (d : DictRow), d.acc = .wo → s.variant ≠ .yl6430 → fld s kPwrBoot 0 3 < 2 → s.ss.walk = none →
    StoreReaches s w 0x2040 0x0A 0#32 d → Completes s (.warmStart w) (fun r => r.pwr.training = 2 ∧ r.pwr.trans = none ∧ pwrState r = 0 ∧
      r.mem.ext = s.mem.ext ∧ r.mem.flash = s.mem.flash ∧ r.sec.fuses = s.sec.fuses ∧ r.saved = s.saved ∧ r.bm.mram = s.bm.mram ∧
      coreOf r 9 = coreOf s 9 ∧ (domainOn s 8 = true → r.mem.sram = []) ∧ (domainOn s 3 = true → (coreOf r 8).run = 0) ∧
      (∀ c, c < 8 → procPresent s.variant c = true → domainOn s (9 + c / 2) = true → (coreOf r c).run = 0))) ∧
  (∀ (s : State) (w : Writer) (d : DictRow), d.acc = .wo → StoreReaches s w 0x2040 0x0A 2#32 d → Completes s (.powerCycle w) (fun r =>
    r.pwr = { s.pwr with cycling := true } ∧ SameBut [.power] s r)) ∧
  (∀ s : State, Completes s .supplyLoss (fun r => r.pwr.supply = false ∧ r.mem = { flash := s.mem.flash } ∧
    (s.sec.lcTarget = none → r.sec.fuses = s.sec.fuses ∧ r.bm.mram = s.bm.mram) ∧ r.sec.lcTarget = none ∧
    (r.sec.fuses.lifecycle = s.sec.fuses.lifecycle ∨ s.sec.lcTarget = some r.sec.fuses.lifecycle) ∧ r.saved = s.saved ∧ (∀ d, 1 ≤ d → d ≤ 24 → domainOn r d = false))) ∧
  (∀ (s : State) (sel : Fin 4), s.pwr.supply = false → sel.val < 2 → s.variant ≠ .yl6430 → Completes s (.resetRelease sel) (fun r =>
    r.pwr.supply = true ∧ r.pwr.strap = sel.val ∧ r.pwr.training = 1 ∧ (s.sec.lcTarget = none → r.sec.fuses = s.sec.fuses) ∧ r.mem = { flash := s.mem.flash })) ∧
  (∀ s : State, s.pwr.refStopped = true → s.pwr.cycling = false → Boots s → Completes s .referenceRestored (fun r => r.pwr.refStopped = false ∧
    r.pwr.training = 1 ∧ (s.sec.lcTarget = none → r.sec.fuses = s.sec.fuses) ∧ r.mem = { flash := s.mem.flash }))

/-- R39, R429, R430, R435, R436: PWR_BOOT_OK ends the wait for it and clears the failure counts; its timeout starts again, and after the third failure of a cold start leaves the safe
service state with cause 3; a full training leaves its result; the loss of the reference stops every domain but 1, 2 and 4 to 6; a valid crystal is shown. -/
def BootAndClocks : Prop :=
  (∀ (s : State) (w : Writer) (v : Word) (d : DictRow), StoreReaches s w 0x2040 9 v d → d.acc = .wo → bitAt v.toNat 0 = true →
    Completes s (.pwrBootOk w v) (fun r => r.pwr = { s.pwr with bootWait := false } ∧ fld r kPwrBoot 4 4 = 0 ∧ KeepsEntries [kPwrBoot] s r ∧
      SameBut [.power, .reports] s r)) ∧
  (∀ s : State, s.pwr.bootWait = true → fld s kPwrState 2 2 ≠ 1 →
    (2 ≤ fld s kPwrBoot 6 2 → Completes s .bootTimeout (fun r => r.pwr.safe = true ∧ r.pwr.bootWait = false ∧ fld r kPwrBoot 8 4 = 3 ∧
      fld r kPwrBoot 6 2 = 3 ∧ pwrState r = 0)) ∧
    (fld s kPwrBoot 6 2 < 2 → Boots s → Completes s .bootTimeout (fun r => r.pwr.training = 1 ∧ r.pwr.bootWait = false ∧
      fld r kPwrBoot 6 2 = fld s kPwrBoot 6 2 + 1))) ∧
  (∀ (s : State) (ok : Bool) (micros : Nat), s.pwr.training = 3 → engineOn s 18 = true → s.pwr.trained = false →
    Completes s (.mcTrainDone false ok micros) (fun r => r.pwr = { s.pwr with training := 0, trained := ok } ∧
      regN r (entryKey 0x2482 1) = (if ok then 1 else 0) ∧ regN r (entryKey 0x2482 3) = micros % 2 ^ 32 ∧
      (ok = false → flag r (entryKey 0x2482 2) 0 = true) ∧ SameBut [.power, .reports] s r)) ∧
  (∀ s : State, s.pwr.supply = true → s.pwr.refStopped = false → Completes s .clkFail (fun r => r.pwr.refStopped = true ∧ flag r kPwrFlags 1 = true ∧
    (∀ d, 3 ≤ d → d ≤ 24 → d < 4 ∨ 6 < d → domainOn r d = false) ∧ (∀ d, 4 ≤ d → d ≤ 6 → domainOn r d = domainOn s d) ∧
    fld r (entryKey 0x2040 0x0C) 6 1 = 0 ∧ (flag s kPwrCtrl 1 = true → r.pwr.cycling = true))) ∧
  (∀ s : State, s.pwr.supply = true → Completes s .lfCrystalValid (fun r => flag r (entryKey 0x2040 0x0C) 7 = true ∧ flag r kPwrFlags 3 = false ∧
    KeepsEntries [entryKey 0x2040 0x0C, kPwrFlags] s r ∧ SameBut [.reports] s r))

/-- R439, R440: a command and the Warden watchdog note their incident, which the command's end takes; a first incident counts the step that it takes, asserts source 18 and names a
device-wide step 3 or 4, 4 only where PWR_CTRL lets it; step 2 takes the engine offline; its end brings it back, a rendering engine dark; a window without incident clears
the ladder. -/
def RecoveryLadder : Prop :=
  (∀ (s : State) (w : Writer) (v : Word) (d : DictRow), StoreReaches s w 0x2045 1 v d → d.acc = .wo → Completes s (.recCmd w v) (fun r =>
    r = { s with raised := s.raised ++ [4000 + 8 * bits v.toNat 0 6 + bits v.toNat 8 3] })) ∧
  (∀ s : State, domainOn s 3 = true → Completes s .wardenWdt (fun r => r = { s with raised := s.raised ++ [5000] })) ∧
  (∀ (s : State) (e n : Nat), e < 37 → (ladderOf s e).last = none →
    (n = 1 ∨ n = 3 ∨ n = 4 → ∃ step, step = (if n = 4 ∧ flag s kPwrCtrl 1 = false then 3 else n) ∧
      (incident s e (.cmd n)).2 = (if step = 1 then 0 else step) ∧ Asserted s 18 (incident s e (.cmd n)).1 ∧
      fld (incident s e (.cmd n)).1 (entryKey 0x2043 e) (8 * (step - 1)) 8 = min 255 (fld s (entryKey 0x2043 e) (8 * (step - 1)) 8 + 1)) ∧
    (n = 2 → e ≠ 1 → engineOn s e = true → s.pwr.trans = none → s.health.test = none → (incident s e (.cmd n)).2 = 0 ∧
      engineOffline (incident s e (.cmd n)).1 e = true)) ∧
  (∀ (s : State) (e : Fin 37), engineOffline s e.val = true → s.ver.owed = false → Completes s (.reinitDone e) (fun r => engineOffline r e.val = false ∧
    (∀ d, d < 37 → d ≠ e.val → engineOffline r d = engineOffline s d) ∧ (rendering e.val = true → e.val ∈ r.gfx.dark) ∧
    (28 ≤ e.val → e.val ≤ 35 → engineOn s e.val = true → (coreOf r (e.val - 28)).run = 1) ∧ KeepsEntries [entryKey 0x2044 e.val] s r ∧
    SameBut [.cores, .graphics, .reports] s r)) ∧
  (∀ (s : State) (e : Fin 37), Completes s (.ladderWindowExpire e) (fun r => fld r (entryKey 0x2044 e.val) 0 3 = 0 ∧ fld r (entryKey 0x2044 e.val) 8 8 = 0 ∧
    ladderOf r e.val = { ladderOf s e.val with times := [], last := none } ∧ KeepsEntries [entryKey 0x2044 e.val] s r ∧ SameBut [.power, .reports] s r))

end Sys2Proof.Claims
/-! ### Security and the debug port -/

namespace Sys2Proof.Claims

/-- R445, R446, R459: a lifecycle request that goes forward and is allowed waits for its fuses, one that is not allowed leaves its flag, one that does not go forward changes
nothing; when the fuses are blown the lifecycle has its new value, in RETURNED with DEV_KEY erased; a blank fuse field takes its value while the lifecycle is below SECURED,
and the flag of a value that does not verify; the transition to RETURNED needs an authenticated debugger with the capability for it. -/
def LifecycleAndFuses : Prop :=
  (∀ (s : State) (w : Writer) (v : Word) (d : DictRow), StoreReaches s w 0x2900 2 v d → d.acc = .wo →
    (v.toNat ≤ s.sec.fuses.lifecycle → Completes s (.secLcReq false w v) (fun r => r = s)) ∧
    (s.sec.fuses.lifecycle < v.toNat → lcAllowed s v.toNat false = false → Completes s (.secLcReq false w v) (fun r =>
      flag r (entryKey 0x2900 0x0C) 1 = true ∧ KeepsEntries [entryKey 0x2900 0x0C, kMerged] s r ∧ SameBut [.reports] s r)) ∧
    (s.sec.fuses.lifecycle < v.toNat → lcAllowed s v.toNat false = true → s.sec.lcTarget = none → Completes s (.secLcReq false w v) (fun r =>
      r.sec = { s.sec with lcTarget := some v.toNat } ∧ SameBut [.security] s r))) ∧
  (∀ (s : State) (w : Writer) (v : Word), s.sec.dbg ≠ 0 → s.pwr.supply = true → s.sec.fuses.lifecycle < v.toNat % 4 → lcAllowed s (v.toNat % 4) true = true →
    s.sec.lcTarget = none → Completes s (.secLcReq true w v) (fun r =>
      r.sec = { s.sec with ir := 0x0D, dr := v.toNat % 4, lcTarget := some (v.toNat % 4) } ∧ SameBut [.security, .pins, .reports] s r)) ∧
  (∀ (s : State) (b : Bool), (lcAllowed s 1 b = true ↔ s.sec.fuses.lifecycle = 0) ∧
    (lcAllowed s 3 b = true ↔ (s.sec.fuses.lifecycle = 1 ∨ s.sec.fuses.lifecycle = 2) ∧ b = true ∧ s.sec.dbg = 2 ∧ bitAt s.sec.grant 6 = true)) ∧
  (∀ (s : State) (t : Nat), s.sec.lcTarget = some t → t ≤ 3 → Boots s → Completes s .lcFusesBlown (fun r => r.sec.fuses.lifecycle = t ∧
    r.sec.lcTarget = none ∧ r.pwr.training = 1 ∧ r.sec.fuses.appHash = s.sec.fuses.appHash ∧
    r.sec.fuses.devKey = (if t = 3 then List.replicate 32 0xFF#8 else s.sec.fuses.devKey))) ∧
  (∀ (s : State) (w : Writer) (value : List Byte) (d : DictRow) (n : Nat), writerCop w = true → dictRow? 0x2900 0x0B = some d →
    reachStatus s 0x2900 0x0B true = 0 → entryOffline s 0x2900 0x0B = false → mayWrite s d 0x2900 0x0B w false = true → value.length = 33 →
    n = (value.headD 0#8).toNat → n < 4 →
    (2 ≤ s.sec.fuses.lifecycle → ∀ rb, Completes s (.secFuseProg w value rb) (fun r => r = s)) ∧
    (s.sec.fuses.lifecycle < 2 → blankFuse (fuseField s n) = true → Completes s (.secFuseProg w value none) (fun r => fuseField r n = value.drop 1 ∧
      (∀ m, m < 4 → m ≠ n → fuseField r m = fuseField s m) ∧ r.sec.fuses.lifecycle = s.sec.fuses.lifecycle ∧ SameBut [.security] s r)) ∧
    (∀ b, s.sec.fuses.lifecycle < 2 → blankFuse (fuseField s n) = true → b.length = 32 → Completes s (.secFuseProg w value (some b)) (fun r =>
      fuseField r n = b ∧ flag r (entryKey 0x2900 0x0C) 3 = true ∧ SameBut [.security, .reports] s r)))

/-- R451: the instructions of the TAP with what their data registers capture; without the capability for a scan it is BYPASS. -/
def TapInstructions : Prop :=
  ∀ s : State, s.pwr.supply = true →
    Completes s .idcode (fun r => r.sec = { s.sec with ir := 1, dr := secIdcode s } ∧ SameBut [.security, .pins, .reports] s r) ∧
    Completes s .bypass (fun r => r.sec = { s.sec with ir := 0x1F, dr := 0 } ∧ SameBut [.security, .pins, .reports] s r) ∧
    (∀ v : BitVec 48, capable s 3 = true → Completes s (.samplePreload v) (fun r => r.sec.ir = 2 ∧ r.sec.scan = v.toNat ∧
        (∀ k, k < 48 → bitAt r.sec.dr k = padLevel s k) ∧ SameBut [.security, .pins, .reports] s r) ∧
      Completes s (.extest v) (fun r => r.sec.ir = 3 ∧ r.sec.scan = v.toNat ∧ (∀ k, k < 48 → bitAt r.sec.dr k = padLevel s k) ∧
        (∀ k, k < 48 → padDrive r k = some (bitAt v.toNat k)) ∧ SameBut [.security, .pins, .reports] s r)) ∧
    (∀ v : BitVec 48, capable s 3 = false → Completes s (.samplePreload v) (fun r => r.sec = { s.sec with ir := 0x1F, dr := 0 }) ∧
      Completes s (.extest v) (fun r => r.sec = { s.sec with ir := 0x1F, dr := 0 }))

/-- R454, R455: an access of the debug port to an application core that it may debug reads and writes a word of its data RAM, halts it and lets it run again, for one group where a
step is asked for, unless it has locked up (R304); an access that no capability allows answers DENIED and changes nothing else. -/
def DebugAccesses : Prop :=
  ∀ (s : State) (t : Fin 64), s.pwr.supply = true →
    (t.val < 8 → dapAllowed s t.val = true → coreOn s t.val = true →
      (∀ a : Word, a.toNat % 4 = 0 → 0x10000 ≤ a.toNat → a.toNat < 0x20000 →
        Completes s (.dapRead t a) (fun r => r.sec = { s.sec with
          ir := 8, dr := 1 + 2 ^ 40 * ofBytes ((List.range 4).map (fun i => byteAt (coreOf s t.val).dram (a.toNat - 0x10000 + i))) } ∧
          SameBut [.security, .pins, .reports] s r) ∧
        (∀ w : Word, Completes s (.dapWrite t a w) (fun r => r.sec = { s.sec with ir := 8, dr := 1 } ∧
          (∀ i, i < 4 → byteAt (coreOf r t.val).dram (a.toNat - 0x10000 + i) = BitVec.ofNat 8 (w.toNat / 256 ^ i)) ∧
          (∀ b, b < a.toNat - 0x10000 ∨ a.toNat - 0x10000 + 4 ≤ b → byteAt (coreOf r t.val).dram b = byteAt (coreOf s t.val).dram b) ∧
          (∀ k, k ≠ t.val → coreOf r k = coreOf s k) ∧ (coreOf r t.val).regs = (coreOf s t.val).regs ∧ SameBut [.security, .cores, .pins, .reports] s r))) ∧
      (coreIssues s t.val = true → Completes s (.dapHalt t) (fun r => coreOf r t.val = { coreOf s t.val with run := 3 } ∧
        r.sec = { s.sec with ir := 8, dr := 1, halted := s.sec.halted ++ [t.val] } ∧ (∀ k, k ≠ t.val → coreOf r k = coreOf s k) ∧
        SameBut [.security, .cores, .pins, .reports] s r)) ∧
      (∀ stp : Bool, t.val ∈ s.sec.halted → (coreOf s t.val).lockup = true → Completes s (.dapResume t stp) (fun r => r.sec = { s.sec with ir := 8, dr := 1 } ∧
        SameBut [.security, .pins, .reports] s r)) ∧
      (∀ stp : Bool, t.val ∈ s.sec.halted → (coreOf s t.val).lockup = false → Completes s (.dapResume t stp) (fun r =>
        coreOf r t.val = { coreOf s t.val with run := 1, stepReq := stp } ∧
        (stp = true → r.sec.halted = s.sec.halted) ∧ (stp = false → t.val ∉ r.sec.halted) ∧ (∀ k, k ≠ t.val → coreOf r k = coreOf s k) ∧
        SameBut [.security, .cores, .pins, .reports] s r))) ∧
    (dapAllowed s t.val = false → ∀ P : State → Prop, P = (fun r => r.sec = { s.sec with ir := 8, dr := 2 } ∧ SameBut [.security, .pins, .reports] s r) →
      (∀ a : Word, t.val ≠ 10 ∨ a.toNat ≠ lifecycleAddr → Completes s (.dapRead t a) P) ∧ (∀ a w : Word, Completes s (.dapWrite t a w) P) ∧
      Completes s (.dapHalt t) P ∧ (∀ stp : Bool, Completes s (.dapResume t stp) P))

/-- R452, R453, R457: a debugger attaches unauthenticated with source 579 and detaches without a grant; a challenge gives a fresh nonce beside the unique identifier, a response is kept
with the nonce that stands, and its check grants exactly the permissions asked for or leaves the debugger unauthenticated and counts the failure; DBG_WAKE is a wake cause, which takes Calm to Breeze; TRST_N
detaches. -/
def DebugSession : Prop :=
  (∀ s : State, s.sec.dbg = 0 → s.pwr.supply = true → Completes s .dbgAttach (fun r => r.sec.dbg = 1 ∧ r.sec.grant = s.sec.grant ∧ r.sec.forced = false ∧
    Asserted s 579 r ∧ SameBut [.security, .reports] s r)) ∧
  (∀ s : State, s.sec.forced = false → (s.sec.dbg ≠ 0 → Completes s .dbgDetach (fun r => r.sec = { s.sec with
      dbg := 0, grant := 0, nonce := none, response := none, ir := 9, dr := 0 } ∧ SameBut [.security, .pins, .reports] s r)) ∧
    Completes s .trstN (fun r => r.sec = { s.sec with dbg := 0, grant := 0, nonce := none, response := none, ir := 1, dr := secIdcode s } ∧
      SameBut [.security, .pins, .reports] s r)) ∧
  (∀ s : State, s.sec.dbg ≠ 0 → s.pwr.supply = true → domainOn s 8 = true →
    (challengeHeld s = false → Completes s .dbgChallenge (fun r => ∃ n, n < 2 ^ 128 ∧ r.sec = { s.sec with
      nonce := some n, failedAt := none, ir := 0x0A, dr := n + 2 ^ 128 * s.sec.fuses.uid } ∧ SameBut [.security, .free, .pins, .reports] s r)) ∧
    (challengeHeld s = true → Completes s .dbgChallenge (fun r => r = s)) ∧
    (∀ (perm : Word) (key sig : List Byte), key.length = 64 → sig.length = 64 → Completes s (.dbgResponse perm key sig) (fun r => r.sec = { s.sec with
      ir := 0x0B, dr := 0, response := some ⟨perm.toNat, key, sig, s.sec.nonce⟩ } ∧ SameBut [.security, .pins, .reports] s r))) ∧
  (∀ (s : State) (x : DbgResponse), s.sec.response = some x → domainOn s 8 = true →
    (responseGood s x = true → Completes s .authCheckDone (fun r => r.sec = { s.sec with dbg := 2, grant := x.perm, nonce := none, response := none } ∧
      SameBut [.security, .reports] s r)) ∧
    (responseGood s x = false → Completes s .authCheckDone (fun r => r.sec.dbg = 1 ∧ r.sec.grant = 0 ∧ r.sec.response = none ∧
      flag r (entryKey 0x2900 0x0C) 0 = true ∧ regGet r (entryKey 0x2900 0x0D) = regGet s (entryKey 0x2900 0x0D) + 1#32 ∧
      SameBut [.security, .reports] s r))) ∧
  (∀ s : State, s.pwr.supply = true →
    (capable s 5 = true → flag s (entryKey 0x2040 6) 5 = true → s.pwr.refStopped = false → s.pwr.trans = none → Completes s (.dbgWake true) (fun r =>
      r.sec.ir = 0x0C ∧ r.sec.dr = 1 ∧ flag r (entryKey 0x2040 7) 5 = true ∧ pwrState r = 1 ∧ domainOn r 3 = true)) ∧
    (capable s 5 = true → flag s (entryKey 0x2040 6) 5 = false → s.sec.ir ≠ 3 → Completes s (.dbgWake true) (fun r => SameBut [.security] s r)) ∧
    (capable s 5 = false → Completes s (.dbgWake true) (fun r => r.sec = { s.sec with ir := 0x1F, dr := 0 })))

/-! ### Performance and health -/

/-- R466, R468, R472: a capture of the period or of PERF_CMD numbers itself and waits with its record for its writes, or is dropped with a count and a flag when there is no room; the end of a
record's writes advances the ring and asserts source 273 when enough were written; CLEAR_ALL clears every counter and no other entry. -/
def PerformanceCounters : Prop :=
  (∀ (s : State) (manual : Bool) (w : Writer) (d : DictRow) (c : Instr), c = (if manual then .dumpNow w else .perfCapture) → engineOn s 17 = true →
    engineOffline s 17 = false → (manual = true → StoreReaches s w 0x2440 8 1#32 d ∧ d.acc = .wo) → (manual = false → flag s (entryKey 0x2440 1) 0 = true) →
    (captureDropped s = false → Completes s c (fun r =>
      r.health = { s.health with record := some (perfRecord s ((regN s (entryKey 0x2440 0x0A) + 1) % 2 ^ 32) manual), dropped := false } ∧
      regGet r (entryKey 0x2440 0x0A) = regGet s (entryKey 0x2440 0x0A) + 1#32 ∧ KeepsEntries [entryKey 0x2440 0x0A] s r ∧
      SameBut [.health, .reports] s r)) ∧
    (captureDropped s = true → Completes s c (fun r => r.health = { s.health with dropped := true } ∧ flag r kPerfFlags 1 = true ∧
      regGet r (entryKey 0x2440 0x0B) = regGet s (entryKey 0x2440 0x0B) + 1#32 ∧ SameBut [.health, .reports] s r))) ∧
  (∀ (s : State) (w : Writer) (d : DictRow), StoreReaches s w 0x2440 8 2#32 d → d.acc = .wo → Completes s (.clearAll w) (fun r =>
    (∀ k, k < 148 → regN r (perfCountKey k) = 0) ∧ (∀ w, w < 5 → regN r (entryKey 0x2443 w) = 0) ∧
    (∀ k, k / 256 ≠ 0x2442 → k / 256 ≠ 0x2443 → regGet r k = regGet s k) ∧ SameBut [.reports] s r)) ∧
  (∀ (s t : State) (b : List Byte), s.health.record = some b → perfRefused s (perfAddr s) = none → busWrite s (perfAddr s) b = some t →
    0 < regN s (entryKey 0x2440 5) → Completes s .perfRecordDone (fun r => r.health.record = none ∧ r.mem = t.mem ∧
      regN r (entryKey 0x2440 6) = (regN s (entryKey 0x2440 6) + 1) % regN s (entryKey 0x2440 5) ∧
      (fld s (entryKey 0x2440 1) 8 8 = 0 ∨ s.health.written + 1 < fld s (entryKey 0x2440 1) 8 8 → r.health.written = s.health.written + 1) ∧
      (fld s (entryKey 0x2440 1) 8 8 ≠ 0 → fld s (entryKey 0x2440 1) 8 8 ≤ s.health.written + 1 → r.health.written = 0 ∧ Asserted s 273 r)))

/-- R469, R470, R471, R473: a self-test of a target that is free, or is forced, which takes its engines offline, begins as a long operation and its memory takes the contents that the test leaves (log 50), or it is refused with
its result; when it ends it leaves its outcome and source 277, and a byte that something wrote to an external range under test is undefined; a
health window hands its events on; the die temperature is kept, with its flag at the limit. -/
def SelfTestAndHealth : Prop :=
  (∀ (s : State) (w : Writer) (v : Word) (d : DictRow) (target : Nat), StoreReaches s w 0x2444 1 v d → d.acc = .wo → target = bits v.toNat 0 3 →
    (bitAt v.toNat 3 = true → stResult s target true = 0 → Completes s (.stReq w v) (fun r => regN r kStStatus = 1 + 256 * target ∧
      r.health.test = some ⟨target, true, (stRange s).1, (stRange s).2⟩ ∧ regN r (kLop 4) = 1 ∧
      ∀ e ∈ stOffline target, enginePresent s.variant e = true → engineOffline r e = true)) ∧
    (bitAt v.toNat 3 = false → stResult s target false = 0 → Completes s (.stReq w v) (fun r => regN r kStStatus = 1 + 256 * target ∧
      r.health = { s.health with test := some ⟨target, false, (stRange s).1, (stRange s).2⟩ } ∧ r.net = { s.net with lop := some ⟨5, 1, none, 0, []⟩ } ∧
      regN r (kLop 4) = 1 ∧ (target = 0 → r.ss = { s.ss with stag := [], disp := [], dirty := [], attr := [] }) ∧
      (target = 1 → r.mem = { s.mem with vsram := [] }) ∧
      (target = 2 → r.gfx = { s.gfx with pal := [], rules := [], palShadow := [], rulesShadow := [] }) ∧ (target = 3 → r.gfx = { s.gfx with sprAttr := [] }) ∧
      (target = 4 → ∀ a, byteAt r.mem.ext a = if (stRange s).1 ≤ a ∧ a < (stRange s).1 + (stRange s).2 then 0#8 else byteAt s.mem.ext a) ∧
      (target ≠ 0 → r.ss = s.ss) ∧ (target ≠ 1 → target ≠ 4 → r.mem = s.mem) ∧ (target ≠ 2 → target ≠ 3 → r.gfx = s.gfx) ∧
      SameBut [.health, .net, .memory, .signals, .graphics, .reports] s r)) ∧
    (stResult s target (bitAt v.toNat 3) ≠ 0 → Completes s (.stReq w v) (fun r => fld r kStStatus 2 4 = stResult s target (bitAt v.toNat 3) ∧
      KeepsEntries [kStStatus] s r ∧ SameBut [.reports] s r))) ∧
  (∀ (s : State) (t : SelfTest) (l : LongOp) (fail : Option (Nat × Nat)), s.health.test = some t → s.net.lop = some l → l.progress = none → s.pwr.ladders = [] →
    Completes s (.stDone fail) (fun r => r.health = { s.health with test := none } ∧ r.net = { s.net with lop := none } ∧ fld r kStStatus 0 2 = 2 ∧
      fld r kStStatus 6 2 = (if fail.isSome then 2 else 1) ∧ regN r (kLop 4) = (if fail.isSome then 3 else 2) ∧ Asserted s 277 r ∧
      (∀ a b, fail = some (a, b) → pairN r (entryKey 0x2444 6) (entryKey 0x2444 7) = a % 2 ^ 40 ∧ regN r (entryKey 0x2444 8) = b % 2 ^ 32) ∧
      (t.target ≠ 4 → r.mem = s.mem) ∧ (∀ a, byteAt s.mem.ext a = 0#8 ∨ a < t.start ∨ t.start + t.len ≤ a → byteAt r.mem.ext a = byteAt s.mem.ext a) ∧
      r.mem.vsram = s.mem.vsram ∧ r.mem.sram = s.mem.sram ∧ r.mem.flash = s.mem.flash ∧ r.ss = s.ss ∧ r.gfx = s.gfx)) ∧
  (∀ s : State, domainOn s 8 = true → Completes s .healthWindowEnd (fun r => r.health = { s.health with
    prev := s.health.now, now := 0, ladderPrev := s.health.ladderNow, ladderNow := 0, window := s.health.window + 1 } ∧ SameBut [.health] s r)) ∧
  (∀ (s : State) (temp : Int), domainOn s 8 = true → -(2 ^ 15) ≤ temp → temp < 2 ^ 15 → Completes s (.tempHigh temp) (fun r =>
    regN r (entryKey 0x1220 2) = ofSigned 32 temp ∧ (toSigned 16 (regN s (entryKey 0x1220 4)) ≤ temp → flag r kPerfFlags 4 = true) ∧
    KeepsEntries [entryKey 0x1220 2, kPerfFlags, kMerged] s r ∧ SameBut [.reports] s r))

end Sys2Proof.Claims
/-! ### The machine -/

/-- A step with a command at the front of the queue is the command's meaning on the state with the queue's rest; a step on an empty queue goes on, and places no command (the
model's choice: one engine clock passes, log 43).
It rests in part on choices of the model: log 43. -/
def Obligations.StepRunsFrontCommand : Prop :=
  (∀ (s : State) (c : Instr) (rest : List Instr), s.pending = c :: rest → step s = exec c { s with pending := rest }) ∧
  (∀ s : State, s.pending = [] → step s = .next (tick s)) ∧
  (∀ s : State, s.pending = [] → s.pwr.supply = false → step s = .next s)

/-- R435, R14, R489: the device after reset. Every entry reads its default but the five that a cold start has written by step 11 (the model's choice of the moment, log 42); every
processor but the legal core has left reset at pc 0; no memory lists anything, no debugger is attached, nothing is owed, and every sparse store is canonical.
It rests in part on choices of the model: logs 5, 6, 9 and 42. -/
def Obligations.ResetState : Prop :=
  pwrState State.reset = 0 ∧ State.reset.pwr.trans = none ∧ State.reset.pwr.bootWait = true ∧ State.reset.pending = [] ∧
  (∀ k, k ∉ [0x100008, 0x204004, 0x20400B, 0x20400C, 0x248201] → regGet State.reset k = dictReset k) ∧
  (∀ c, c < 9 → (coreOf State.reset c).run = 1 ∧ (coreOf State.reset c).pc = 0 ∧ (coreOf State.reset c).level = 0) ∧ (coreOf State.reset 9).run = 0 ∧
  State.reset.bm.state = bmOff ∧ State.reset.sec.dbg = 0 ∧ State.reset.sec.fuses.lifecycle = 0 ∧ State.reset.raster.running = false ∧
  (∀ a, byteAt State.reset.mem.sram a = 0#8 ∧ byteAt State.reset.mem.ext a = 0#8) ∧ OwesNothing State.reset ∧ Canonical State.reset

/-- R310, R439, R463: every command completes in every state: what its sources, performance events and wakes call for has been brought about, and nothing is owed; the
same of every step; a state that owes nothing, and whose mirror signals show what the partition has, has nothing left to settle.
It rests in part on choices of the model: log 44. -/
def Obligations.EveryStepOwesNothing : Prop :=
  (∀ (i : Instr) (s : State), ∃ t, exec i s = .next t ∧ OwesNothing t) ∧ (∀ s : State, ∃ t, step s = .next t ∧ OwesNothing t) ∧
  (∀ s : State, OwesNothing s → s.sec.late = none → s.net.stagedOwed = [] → bmSync s = s → settle s = s)

namespace Sys2Proof.Claims

/-- A short parcel's fields (R261): a source port or an immediate. -/
inductive Short where
  | port (dst src : Fin 128)
  | imm (dst : Fin 128) (v : BitVec 7)

/-- What stands at the start of an issue group (R260, R261): a long parcel of form A or B, a pair of short parcels, or a short parcel before a long one,
whose first halfword has bit 15 set. -/
inductive Group where
  | longA (dst : Fin 512) (imm : BitVec 21)
  | longB (guard : Fin 8) (inv : Bool) (dst src : Fin 512) (ext : BitVec 8)
  | pair (a b : Short)
  | single (a : Short) (next : Fin 32768)

/-- The halfword of a short parcel. -/
def Short.word : Short → Nat
  | .port d r => d.val * 256 + r.val
  | .imm d v => d.val * 256 + 128 + v.toNat

/-- Its move. -/
def Short.move : Short → RawMove
  | .port d r => ⟨d.val, 0, .port r.val, 0, false, false⟩
  | .imm d v => ⟨d.val, 0, .value (v.signExtend 32), 0, false, false⟩

/-- The two halfwords at the start of a group. -/
def Group.words : Group → Nat × Nat
  | .longA d v => let w := 2 ^ 31 + d.val * 2 ^ 21 + v.toNat; (w / 65536, w % 65536)
  | .longB g i d r e =>
    let w := 3 * 2 ^ 30 + g.val * 2 ^ 27 + (if i then 2 ^ 26 else 0) + d.val * 2 ^ 17 + r.val * 2 ^ 8 + e.toNat
    (w / 65536, w % 65536)
  | .pair a b => (a.word, b.word)
  | .single a n => (a.word, 32768 + n.val)

/-- Its moves and its length; an armed immediate-high latch replaces the upper bits of form A's immediate (R274). -/
def Group.moves (latch : Option Nat) : Group → List RawMove × Nat
  | .longA d v => ([⟨d.val, 0, .value (match latch with
      | some h => BitVec.ofNat 32 (h % 2048 * 2 ^ 21 + v.toNat)
      | none => v.signExtend 32), 0, false, true⟩], 4)
  | .longB g i d r e => ([⟨d.val, e.toNat, .port r.val, g.val, i, false⟩], 4)
  | .pair a b => ([a.move, b.move], 4)
  | .single a _ => ([a.move], 2)

end Sys2Proof.Claims

/-- R261: what a core fetches at an address where the halfwords of a group stand, little-endian and high half first, is that group with every field at the value encoded; 0x0000 moves
a0 to a0. -/
def Obligations.ParcelsDecodeAsEncoded : Prop :=
  (∀ (g : Group) (x : Core) (a : Nat), x.stale = [] →
    ofBytes [byteAt x.iram a, byteAt x.iram (a + 1)] = g.words.1 → ofBytes [byteAt x.iram (a + 2), byteAt x.iram (a + 3)] = g.words.2 →
    fetchGroup x a = g.moves (x.immHi.map Prod.fst)) ∧
  shortMove 0 = ⟨0, 0, .port 0, 0, false, false⟩

/-- R280, R261, R274: the parcels of the spec's example decode to the moves it writes beside them.
It rests in part on choices of the model: log 80. -/
def Obligations.ExampleParcels : Prop :=
  groupOf 0x8F60 0x0204 none = ([⟨123, 0, .value 0x204#32, 0, false, true⟩], 4) ∧
  groupOf 0x80B4 0x000C (some 0x204) = ([⟨5, 0, .value 0x4094000C#32, 0, false, true⟩], 4) ∧
  groupOf 0x80C0 0x0064 none = ([⟨6, 0, .value 100#32, 0, false, true⟩], 4) ∧
  groupOf 0x5006 0x5605 none = ([⟨80, 0, .port 6, 0, false, false⟩, ⟨86, 0, .port 5, 0, false, false⟩], 4) ∧
  groupOf 0xA200 0x0000 none = ([⟨272, 0, .value 0#32, 0, false, true⟩], 4) ∧
  groupOf 0xC222 0x0603 none = ([⟨273, 3, .port 6, 0, false, false⟩], 4)

/-! ### Statements of several parts -/

/-- R266, R268, R269, R299: what the ALU, the divider and the multiplier compute. -/
def Obligations.ArithmeticRules : Prop := Claims.AluOperations ∧ Claims.DivisionRounding ∧ Claims.Products

/-- R258, R264, R266, R268, R270: ALU, multiplier and FPU commands put their results in flight.
It rests in part on choices of the model: logs 29, 75, 76 and 80. -/
def Obligations.ResultsInFlight : Prop := Claims.AluResultInFlight ∧ Claims.MulFpuResultInFlight

/-- R303, R305: what an interrupt entry and a fault entry save and where they go.
It rests in part on choices of the model: log 77. -/
def Obligations.ContextSaves : Prop := Claims.InterruptEntrySavesContext ∧ Claims.FaultEntrySavesContext

/-- R274 to R276, R281, R317, R318: the control, interrupt and GPIO ports.
It rests in part on choices of the model: log 36. -/
def Obligations.ControlAndPinPorts : Prop := Claims.ControlPorts ∧ Claims.GpioActsOnOwnedPins

/-- R258, R261, R281, R282, R284: groups, macros and the decode table.
It rests in part on choices of the model: logs 78 and 79. -/
def Obligations.GroupsAndMacros : Prop := Claims.GroupsWriteRegisters ∧ Claims.DecodeTableWrite

/-- R99, R181, R279, R280: the coprocessor triggers that read, and pl.wr.
It rests in part on choices of the model: log 80. -/
def Obligations.CoprocessorAccess : Prop := Claims.CoprocessorReads ∧ Claims.PlaneWriteByCore

/-- R417: local requests of a core.
It rests in part on choices of the model: logs 30, 37 and 63. -/
def Obligations.LocalRequests : Prop := Claims.NetworkQueueStatus ∧ Claims.LocalRequestByCore

/-- R48, R53, R57, R60: local writes of signals, accepted and refused. -/
def Obligations.LocalSignalWrites : Prop := Claims.LocalSignalStores ∧ Claims.OwnerRefusalDiscards

/-- R52, R53, R74, R153, R341: the fields of an update, the pixels of the blitter, the entries of a commit, the bound of dithering. -/
def Obligations.FieldAndPixelRules : Prop := Claims.UpdateMergesSelectedFields ∧ Claims.BlitterPixels ∧ Claims.CurrentEntriesOfACommit ∧ Claims.DitherKeepsBound

/-- R409, R420: writes of dictionary entries, alone and rival. -/
def Obligations.DictionaryWrites : Prop := Claims.DictionaryStores ∧ Claims.RivalWritesOfOneClock

/-- R310, R311, R313, R320: what moves the state and the routing of a source.
It rests in part on choices of the model: logs 38, 39 and 64. -/
def Obligations.InterruptSources : Prop := Claims.SourceAssertionMoves ∧ Claims.DoorbellRoutingPending

/-- R180 to R183: the commit window, staged writes and commit requests.
It rests in part on choices of the model: log 54. -/
def Obligations.CommitWindow : Prop := Claims.CommitWindowHoldsWrites ∧ Claims.CommitRequests

/-- R62, R67, R171, R179, R180: commit instants, idle commits and the walk.
It rests in part on choices of the model: logs 52 and 54. -/
def Obligations.Commits : Prop := Claims.CommitInstants ∧ Claims.WalkCopiesDirtySignals

/-- R89, R94, R141, R144: latch points, fetches and active lines.
It rests in part on choices of the model: log 100. -/
def Obligations.PlaneLines : Prop := Claims.PlaneLatchAndFetch ∧ Claims.ActiveLineMerges

/-- R174, R175, R192, R196: the link of head P, its AUX channel, and Isobar.
It rests in part on choices of the model: logs 33, 52, 53 and 103. -/
def Obligations.Heads : Prop := Claims.HeadPLink ∧ Claims.AuxAndIsobar

/-- R348 to R357: timer events, groups and registers.
It rests in part on choices of the model: log 61. -/
def Obligations.Timers : Prop := Claims.TimerEvents ∧ Claims.TimerGroups ∧ Claims.TimerRegisters

/-- R371 to R375, R381, R388, R389: audio commands, the queue and sample boundaries.
It rests in part on choices of the model: logs 65 and 74. -/
def Obligations.AudioQueue : Prop := Claims.AudioCommands ∧ Claims.AudioBoundaries

/-- R424, R425, R427, R428, R431: power states, domains, wake causes and resume.
It rests in part on choices of the model: logs 41 and 48. -/
def Obligations.PowerStates : Prop := Claims.StateTransitions ∧ Claims.DomainRequests ∧ Claims.WakeAndResume

/-- R39, R429, R430, R434 to R436, R443, R489: starts, boot failures, training and clocks.
It rests in part on choices of the model: logs 16, 41, 45, 46 and 47. -/
def Obligations.StartsAndClocks : Prop := Claims.Starts ∧ Claims.BootAndClocks

/-- R439, R440: the recovery ladder.
It rests in part on choices of the model: logs 34 and 44. -/
def Obligations.DeviceLadder : Prop := Claims.RecoveryLadder

/-- R445, R446, R459: the lifecycle and the fuses.
It rests in part on choices of the model: logs 82 and 93. -/
def Obligations.LifecycleRules : Prop := Claims.LifecycleAndFuses

/-- R451 to R455, R457: the TAP, debugger accesses and the debug session.
It rests in part on choices of the model: logs 81, 82 and 83. -/
def Obligations.DebugPort : Prop := Claims.TapInstructions ∧ Claims.DebugAccesses ∧ Claims.DebugSession

/-- R466 to R473: counters, captures, self-tests and health.
It rests in part on choices of the model: logs 50, 51 and 87. -/
def Obligations.HealthAndCounters : Prop := Claims.PerformanceCounters ∧ Claims.SelfTestAndHealth
end

