-- ==== Sys2Proof/Laws/Maps.lean ====
section
/-! SUPPORT. The laws of the sparse maps and of the byte memories: reading after writing, and the canonical form that every write keeps. -/
namespace Sys2Proof.Machine

variable {α : Type}

/-- Every key of a map lies above a bound. -/
def keysAbove (b : Nat) (m : SMap α) : Prop := ∀ e ∈ m, b < e.1

theorem keysRise_cons {j : Nat} {v : α} {m : SMap α} : keysRise ((j, v) :: m) = true ↔ keysAbove j m ∧ keysRise m = true := by
  induction m generalizing j v with
  | nil => simp [keysRise, keysAbove]
  | cons e m ih =>
    obtain ⟨k, u⟩ := e
    simp only [keysRise, Bool.and_eq_true, decide_eq_true_eq]
    rw [ih]
    constructor
    · rintro ⟨hjk, ha, hm⟩
      refine ⟨?_, ha, hm⟩
      intro e he
      rcases List.mem_cons.1 he with rfl | he
      · exact hjk
      · exact Nat.lt_trans hjk (ha e he)
    · rintro ⟨h, ha, hm⟩
      exact ⟨h (k, u) (by simp), ha, hm⟩

theorem mapGet_ins_same (d : Nat → α) (m : SMap α) (k : Nat) (v : α) : mapGet d (mapIns k v m) k = v := by
  induction m with
  | nil => simp [mapIns, mapGet]
  | cons e m ih =>
    obtain ⟨j, u⟩ := e
    simp only [mapIns]
    split
    · simp [mapGet]
    · split
      · simp [mapGet]
      · next h => simp only [mapGet, h, if_false, ih]

theorem mapGet_ins_other (d : Nat → α) (m : SMap α) (k j : Nat) (v : α) (h : j ≠ k) : mapGet d (mapIns k v m) j = mapGet d m j := by
  induction m with
  | nil => simp [mapIns, mapGet, h]
  | cons e m ih =>
    obtain ⟨i, u⟩ := e
    simp only [mapIns]
    split
    · simp [mapGet, h]
    · split
      · next h1 => subst h1; simp [mapGet, h]
      · simp only [mapGet, ih]

theorem mapGet_del_same (d : Nat → α) (m : SMap α) (k : Nat) : mapGet d (mapDel k m) k = d k := by
  induction m with
  | nil => simp [mapDel, mapGet]
  | cons e m ih =>
    obtain ⟨j, u⟩ := e
    by_cases h : j = k
    · subst h; simpa [mapDel] using ih
    · have h' : ¬ k = j := fun x => h x.symm
      simp only [mapDel] at ih ⊢
      rw [List.filter_cons_of_pos (by simp [h])]
      simp only [mapGet, h', if_false, ih]

theorem mapGet_del_other (d : Nat → α) (m : SMap α) (k j : Nat) (h : j ≠ k) : mapGet d (mapDel k m) j = mapGet d m j := by
  induction m with
  | nil => simp [mapDel]
  | cons e m ih =>
    obtain ⟨i, u⟩ := e
    by_cases hi : i = k
    · subst hi; simp only [mapDel] at ih ⊢; simp [List.filter, mapGet, h, ih]
    · simp only [mapDel] at ih ⊢
      rw [List.filter_cons_of_pos (by simp [hi])]
      simp only [mapGet, ih]

/-- A map reads back what was written. -/
@[simp] theorem mapGet_set_same [DecidableEq α] (d : Nat → α) (m : SMap α) (k : Nat) (v : α) : mapGet d (mapSet d m k v) k = v := by
  unfold mapSet
  split
  · next h => rw [mapGet_del_same, h]
  · exact mapGet_ins_same d m k v

/-- A write leaves every other key alone. -/
theorem mapGet_set_other [DecidableEq α] (d : Nat → α) (m : SMap α) (k j : Nat) (v : α) (h : j ≠ k) :
    mapGet d (mapSet d m k v) j = mapGet d m j := by
  unfold mapSet
  split
  · exact mapGet_del_other d m k j h
  · exact mapGet_ins_other d m k j v h

/-- Reading after writing, in one equation. -/
theorem mapGet_set [DecidableEq α] (d : Nat → α) (m : SMap α) (k j : Nat) (v : α) :
    mapGet d (mapSet d m k v) j = if j = k then v else mapGet d m j := by
  split
  · next h => subst h; simp
  · next h => exact mapGet_set_other d m k j v h

theorem keysAbove_ins {b k : Nat} {v : α} {m : SMap α} (h : keysAbove b m) (hb : b < k) : keysAbove b (mapIns k v m) := by
  induction m with
  | nil => intro e he; simp [mapIns] at he; simp [he, hb]
  | cons e m ih =>
    obtain ⟨j, u⟩ := e
    have hj : b < j := h (j, u) (by simp)
    have hm : keysAbove b m := fun e he => h e (by simp [he])
    simp only [mapIns]
    split
    · intro e he
      rcases List.mem_cons.1 he with rfl | he
      · exact hb
      · exact h e he
    · split
      · intro e he
        rcases List.mem_cons.1 he with rfl | he
        · exact hb
        · exact hm e he
      · intro e he
        rcases List.mem_cons.1 he with rfl | he
        · exact hj
        · exact ih hm e he

theorem keysRise_ins {k : Nat} {v : α} {m : SMap α} (h : keysRise m = true) : keysRise (mapIns k v m) = true := by
  induction m with
  | nil => rfl
  | cons e m ih =>
    obtain ⟨j, u⟩ := e
    obtain ⟨ha, hm⟩ := keysRise_cons.1 h
    simp only [mapIns]
    split
    · next hkj =>
      refine keysRise_cons.2 ⟨?_, h⟩
      intro e he
      rcases List.mem_cons.1 he with rfl | he
      · exact hkj
      · exact Nat.lt_trans hkj (ha e he)
    · split
      · next hkj => subst hkj; exact keysRise_cons.2 ⟨ha, hm⟩
      · next h1 h2 => exact keysRise_cons.2 ⟨keysAbove_ins ha (by omega), ih hm⟩

theorem keysRise_filter {p : Nat × α → Bool} {m : SMap α} (h : keysRise m = true) : keysRise (m.filter p) = true := by
  induction m with
  | nil => rfl
  | cons e m ih =>
    obtain ⟨j, u⟩ := e
    obtain ⟨ha, hm⟩ := keysRise_cons.1 h
    simp only [List.filter_cons]
    split
    · exact keysRise_cons.2 ⟨fun e he => ha e (List.mem_filter.1 he).1, ih hm⟩
    · exact ih hm

theorem mem_ins {k : Nat} {v : α} {m : SMap α} {e : Nat × α} (h : e ∈ mapIns k v m) : e = (k, v) ∨ e ∈ m := by
  induction m with
  | nil => simpa [mapIns] using h
  | cons f m ih =>
    obtain ⟨j, u⟩ := f
    simp only [mapIns] at h
    split at h
    · simpa using h
    · split at h
      · rcases List.mem_cons.1 h with h | h
        · exact .inl h
        · exact .inr (by simp [h])
      · rcases List.mem_cons.1 h with h | h
        · exact .inr (by simp [h])
        · rcases ih h with h | h
          · exact .inl h
          · exact .inr (by simp [h])

/-- A write keeps the canonical form. -/
theorem mapSet_wf [DecidableEq α] {d : Nat → α} {m : SMap α} (k : Nat) (v : α) (h : mapWf d m = true) : mapWf d (mapSet d m k v) = true := by
  simp only [mapWf, Bool.and_eq_true, List.all_eq_true] at h ⊢
  obtain ⟨hr, hd⟩ := h
  unfold mapSet
  split
  · exact ⟨keysRise_filter hr, fun e he => hd e (List.mem_filter.1 he).1⟩
  · next hv =>
    refine ⟨keysRise_ins hr, fun e he => ?_⟩
    rcases mem_ins he with rfl | he
    · simpa using hv
    · exact hd e he

/-- Dropping keys keeps the canonical form. -/
theorem mapDrop_wf [DecidableEq α] {d : Nat → α} {m : SMap α} (p : Nat → Bool) (h : mapWf d m = true) : mapWf d (mapDrop p m) = true := by
  simp only [mapWf, Bool.and_eq_true, List.all_eq_true] at h ⊢
  exact ⟨keysRise_filter h.1, fun e he => h.2 e (List.mem_filter.1 he).1⟩

/-- Writes of many keys keep the canonical form. -/
theorem mapSetMany_wf [DecidableEq α] {d : Nat → α} {m : SMap α} (k : Nat) (vs : List α) (h : mapWf d m = true) :
    mapWf d (mapSetMany d m k vs) = true := by
  induction vs generalizing m k with
  | nil => exact h
  | cons v vs ih => exact ih (k + 1) (mapSet_wf k v h)

/-! ### Byte memories -/

/-- A memory write keeps the canonical form. -/
theorem writeBytes_wf {m : SMap Byte} (size a : Nat) (b : List Byte) (h : mapWf memReset m = true) :
    mapWf memReset (writeBytes size m a b) = true := by
  induction b generalizing m a with
  | nil => exact h
  | cons x xs ih => exact ih (a + 1) (mapSet_wf (a % size) x h)

/-- A memory write leaves every byte outside the stored bytes alone. -/
theorem byteAt_write_other {m : SMap Byte} (size a x : Nat) (b : List Byte) (h : ∀ i, i < b.length → (a + i) % size ≠ x) :
    byteAt (writeBytes size m a b) x = byteAt m x := by
  induction b generalizing m a with
  | nil => rfl
  | cons y ys ih =>
    have h0 : x ≠ a % size := fun e => h 0 (by simp) (by simpa using e.symm)
    simp only [writeBytes]
    rw [ih (a + 1) (fun i hi => by have := h (i + 1) (by simpa using hi); rwa [show a + 1 + i = a + (i + 1) by omega])]
    exact mapGet_set_other memReset m (a % size) x y h0

/-- A memory write of at most `size` bytes reads back. -/
theorem byteAt_write_same {m : SMap Byte} (size a i : Nat) (b : List Byte) (hs : b.length ≤ size) (hi : i < b.length) :
    byteAt (writeBytes size m a b) ((a + i) % size) = b[i] := by
  induction b generalizing m a i with
  | nil => simp at hi
  | cons y ys ih =>
    simp only [List.length_cons] at hs hi
    cases i with
    | zero =>
      simp only [writeBytes, Nat.add_zero, List.getElem_cons_zero]
      rw [byteAt_write_other size (a + 1) (a % size) ys]
      · exact mapGet_set_same memReset m (a % size) y
      · intro j hj e
        have hz : (j + 1) % size = 0 := by
          have h1 := e
          rw [show a + 1 + j = a + (j + 1) by omega] at h1
          have h2 := Nat.sub_mod_eq_zero_of_mod_eq h1
          simpa [Nat.add_sub_cancel_left] using h2
        rw [Nat.mod_eq_of_lt (by omega)] at hz
        omega
    | succ j =>
      simp only [writeBytes, List.getElem_cons_succ]
      rw [show a + (j + 1) = a + 1 + j by omega]
      exact ih (a + 1) j (by omega) (by omega)

end Sys2Proof.Machine
end

