-- ==== Sys2Proof/Laws/State.lean ====
section
/-! SUPPORT. What each named update of the state leaves in every field: one lemma per field, true by definition. -/
namespace Sys2Proof.Machine

variable (s : State)

/-! ### setCore -/

@[simp] theorem setCore_variant (c : Nat) (x : Core) : (setCore s c x).variant = s.variant := rfl
@[simp] theorem setCore_pending (c : Nat) (x : Core) : (setCore s c x).pending = s.pending := rfl
@[simp] theorem setCore_freeCtr (c : Nat) (x : Core) : (setCore s c x).freeCtr = s.freeCtr := rfl
@[simp] theorem setCore_clk (c : Nat) (x : Core) : (setCore s c x).clk = s.clk := rfl
@[simp] theorem setCore_raised (c : Nat) (x : Core) : (setCore s c x).raised = s.raised := rfl
@[simp] theorem setCore_counted (c : Nat) (x : Core) : (setCore s c x).counted = s.counted := rfl
@[simp] theorem setCore_woken (c : Nat) (x : Core) : (setCore s c x).woken = s.woken := rfl
@[simp] theorem setCore_tb (c : Nat) (x : Core) : (setCore s c x).tb = s.tb := rfl
@[simp] theorem setCore_dict (c : Nat) (x : Core) : (setCore s c x).dict = s.dict := rfl
@[simp] theorem setCore_blobs (c : Nat) (x : Core) : (setCore s c x).blobs = s.blobs := rfl
@[simp] theorem setCore_saved (c : Nat) (x : Core) : (setCore s c x).saved = s.saved := rfl
@[simp] theorem setCore_savedBlobs (c : Nat) (x : Core) : (setCore s c x).savedBlobs = s.savedBlobs := rfl
@[simp] theorem setCore_snaps (c : Nat) (x : Core) : (setCore s c x).snaps = s.snaps := rfl
@[simp] theorem setCore_mem (c : Nat) (x : Core) : (setCore s c x).mem = s.mem := rfl
@[simp] theorem setCore_ic (c : Nat) (x : Core) : (setCore s c x).ic = s.ic := rfl
@[simp] theorem setCore_ss (c : Nat) (x : Core) : (setCore s c x).ss = s.ss := rfl
@[simp] theorem setCore_raster (c : Nat) (x : Core) : (setCore s c x).raster = s.raster := rfl
@[simp] theorem setCore_gfx (c : Nat) (x : Core) : (setCore s c x).gfx = s.gfx := rfl
@[simp] theorem setCore_ver (c : Nat) (x : Core) : (setCore s c x).ver = s.ver := rfl
@[simp] theorem setCore_wb (c : Nat) (x : Core) : (setCore s c x).wb = s.wb := rfl
@[simp] theorem setCore_hp (c : Nat) (x : Core) : (setCore s c x).hp = s.hp := rfl
@[simp] theorem setCore_net (c : Nat) (x : Core) : (setCore s c x).net = s.net := rfl
@[simp] theorem setCore_cores (c : Nat) (x : Core) : (setCore s c x).cores = mapSet (fun _ => {}) s.cores c x := rfl
@[simp] theorem setCore_bm (c : Nat) (x : Core) : (setCore s c x).bm = s.bm := rfl
@[simp] theorem setCore_dma (c : Nat) (x : Core) : (setCore s c x).dma = s.dma := rfl
@[simp] theorem setCore_blt (c : Nat) (x : Core) : (setCore s c x).blt = s.blt := rfl
@[simp] theorem setCore_tm (c : Nat) (x : Core) : (setCore s c x).tm = s.tm := rfl
@[simp] theorem setCore_pins (c : Nat) (x : Core) : (setCore s c x).pins = s.pins := rfl
@[simp] theorem setCore_sec (c : Nat) (x : Core) : (setCore s c x).sec = s.sec := rfl
@[simp] theorem setCore_aud (c : Nat) (x : Core) : (setCore s c x).aud = s.aud := rfl
@[simp] theorem setCore_pwr (c : Nat) (x : Core) : (setCore s c x).pwr = s.pwr := rfl
@[simp] theorem setCore_health (c : Nat) (x : Core) : (setCore s c x).health = s.health := rfl

/-! ### regSet -/

@[simp] theorem regSet_variant (k : Nat) (v : Word) : (regSet s k v).variant = s.variant := rfl
@[simp] theorem regSet_pending (k : Nat) (v : Word) : (regSet s k v).pending = s.pending := rfl
@[simp] theorem regSet_freeCtr (k : Nat) (v : Word) : (regSet s k v).freeCtr = s.freeCtr := rfl
@[simp] theorem regSet_clk (k : Nat) (v : Word) : (regSet s k v).clk = s.clk := rfl
@[simp] theorem regSet_raised (k : Nat) (v : Word) : (regSet s k v).raised = s.raised := rfl
@[simp] theorem regSet_counted (k : Nat) (v : Word) : (regSet s k v).counted = s.counted := rfl
@[simp] theorem regSet_woken (k : Nat) (v : Word) : (regSet s k v).woken = s.woken := rfl
@[simp] theorem regSet_tb (k : Nat) (v : Word) : (regSet s k v).tb = s.tb := rfl
@[simp] theorem regSet_dict (k : Nat) (v : Word) : (regSet s k v).dict = mapSet dictReset s.dict k v := rfl
@[simp] theorem regSet_blobs (k : Nat) (v : Word) : (regSet s k v).blobs = s.blobs := rfl
@[simp] theorem regSet_saved (k : Nat) (v : Word) : (regSet s k v).saved = s.saved := rfl
@[simp] theorem regSet_savedBlobs (k : Nat) (v : Word) : (regSet s k v).savedBlobs = s.savedBlobs := rfl
@[simp] theorem regSet_snaps (k : Nat) (v : Word) : (regSet s k v).snaps = s.snaps := rfl
@[simp] theorem regSet_mem (k : Nat) (v : Word) : (regSet s k v).mem = s.mem := rfl
@[simp] theorem regSet_ic (k : Nat) (v : Word) : (regSet s k v).ic = s.ic := rfl
@[simp] theorem regSet_ss (k : Nat) (v : Word) : (regSet s k v).ss = s.ss := rfl
@[simp] theorem regSet_raster (k : Nat) (v : Word) : (regSet s k v).raster = s.raster := rfl
@[simp] theorem regSet_gfx (k : Nat) (v : Word) : (regSet s k v).gfx = s.gfx := rfl
@[simp] theorem regSet_ver (k : Nat) (v : Word) : (regSet s k v).ver = s.ver := rfl
@[simp] theorem regSet_wb (k : Nat) (v : Word) : (regSet s k v).wb = s.wb := rfl
@[simp] theorem regSet_hp (k : Nat) (v : Word) : (regSet s k v).hp = s.hp := rfl
@[simp] theorem regSet_net (k : Nat) (v : Word) : (regSet s k v).net = s.net := rfl
@[simp] theorem regSet_cores (k : Nat) (v : Word) : (regSet s k v).cores = s.cores := rfl
@[simp] theorem regSet_bm (k : Nat) (v : Word) : (regSet s k v).bm = s.bm := rfl
@[simp] theorem regSet_dma (k : Nat) (v : Word) : (regSet s k v).dma = s.dma := rfl
@[simp] theorem regSet_blt (k : Nat) (v : Word) : (regSet s k v).blt = s.blt := rfl
@[simp] theorem regSet_tm (k : Nat) (v : Word) : (regSet s k v).tm = s.tm := rfl
@[simp] theorem regSet_pins (k : Nat) (v : Word) : (regSet s k v).pins = s.pins := rfl
@[simp] theorem regSet_sec (k : Nat) (v : Word) : (regSet s k v).sec = s.sec := rfl
@[simp] theorem regSet_aud (k : Nat) (v : Word) : (regSet s k v).aud = s.aud := rfl
@[simp] theorem regSet_pwr (k : Nat) (v : Word) : (regSet s k v).pwr = s.pwr := rfl
@[simp] theorem regSet_health (k : Nat) (v : Word) : (regSet s k v).health = s.health := rfl

/-! ### setN -/

@[simp] theorem setN_variant (k n : Nat) : (setN s k n).variant = s.variant := rfl
@[simp] theorem setN_pending (k n : Nat) : (setN s k n).pending = s.pending := rfl
@[simp] theorem setN_freeCtr (k n : Nat) : (setN s k n).freeCtr = s.freeCtr := rfl
@[simp] theorem setN_clk (k n : Nat) : (setN s k n).clk = s.clk := rfl
@[simp] theorem setN_raised (k n : Nat) : (setN s k n).raised = s.raised := rfl
@[simp] theorem setN_counted (k n : Nat) : (setN s k n).counted = s.counted := rfl
@[simp] theorem setN_woken (k n : Nat) : (setN s k n).woken = s.woken := rfl
@[simp] theorem setN_tb (k n : Nat) : (setN s k n).tb = s.tb := rfl
@[simp] theorem setN_blobs (k n : Nat) : (setN s k n).blobs = s.blobs := rfl
@[simp] theorem setN_saved (k n : Nat) : (setN s k n).saved = s.saved := rfl
@[simp] theorem setN_savedBlobs (k n : Nat) : (setN s k n).savedBlobs = s.savedBlobs := rfl
@[simp] theorem setN_snaps (k n : Nat) : (setN s k n).snaps = s.snaps := rfl
@[simp] theorem setN_mem (k n : Nat) : (setN s k n).mem = s.mem := rfl
@[simp] theorem setN_ic (k n : Nat) : (setN s k n).ic = s.ic := rfl
@[simp] theorem setN_ss (k n : Nat) : (setN s k n).ss = s.ss := rfl
@[simp] theorem setN_raster (k n : Nat) : (setN s k n).raster = s.raster := rfl
@[simp] theorem setN_gfx (k n : Nat) : (setN s k n).gfx = s.gfx := rfl
@[simp] theorem setN_ver (k n : Nat) : (setN s k n).ver = s.ver := rfl
@[simp] theorem setN_wb (k n : Nat) : (setN s k n).wb = s.wb := rfl
@[simp] theorem setN_hp (k n : Nat) : (setN s k n).hp = s.hp := rfl
@[simp] theorem setN_net (k n : Nat) : (setN s k n).net = s.net := rfl
@[simp] theorem setN_cores (k n : Nat) : (setN s k n).cores = s.cores := rfl
@[simp] theorem setN_bm (k n : Nat) : (setN s k n).bm = s.bm := rfl
@[simp] theorem setN_dma (k n : Nat) : (setN s k n).dma = s.dma := rfl
@[simp] theorem setN_blt (k n : Nat) : (setN s k n).blt = s.blt := rfl
@[simp] theorem setN_tm (k n : Nat) : (setN s k n).tm = s.tm := rfl
@[simp] theorem setN_pins (k n : Nat) : (setN s k n).pins = s.pins := rfl
@[simp] theorem setN_sec (k n : Nat) : (setN s k n).sec = s.sec := rfl
@[simp] theorem setN_aud (k n : Nat) : (setN s k n).aud = s.aud := rfl
@[simp] theorem setN_pwr (k n : Nat) : (setN s k n).pwr = s.pwr := rfl
@[simp] theorem setN_health (k n : Nat) : (setN s k n).health = s.health := rfl

/-! ### setFld -/

@[simp] theorem setFld_variant (k lo n x : Nat) : (setFld s k lo n x).variant = s.variant := rfl
@[simp] theorem setFld_pending (k lo n x : Nat) : (setFld s k lo n x).pending = s.pending := rfl
@[simp] theorem setFld_freeCtr (k lo n x : Nat) : (setFld s k lo n x).freeCtr = s.freeCtr := rfl
@[simp] theorem setFld_clk (k lo n x : Nat) : (setFld s k lo n x).clk = s.clk := rfl
@[simp] theorem setFld_raised (k lo n x : Nat) : (setFld s k lo n x).raised = s.raised := rfl
@[simp] theorem setFld_counted (k lo n x : Nat) : (setFld s k lo n x).counted = s.counted := rfl
@[simp] theorem setFld_woken (k lo n x : Nat) : (setFld s k lo n x).woken = s.woken := rfl
@[simp] theorem setFld_tb (k lo n x : Nat) : (setFld s k lo n x).tb = s.tb := rfl
@[simp] theorem setFld_blobs (k lo n x : Nat) : (setFld s k lo n x).blobs = s.blobs := rfl
@[simp] theorem setFld_saved (k lo n x : Nat) : (setFld s k lo n x).saved = s.saved := rfl
@[simp] theorem setFld_savedBlobs (k lo n x : Nat) : (setFld s k lo n x).savedBlobs = s.savedBlobs := rfl
@[simp] theorem setFld_snaps (k lo n x : Nat) : (setFld s k lo n x).snaps = s.snaps := rfl
@[simp] theorem setFld_mem (k lo n x : Nat) : (setFld s k lo n x).mem = s.mem := rfl
@[simp] theorem setFld_ic (k lo n x : Nat) : (setFld s k lo n x).ic = s.ic := rfl
@[simp] theorem setFld_ss (k lo n x : Nat) : (setFld s k lo n x).ss = s.ss := rfl
@[simp] theorem setFld_raster (k lo n x : Nat) : (setFld s k lo n x).raster = s.raster := rfl
@[simp] theorem setFld_gfx (k lo n x : Nat) : (setFld s k lo n x).gfx = s.gfx := rfl
@[simp] theorem setFld_ver (k lo n x : Nat) : (setFld s k lo n x).ver = s.ver := rfl
@[simp] theorem setFld_wb (k lo n x : Nat) : (setFld s k lo n x).wb = s.wb := rfl
@[simp] theorem setFld_hp (k lo n x : Nat) : (setFld s k lo n x).hp = s.hp := rfl
@[simp] theorem setFld_net (k lo n x : Nat) : (setFld s k lo n x).net = s.net := rfl
@[simp] theorem setFld_cores (k lo n x : Nat) : (setFld s k lo n x).cores = s.cores := rfl
@[simp] theorem setFld_bm (k lo n x : Nat) : (setFld s k lo n x).bm = s.bm := rfl
@[simp] theorem setFld_dma (k lo n x : Nat) : (setFld s k lo n x).dma = s.dma := rfl
@[simp] theorem setFld_blt (k lo n x : Nat) : (setFld s k lo n x).blt = s.blt := rfl
@[simp] theorem setFld_tm (k lo n x : Nat) : (setFld s k lo n x).tm = s.tm := rfl
@[simp] theorem setFld_pins (k lo n x : Nat) : (setFld s k lo n x).pins = s.pins := rfl
@[simp] theorem setFld_sec (k lo n x : Nat) : (setFld s k lo n x).sec = s.sec := rfl
@[simp] theorem setFld_aud (k lo n x : Nat) : (setFld s k lo n x).aud = s.aud := rfl
@[simp] theorem setFld_pwr (k lo n x : Nat) : (setFld s k lo n x).pwr = s.pwr := rfl
@[simp] theorem setFld_health (k lo n x : Nat) : (setFld s k lo n x).health = s.health := rfl

/-! ### blobSet -/

@[simp] theorem blobSet_variant (k : Nat) (b : List Byte) : (blobSet s k b).variant = s.variant := rfl
@[simp] theorem blobSet_pending (k : Nat) (b : List Byte) : (blobSet s k b).pending = s.pending := rfl
@[simp] theorem blobSet_freeCtr (k : Nat) (b : List Byte) : (blobSet s k b).freeCtr = s.freeCtr := rfl
@[simp] theorem blobSet_clk (k : Nat) (b : List Byte) : (blobSet s k b).clk = s.clk := rfl
@[simp] theorem blobSet_raised (k : Nat) (b : List Byte) : (blobSet s k b).raised = s.raised := rfl
@[simp] theorem blobSet_counted (k : Nat) (b : List Byte) : (blobSet s k b).counted = s.counted := rfl
@[simp] theorem blobSet_woken (k : Nat) (b : List Byte) : (blobSet s k b).woken = s.woken := rfl
@[simp] theorem blobSet_tb (k : Nat) (b : List Byte) : (blobSet s k b).tb = s.tb := rfl
@[simp] theorem blobSet_dict (k : Nat) (b : List Byte) : (blobSet s k b).dict = s.dict := rfl
@[simp] theorem blobSet_blobs (k : Nat) (b : List Byte) : (blobSet s k b).blobs = mapSet (fun _ => []) s.blobs k b := rfl
@[simp] theorem blobSet_saved (k : Nat) (b : List Byte) : (blobSet s k b).saved = s.saved := rfl
@[simp] theorem blobSet_savedBlobs (k : Nat) (b : List Byte) : (blobSet s k b).savedBlobs = s.savedBlobs := rfl
@[simp] theorem blobSet_snaps (k : Nat) (b : List Byte) : (blobSet s k b).snaps = s.snaps := rfl
@[simp] theorem blobSet_mem (k : Nat) (b : List Byte) : (blobSet s k b).mem = s.mem := rfl
@[simp] theorem blobSet_ic (k : Nat) (b : List Byte) : (blobSet s k b).ic = s.ic := rfl
@[simp] theorem blobSet_ss (k : Nat) (b : List Byte) : (blobSet s k b).ss = s.ss := rfl
@[simp] theorem blobSet_raster (k : Nat) (b : List Byte) : (blobSet s k b).raster = s.raster := rfl
@[simp] theorem blobSet_gfx (k : Nat) (b : List Byte) : (blobSet s k b).gfx = s.gfx := rfl
@[simp] theorem blobSet_ver (k : Nat) (b : List Byte) : (blobSet s k b).ver = s.ver := rfl
@[simp] theorem blobSet_wb (k : Nat) (b : List Byte) : (blobSet s k b).wb = s.wb := rfl
@[simp] theorem blobSet_hp (k : Nat) (b : List Byte) : (blobSet s k b).hp = s.hp := rfl
@[simp] theorem blobSet_net (k : Nat) (b : List Byte) : (blobSet s k b).net = s.net := rfl
@[simp] theorem blobSet_cores (k : Nat) (b : List Byte) : (blobSet s k b).cores = s.cores := rfl
@[simp] theorem blobSet_bm (k : Nat) (b : List Byte) : (blobSet s k b).bm = s.bm := rfl
@[simp] theorem blobSet_dma (k : Nat) (b : List Byte) : (blobSet s k b).dma = s.dma := rfl
@[simp] theorem blobSet_blt (k : Nat) (b : List Byte) : (blobSet s k b).blt = s.blt := rfl
@[simp] theorem blobSet_tm (k : Nat) (b : List Byte) : (blobSet s k b).tm = s.tm := rfl
@[simp] theorem blobSet_pins (k : Nat) (b : List Byte) : (blobSet s k b).pins = s.pins := rfl
@[simp] theorem blobSet_sec (k : Nat) (b : List Byte) : (blobSet s k b).sec = s.sec := rfl
@[simp] theorem blobSet_aud (k : Nat) (b : List Byte) : (blobSet s k b).aud = s.aud := rfl
@[simp] theorem blobSet_pwr (k : Nat) (b : List Byte) : (blobSet s k b).pwr = s.pwr := rfl
@[simp] theorem blobSet_health (k : Nat) (b : List Byte) : (blobSet s k b).health = s.health := rfl

/-! ### setRaster -/

@[simp] theorem setRaster_variant (r : Raster) : (setRaster s r).variant = s.variant := rfl
@[simp] theorem setRaster_pending (r : Raster) : (setRaster s r).pending = s.pending := rfl
@[simp] theorem setRaster_freeCtr (r : Raster) : (setRaster s r).freeCtr = s.freeCtr := rfl
@[simp] theorem setRaster_clk (r : Raster) : (setRaster s r).clk = s.clk := rfl
@[simp] theorem setRaster_raised (r : Raster) : (setRaster s r).raised = s.raised := rfl
@[simp] theorem setRaster_counted (r : Raster) : (setRaster s r).counted = s.counted := rfl
@[simp] theorem setRaster_woken (r : Raster) : (setRaster s r).woken = s.woken := rfl
@[simp] theorem setRaster_tb (r : Raster) : (setRaster s r).tb = s.tb := rfl
@[simp] theorem setRaster_dict (r : Raster) : (setRaster s r).dict = s.dict := rfl
@[simp] theorem setRaster_blobs (r : Raster) : (setRaster s r).blobs = s.blobs := rfl
@[simp] theorem setRaster_saved (r : Raster) : (setRaster s r).saved = s.saved := rfl
@[simp] theorem setRaster_savedBlobs (r : Raster) : (setRaster s r).savedBlobs = s.savedBlobs := rfl
@[simp] theorem setRaster_snaps (r : Raster) : (setRaster s r).snaps = s.snaps := rfl
@[simp] theorem setRaster_mem (r : Raster) : (setRaster s r).mem = s.mem := rfl
@[simp] theorem setRaster_ic (r : Raster) : (setRaster s r).ic = s.ic := rfl
@[simp] theorem setRaster_ss (r : Raster) : (setRaster s r).ss = s.ss := rfl
@[simp] theorem setRaster_raster (r : Raster) : (setRaster s r).raster = r := rfl
@[simp] theorem setRaster_gfx (r : Raster) : (setRaster s r).gfx = s.gfx := rfl
@[simp] theorem setRaster_ver (r : Raster) : (setRaster s r).ver = s.ver := rfl
@[simp] theorem setRaster_wb (r : Raster) : (setRaster s r).wb = s.wb := rfl
@[simp] theorem setRaster_hp (r : Raster) : (setRaster s r).hp = s.hp := rfl
@[simp] theorem setRaster_net (r : Raster) : (setRaster s r).net = s.net := rfl
@[simp] theorem setRaster_cores (r : Raster) : (setRaster s r).cores = s.cores := rfl
@[simp] theorem setRaster_bm (r : Raster) : (setRaster s r).bm = s.bm := rfl
@[simp] theorem setRaster_dma (r : Raster) : (setRaster s r).dma = s.dma := rfl
@[simp] theorem setRaster_blt (r : Raster) : (setRaster s r).blt = s.blt := rfl
@[simp] theorem setRaster_tm (r : Raster) : (setRaster s r).tm = s.tm := rfl
@[simp] theorem setRaster_pins (r : Raster) : (setRaster s r).pins = s.pins := rfl
@[simp] theorem setRaster_sec (r : Raster) : (setRaster s r).sec = s.sec := rfl
@[simp] theorem setRaster_aud (r : Raster) : (setRaster s r).aud = s.aud := rfl
@[simp] theorem setRaster_pwr (r : Raster) : (setRaster s r).pwr = s.pwr := rfl
@[simp] theorem setRaster_health (r : Raster) : (setRaster s r).health = s.health := rfl

/-! ### setNet -/

@[simp] theorem setNet_variant (n : Net) : (setNet s n).variant = s.variant := rfl
@[simp] theorem setNet_pending (n : Net) : (setNet s n).pending = s.pending := rfl
@[simp] theorem setNet_freeCtr (n : Net) : (setNet s n).freeCtr = s.freeCtr := rfl
@[simp] theorem setNet_clk (n : Net) : (setNet s n).clk = s.clk := rfl
@[simp] theorem setNet_raised (n : Net) : (setNet s n).raised = s.raised := rfl
@[simp] theorem setNet_counted (n : Net) : (setNet s n).counted = s.counted := rfl
@[simp] theorem setNet_woken (n : Net) : (setNet s n).woken = s.woken := rfl
@[simp] theorem setNet_tb (n : Net) : (setNet s n).tb = s.tb := rfl
@[simp] theorem setNet_dict (n : Net) : (setNet s n).dict = s.dict := rfl
@[simp] theorem setNet_blobs (n : Net) : (setNet s n).blobs = s.blobs := rfl
@[simp] theorem setNet_saved (n : Net) : (setNet s n).saved = s.saved := rfl
@[simp] theorem setNet_savedBlobs (n : Net) : (setNet s n).savedBlobs = s.savedBlobs := rfl
@[simp] theorem setNet_snaps (n : Net) : (setNet s n).snaps = s.snaps := rfl
@[simp] theorem setNet_mem (n : Net) : (setNet s n).mem = s.mem := rfl
@[simp] theorem setNet_ic (n : Net) : (setNet s n).ic = s.ic := rfl
@[simp] theorem setNet_ss (n : Net) : (setNet s n).ss = s.ss := rfl
@[simp] theorem setNet_raster (n : Net) : (setNet s n).raster = s.raster := rfl
@[simp] theorem setNet_gfx (n : Net) : (setNet s n).gfx = s.gfx := rfl
@[simp] theorem setNet_ver (n : Net) : (setNet s n).ver = s.ver := rfl
@[simp] theorem setNet_wb (n : Net) : (setNet s n).wb = s.wb := rfl
@[simp] theorem setNet_hp (n : Net) : (setNet s n).hp = s.hp := rfl
@[simp] theorem setNet_net (n : Net) : (setNet s n).net = n := rfl
@[simp] theorem setNet_cores (n : Net) : (setNet s n).cores = s.cores := rfl
@[simp] theorem setNet_bm (n : Net) : (setNet s n).bm = s.bm := rfl
@[simp] theorem setNet_dma (n : Net) : (setNet s n).dma = s.dma := rfl
@[simp] theorem setNet_blt (n : Net) : (setNet s n).blt = s.blt := rfl
@[simp] theorem setNet_tm (n : Net) : (setNet s n).tm = s.tm := rfl
@[simp] theorem setNet_pins (n : Net) : (setNet s n).pins = s.pins := rfl
@[simp] theorem setNet_sec (n : Net) : (setNet s n).sec = s.sec := rfl
@[simp] theorem setNet_aud (n : Net) : (setNet s n).aud = s.aud := rfl
@[simp] theorem setNet_pwr (n : Net) : (setNet s n).pwr = s.pwr := rfl
@[simp] theorem setNet_health (n : Net) : (setNet s n).health = s.health := rfl

/-! ### setPwr -/

@[simp] theorem setPwr_variant (p : Power) : (setPwr s p).variant = s.variant := rfl
@[simp] theorem setPwr_pending (p : Power) : (setPwr s p).pending = s.pending := rfl
@[simp] theorem setPwr_freeCtr (p : Power) : (setPwr s p).freeCtr = s.freeCtr := rfl
@[simp] theorem setPwr_clk (p : Power) : (setPwr s p).clk = s.clk := rfl
@[simp] theorem setPwr_raised (p : Power) : (setPwr s p).raised = s.raised := rfl
@[simp] theorem setPwr_counted (p : Power) : (setPwr s p).counted = s.counted := rfl
@[simp] theorem setPwr_woken (p : Power) : (setPwr s p).woken = s.woken := rfl
@[simp] theorem setPwr_tb (p : Power) : (setPwr s p).tb = s.tb := rfl
@[simp] theorem setPwr_dict (p : Power) : (setPwr s p).dict = s.dict := rfl
@[simp] theorem setPwr_blobs (p : Power) : (setPwr s p).blobs = s.blobs := rfl
@[simp] theorem setPwr_saved (p : Power) : (setPwr s p).saved = s.saved := rfl
@[simp] theorem setPwr_savedBlobs (p : Power) : (setPwr s p).savedBlobs = s.savedBlobs := rfl
@[simp] theorem setPwr_snaps (p : Power) : (setPwr s p).snaps = s.snaps := rfl
@[simp] theorem setPwr_mem (p : Power) : (setPwr s p).mem = s.mem := rfl
@[simp] theorem setPwr_ic (p : Power) : (setPwr s p).ic = s.ic := rfl
@[simp] theorem setPwr_ss (p : Power) : (setPwr s p).ss = s.ss := rfl
@[simp] theorem setPwr_raster (p : Power) : (setPwr s p).raster = s.raster := rfl
@[simp] theorem setPwr_gfx (p : Power) : (setPwr s p).gfx = s.gfx := rfl
@[simp] theorem setPwr_ver (p : Power) : (setPwr s p).ver = s.ver := rfl
@[simp] theorem setPwr_wb (p : Power) : (setPwr s p).wb = s.wb := rfl
@[simp] theorem setPwr_hp (p : Power) : (setPwr s p).hp = s.hp := rfl
@[simp] theorem setPwr_net (p : Power) : (setPwr s p).net = s.net := rfl
@[simp] theorem setPwr_cores (p : Power) : (setPwr s p).cores = s.cores := rfl
@[simp] theorem setPwr_bm (p : Power) : (setPwr s p).bm = s.bm := rfl
@[simp] theorem setPwr_dma (p : Power) : (setPwr s p).dma = s.dma := rfl
@[simp] theorem setPwr_blt (p : Power) : (setPwr s p).blt = s.blt := rfl
@[simp] theorem setPwr_tm (p : Power) : (setPwr s p).tm = s.tm := rfl
@[simp] theorem setPwr_pins (p : Power) : (setPwr s p).pins = s.pins := rfl
@[simp] theorem setPwr_sec (p : Power) : (setPwr s p).sec = s.sec := rfl
@[simp] theorem setPwr_aud (p : Power) : (setPwr s p).aud = s.aud := rfl
@[simp] theorem setPwr_pwr (p : Power) : (setPwr s p).pwr = p := rfl
@[simp] theorem setPwr_health (p : Power) : (setPwr s p).health = s.health := rfl

/-! ### setBm -/

@[simp] theorem setBm_variant (b : Bellmetal) : (setBm s b).variant = s.variant := rfl
@[simp] theorem setBm_pending (b : Bellmetal) : (setBm s b).pending = s.pending := rfl
@[simp] theorem setBm_freeCtr (b : Bellmetal) : (setBm s b).freeCtr = s.freeCtr := rfl
@[simp] theorem setBm_clk (b : Bellmetal) : (setBm s b).clk = s.clk := rfl
@[simp] theorem setBm_raised (b : Bellmetal) : (setBm s b).raised = s.raised := rfl
@[simp] theorem setBm_counted (b : Bellmetal) : (setBm s b).counted = s.counted := rfl
@[simp] theorem setBm_woken (b : Bellmetal) : (setBm s b).woken = s.woken := rfl
@[simp] theorem setBm_tb (b : Bellmetal) : (setBm s b).tb = s.tb := rfl
@[simp] theorem setBm_dict (b : Bellmetal) : (setBm s b).dict = s.dict := rfl
@[simp] theorem setBm_blobs (b : Bellmetal) : (setBm s b).blobs = s.blobs := rfl
@[simp] theorem setBm_saved (b : Bellmetal) : (setBm s b).saved = s.saved := rfl
@[simp] theorem setBm_savedBlobs (b : Bellmetal) : (setBm s b).savedBlobs = s.savedBlobs := rfl
@[simp] theorem setBm_snaps (b : Bellmetal) : (setBm s b).snaps = s.snaps := rfl
@[simp] theorem setBm_mem (b : Bellmetal) : (setBm s b).mem = s.mem := rfl
@[simp] theorem setBm_ic (b : Bellmetal) : (setBm s b).ic = s.ic := rfl
@[simp] theorem setBm_ss (b : Bellmetal) : (setBm s b).ss = s.ss := rfl
@[simp] theorem setBm_raster (b : Bellmetal) : (setBm s b).raster = s.raster := rfl
@[simp] theorem setBm_gfx (b : Bellmetal) : (setBm s b).gfx = s.gfx := rfl
@[simp] theorem setBm_ver (b : Bellmetal) : (setBm s b).ver = s.ver := rfl
@[simp] theorem setBm_wb (b : Bellmetal) : (setBm s b).wb = s.wb := rfl
@[simp] theorem setBm_hp (b : Bellmetal) : (setBm s b).hp = s.hp := rfl
@[simp] theorem setBm_net (b : Bellmetal) : (setBm s b).net = s.net := rfl
@[simp] theorem setBm_cores (b : Bellmetal) : (setBm s b).cores = s.cores := rfl
@[simp] theorem setBm_bm (b : Bellmetal) : (setBm s b).bm = b := rfl
@[simp] theorem setBm_dma (b : Bellmetal) : (setBm s b).dma = s.dma := rfl
@[simp] theorem setBm_blt (b : Bellmetal) : (setBm s b).blt = s.blt := rfl
@[simp] theorem setBm_tm (b : Bellmetal) : (setBm s b).tm = s.tm := rfl
@[simp] theorem setBm_pins (b : Bellmetal) : (setBm s b).pins = s.pins := rfl
@[simp] theorem setBm_sec (b : Bellmetal) : (setBm s b).sec = s.sec := rfl
@[simp] theorem setBm_aud (b : Bellmetal) : (setBm s b).aud = s.aud := rfl
@[simp] theorem setBm_pwr (b : Bellmetal) : (setBm s b).pwr = s.pwr := rfl
@[simp] theorem setBm_health (b : Bellmetal) : (setBm s b).health = s.health := rfl

/-! ### setSec -/

@[simp] theorem setSec_variant (x : Sec) : (setSec s x).variant = s.variant := rfl
@[simp] theorem setSec_pending (x : Sec) : (setSec s x).pending = s.pending := rfl
@[simp] theorem setSec_freeCtr (x : Sec) : (setSec s x).freeCtr = s.freeCtr := rfl
@[simp] theorem setSec_clk (x : Sec) : (setSec s x).clk = s.clk := rfl
@[simp] theorem setSec_raised (x : Sec) : (setSec s x).raised = s.raised := rfl
@[simp] theorem setSec_counted (x : Sec) : (setSec s x).counted = s.counted := rfl
@[simp] theorem setSec_woken (x : Sec) : (setSec s x).woken = s.woken := rfl
@[simp] theorem setSec_tb (x : Sec) : (setSec s x).tb = s.tb := rfl
@[simp] theorem setSec_dict (x : Sec) : (setSec s x).dict = s.dict := rfl
@[simp] theorem setSec_blobs (x : Sec) : (setSec s x).blobs = s.blobs := rfl
@[simp] theorem setSec_saved (x : Sec) : (setSec s x).saved = s.saved := rfl
@[simp] theorem setSec_savedBlobs (x : Sec) : (setSec s x).savedBlobs = s.savedBlobs := rfl
@[simp] theorem setSec_snaps (x : Sec) : (setSec s x).snaps = s.snaps := rfl
@[simp] theorem setSec_mem (x : Sec) : (setSec s x).mem = s.mem := rfl
@[simp] theorem setSec_ic (x : Sec) : (setSec s x).ic = s.ic := rfl
@[simp] theorem setSec_ss (x : Sec) : (setSec s x).ss = s.ss := rfl
@[simp] theorem setSec_raster (x : Sec) : (setSec s x).raster = s.raster := rfl
@[simp] theorem setSec_gfx (x : Sec) : (setSec s x).gfx = s.gfx := rfl
@[simp] theorem setSec_ver (x : Sec) : (setSec s x).ver = s.ver := rfl
@[simp] theorem setSec_wb (x : Sec) : (setSec s x).wb = s.wb := rfl
@[simp] theorem setSec_hp (x : Sec) : (setSec s x).hp = s.hp := rfl
@[simp] theorem setSec_net (x : Sec) : (setSec s x).net = s.net := rfl
@[simp] theorem setSec_cores (x : Sec) : (setSec s x).cores = s.cores := rfl
@[simp] theorem setSec_bm (x : Sec) : (setSec s x).bm = s.bm := rfl
@[simp] theorem setSec_dma (x : Sec) : (setSec s x).dma = s.dma := rfl
@[simp] theorem setSec_blt (x : Sec) : (setSec s x).blt = s.blt := rfl
@[simp] theorem setSec_tm (x : Sec) : (setSec s x).tm = s.tm := rfl
@[simp] theorem setSec_pins (x : Sec) : (setSec s x).pins = s.pins := rfl
@[simp] theorem setSec_sec (x : Sec) : (setSec s x).sec = x := rfl
@[simp] theorem setSec_aud (x : Sec) : (setSec s x).aud = s.aud := rfl
@[simp] theorem setSec_pwr (x : Sec) : (setSec s x).pwr = s.pwr := rfl
@[simp] theorem setSec_health (x : Sec) : (setSec s x).health = s.health := rfl

/-! ### setAud -/

@[simp] theorem setAud_variant (a : Audio) : (setAud s a).variant = s.variant := rfl
@[simp] theorem setAud_pending (a : Audio) : (setAud s a).pending = s.pending := rfl
@[simp] theorem setAud_freeCtr (a : Audio) : (setAud s a).freeCtr = s.freeCtr := rfl
@[simp] theorem setAud_clk (a : Audio) : (setAud s a).clk = s.clk := rfl
@[simp] theorem setAud_raised (a : Audio) : (setAud s a).raised = s.raised := rfl
@[simp] theorem setAud_counted (a : Audio) : (setAud s a).counted = s.counted := rfl
@[simp] theorem setAud_woken (a : Audio) : (setAud s a).woken = s.woken := rfl
@[simp] theorem setAud_tb (a : Audio) : (setAud s a).tb = s.tb := rfl
@[simp] theorem setAud_dict (a : Audio) : (setAud s a).dict = s.dict := rfl
@[simp] theorem setAud_blobs (a : Audio) : (setAud s a).blobs = s.blobs := rfl
@[simp] theorem setAud_saved (a : Audio) : (setAud s a).saved = s.saved := rfl
@[simp] theorem setAud_savedBlobs (a : Audio) : (setAud s a).savedBlobs = s.savedBlobs := rfl
@[simp] theorem setAud_snaps (a : Audio) : (setAud s a).snaps = s.snaps := rfl
@[simp] theorem setAud_mem (a : Audio) : (setAud s a).mem = s.mem := rfl
@[simp] theorem setAud_ic (a : Audio) : (setAud s a).ic = s.ic := rfl
@[simp] theorem setAud_ss (a : Audio) : (setAud s a).ss = s.ss := rfl
@[simp] theorem setAud_raster (a : Audio) : (setAud s a).raster = s.raster := rfl
@[simp] theorem setAud_gfx (a : Audio) : (setAud s a).gfx = s.gfx := rfl
@[simp] theorem setAud_ver (a : Audio) : (setAud s a).ver = s.ver := rfl
@[simp] theorem setAud_wb (a : Audio) : (setAud s a).wb = s.wb := rfl
@[simp] theorem setAud_hp (a : Audio) : (setAud s a).hp = s.hp := rfl
@[simp] theorem setAud_net (a : Audio) : (setAud s a).net = s.net := rfl
@[simp] theorem setAud_cores (a : Audio) : (setAud s a).cores = s.cores := rfl
@[simp] theorem setAud_bm (a : Audio) : (setAud s a).bm = s.bm := rfl
@[simp] theorem setAud_dma (a : Audio) : (setAud s a).dma = s.dma := rfl
@[simp] theorem setAud_blt (a : Audio) : (setAud s a).blt = s.blt := rfl
@[simp] theorem setAud_tm (a : Audio) : (setAud s a).tm = s.tm := rfl
@[simp] theorem setAud_pins (a : Audio) : (setAud s a).pins = s.pins := rfl
@[simp] theorem setAud_sec (a : Audio) : (setAud s a).sec = s.sec := rfl
@[simp] theorem setAud_aud (a : Audio) : (setAud s a).aud = a := rfl
@[simp] theorem setAud_pwr (a : Audio) : (setAud s a).pwr = s.pwr := rfl
@[simp] theorem setAud_health (a : Audio) : (setAud s a).health = s.health := rfl

/-! ### setBlt -/

@[simp] theorem setBlt_variant (b : Blitter) : (setBlt s b).variant = s.variant := rfl
@[simp] theorem setBlt_pending (b : Blitter) : (setBlt s b).pending = s.pending := rfl
@[simp] theorem setBlt_freeCtr (b : Blitter) : (setBlt s b).freeCtr = s.freeCtr := rfl
@[simp] theorem setBlt_clk (b : Blitter) : (setBlt s b).clk = s.clk := rfl
@[simp] theorem setBlt_raised (b : Blitter) : (setBlt s b).raised = s.raised := rfl
@[simp] theorem setBlt_counted (b : Blitter) : (setBlt s b).counted = s.counted := rfl
@[simp] theorem setBlt_woken (b : Blitter) : (setBlt s b).woken = s.woken := rfl
@[simp] theorem setBlt_tb (b : Blitter) : (setBlt s b).tb = s.tb := rfl
@[simp] theorem setBlt_dict (b : Blitter) : (setBlt s b).dict = s.dict := rfl
@[simp] theorem setBlt_blobs (b : Blitter) : (setBlt s b).blobs = s.blobs := rfl
@[simp] theorem setBlt_saved (b : Blitter) : (setBlt s b).saved = s.saved := rfl
@[simp] theorem setBlt_savedBlobs (b : Blitter) : (setBlt s b).savedBlobs = s.savedBlobs := rfl
@[simp] theorem setBlt_snaps (b : Blitter) : (setBlt s b).snaps = s.snaps := rfl
@[simp] theorem setBlt_mem (b : Blitter) : (setBlt s b).mem = s.mem := rfl
@[simp] theorem setBlt_ic (b : Blitter) : (setBlt s b).ic = s.ic := rfl
@[simp] theorem setBlt_ss (b : Blitter) : (setBlt s b).ss = s.ss := rfl
@[simp] theorem setBlt_raster (b : Blitter) : (setBlt s b).raster = s.raster := rfl
@[simp] theorem setBlt_gfx (b : Blitter) : (setBlt s b).gfx = s.gfx := rfl
@[simp] theorem setBlt_ver (b : Blitter) : (setBlt s b).ver = s.ver := rfl
@[simp] theorem setBlt_wb (b : Blitter) : (setBlt s b).wb = s.wb := rfl
@[simp] theorem setBlt_hp (b : Blitter) : (setBlt s b).hp = s.hp := rfl
@[simp] theorem setBlt_net (b : Blitter) : (setBlt s b).net = s.net := rfl
@[simp] theorem setBlt_cores (b : Blitter) : (setBlt s b).cores = s.cores := rfl
@[simp] theorem setBlt_bm (b : Blitter) : (setBlt s b).bm = s.bm := rfl
@[simp] theorem setBlt_dma (b : Blitter) : (setBlt s b).dma = s.dma := rfl
@[simp] theorem setBlt_blt (b : Blitter) : (setBlt s b).blt = b := rfl
@[simp] theorem setBlt_tm (b : Blitter) : (setBlt s b).tm = s.tm := rfl
@[simp] theorem setBlt_pins (b : Blitter) : (setBlt s b).pins = s.pins := rfl
@[simp] theorem setBlt_sec (b : Blitter) : (setBlt s b).sec = s.sec := rfl
@[simp] theorem setBlt_aud (b : Blitter) : (setBlt s b).aud = s.aud := rfl
@[simp] theorem setBlt_pwr (b : Blitter) : (setBlt s b).pwr = s.pwr := rfl
@[simp] theorem setBlt_health (b : Blitter) : (setBlt s b).health = s.health := rfl

/-! ### setDmaChan -/

@[simp] theorem setDmaChan_variant (n : Nat) (c : DmaChan) : (setDmaChan s n c).variant = s.variant := rfl
@[simp] theorem setDmaChan_pending (n : Nat) (c : DmaChan) : (setDmaChan s n c).pending = s.pending := rfl
@[simp] theorem setDmaChan_freeCtr (n : Nat) (c : DmaChan) : (setDmaChan s n c).freeCtr = s.freeCtr := rfl
@[simp] theorem setDmaChan_clk (n : Nat) (c : DmaChan) : (setDmaChan s n c).clk = s.clk := rfl
@[simp] theorem setDmaChan_raised (n : Nat) (c : DmaChan) : (setDmaChan s n c).raised = s.raised := rfl
@[simp] theorem setDmaChan_counted (n : Nat) (c : DmaChan) : (setDmaChan s n c).counted = s.counted := rfl
@[simp] theorem setDmaChan_woken (n : Nat) (c : DmaChan) : (setDmaChan s n c).woken = s.woken := rfl
@[simp] theorem setDmaChan_tb (n : Nat) (c : DmaChan) : (setDmaChan s n c).tb = s.tb := rfl
@[simp] theorem setDmaChan_dict (n : Nat) (c : DmaChan) : (setDmaChan s n c).dict = s.dict := rfl
@[simp] theorem setDmaChan_blobs (n : Nat) (c : DmaChan) : (setDmaChan s n c).blobs = s.blobs := rfl
@[simp] theorem setDmaChan_saved (n : Nat) (c : DmaChan) : (setDmaChan s n c).saved = s.saved := rfl
@[simp] theorem setDmaChan_savedBlobs (n : Nat) (c : DmaChan) : (setDmaChan s n c).savedBlobs = s.savedBlobs := rfl
@[simp] theorem setDmaChan_snaps (n : Nat) (c : DmaChan) : (setDmaChan s n c).snaps = s.snaps := rfl
@[simp] theorem setDmaChan_mem (n : Nat) (c : DmaChan) : (setDmaChan s n c).mem = s.mem := rfl
@[simp] theorem setDmaChan_ic (n : Nat) (c : DmaChan) : (setDmaChan s n c).ic = s.ic := rfl
@[simp] theorem setDmaChan_ss (n : Nat) (c : DmaChan) : (setDmaChan s n c).ss = s.ss := rfl
@[simp] theorem setDmaChan_raster (n : Nat) (c : DmaChan) : (setDmaChan s n c).raster = s.raster := rfl
@[simp] theorem setDmaChan_gfx (n : Nat) (c : DmaChan) : (setDmaChan s n c).gfx = s.gfx := rfl
@[simp] theorem setDmaChan_ver (n : Nat) (c : DmaChan) : (setDmaChan s n c).ver = s.ver := rfl
@[simp] theorem setDmaChan_wb (n : Nat) (c : DmaChan) : (setDmaChan s n c).wb = s.wb := rfl
@[simp] theorem setDmaChan_hp (n : Nat) (c : DmaChan) : (setDmaChan s n c).hp = s.hp := rfl
@[simp] theorem setDmaChan_net (n : Nat) (c : DmaChan) : (setDmaChan s n c).net = s.net := rfl
@[simp] theorem setDmaChan_cores (n : Nat) (c : DmaChan) : (setDmaChan s n c).cores = s.cores := rfl
@[simp] theorem setDmaChan_bm (n : Nat) (c : DmaChan) : (setDmaChan s n c).bm = s.bm := rfl
@[simp] theorem setDmaChan_dma (n : Nat) (c : DmaChan) : (setDmaChan s n c).dma = mapSet (fun _ => {}) s.dma n c := rfl
@[simp] theorem setDmaChan_blt (n : Nat) (c : DmaChan) : (setDmaChan s n c).blt = s.blt := rfl
@[simp] theorem setDmaChan_tm (n : Nat) (c : DmaChan) : (setDmaChan s n c).tm = s.tm := rfl
@[simp] theorem setDmaChan_pins (n : Nat) (c : DmaChan) : (setDmaChan s n c).pins = s.pins := rfl
@[simp] theorem setDmaChan_sec (n : Nat) (c : DmaChan) : (setDmaChan s n c).sec = s.sec := rfl
@[simp] theorem setDmaChan_aud (n : Nat) (c : DmaChan) : (setDmaChan s n c).aud = s.aud := rfl
@[simp] theorem setDmaChan_pwr (n : Nat) (c : DmaChan) : (setDmaChan s n c).pwr = s.pwr := rfl
@[simp] theorem setDmaChan_health (n : Nat) (c : DmaChan) : (setDmaChan s n c).health = s.health := rfl

/-! ### setSrcState -/

@[simp] theorem setSrcState_variant (src : Nat) (x : SrcState) : (setSrcState s src x).variant = s.variant := rfl
@[simp] theorem setSrcState_pending (src : Nat) (x : SrcState) : (setSrcState s src x).pending = s.pending := rfl
@[simp] theorem setSrcState_freeCtr (src : Nat) (x : SrcState) : (setSrcState s src x).freeCtr = s.freeCtr := rfl
@[simp] theorem setSrcState_clk (src : Nat) (x : SrcState) : (setSrcState s src x).clk = s.clk := rfl
@[simp] theorem setSrcState_raised (src : Nat) (x : SrcState) : (setSrcState s src x).raised = s.raised := rfl
@[simp] theorem setSrcState_counted (src : Nat) (x : SrcState) : (setSrcState s src x).counted = s.counted := rfl
@[simp] theorem setSrcState_woken (src : Nat) (x : SrcState) : (setSrcState s src x).woken = s.woken := rfl
@[simp] theorem setSrcState_tb (src : Nat) (x : SrcState) : (setSrcState s src x).tb = s.tb := rfl
@[simp] theorem setSrcState_dict (src : Nat) (x : SrcState) : (setSrcState s src x).dict = s.dict := rfl
@[simp] theorem setSrcState_blobs (src : Nat) (x : SrcState) : (setSrcState s src x).blobs = s.blobs := rfl
@[simp] theorem setSrcState_saved (src : Nat) (x : SrcState) : (setSrcState s src x).saved = s.saved := rfl
@[simp] theorem setSrcState_savedBlobs (src : Nat) (x : SrcState) : (setSrcState s src x).savedBlobs = s.savedBlobs := rfl
@[simp] theorem setSrcState_snaps (src : Nat) (x : SrcState) : (setSrcState s src x).snaps = s.snaps := rfl
@[simp] theorem setSrcState_mem (src : Nat) (x : SrcState) : (setSrcState s src x).mem = s.mem := rfl
@[simp] theorem setSrcState_ss (src : Nat) (x : SrcState) : (setSrcState s src x).ss = s.ss := rfl
@[simp] theorem setSrcState_raster (src : Nat) (x : SrcState) : (setSrcState s src x).raster = s.raster := rfl
@[simp] theorem setSrcState_gfx (src : Nat) (x : SrcState) : (setSrcState s src x).gfx = s.gfx := rfl
@[simp] theorem setSrcState_ver (src : Nat) (x : SrcState) : (setSrcState s src x).ver = s.ver := rfl
@[simp] theorem setSrcState_wb (src : Nat) (x : SrcState) : (setSrcState s src x).wb = s.wb := rfl
@[simp] theorem setSrcState_hp (src : Nat) (x : SrcState) : (setSrcState s src x).hp = s.hp := rfl
@[simp] theorem setSrcState_net (src : Nat) (x : SrcState) : (setSrcState s src x).net = s.net := rfl
@[simp] theorem setSrcState_cores (src : Nat) (x : SrcState) : (setSrcState s src x).cores = s.cores := rfl
@[simp] theorem setSrcState_bm (src : Nat) (x : SrcState) : (setSrcState s src x).bm = s.bm := rfl
@[simp] theorem setSrcState_dma (src : Nat) (x : SrcState) : (setSrcState s src x).dma = s.dma := rfl
@[simp] theorem setSrcState_blt (src : Nat) (x : SrcState) : (setSrcState s src x).blt = s.blt := rfl
@[simp] theorem setSrcState_tm (src : Nat) (x : SrcState) : (setSrcState s src x).tm = s.tm := rfl
@[simp] theorem setSrcState_pins (src : Nat) (x : SrcState) : (setSrcState s src x).pins = s.pins := rfl
@[simp] theorem setSrcState_sec (src : Nat) (x : SrcState) : (setSrcState s src x).sec = s.sec := rfl
@[simp] theorem setSrcState_aud (src : Nat) (x : SrcState) : (setSrcState s src x).aud = s.aud := rfl
@[simp] theorem setSrcState_pwr (src : Nat) (x : SrcState) : (setSrcState s src x).pwr = s.pwr := rfl
@[simp] theorem setSrcState_health (src : Nat) (x : SrcState) : (setSrcState s src x).health = s.health := rfl

/-! ### setPlane -/

@[simp] theorem setPlane_variant (n : Nat) (p : Plane) : (setPlane s n p).variant = s.variant := rfl
@[simp] theorem setPlane_pending (n : Nat) (p : Plane) : (setPlane s n p).pending = s.pending := rfl
@[simp] theorem setPlane_freeCtr (n : Nat) (p : Plane) : (setPlane s n p).freeCtr = s.freeCtr := rfl
@[simp] theorem setPlane_clk (n : Nat) (p : Plane) : (setPlane s n p).clk = s.clk := rfl
@[simp] theorem setPlane_raised (n : Nat) (p : Plane) : (setPlane s n p).raised = s.raised := rfl
@[simp] theorem setPlane_counted (n : Nat) (p : Plane) : (setPlane s n p).counted = s.counted := rfl
@[simp] theorem setPlane_woken (n : Nat) (p : Plane) : (setPlane s n p).woken = s.woken := rfl
@[simp] theorem setPlane_tb (n : Nat) (p : Plane) : (setPlane s n p).tb = s.tb := rfl
@[simp] theorem setPlane_dict (n : Nat) (p : Plane) : (setPlane s n p).dict = s.dict := rfl
@[simp] theorem setPlane_blobs (n : Nat) (p : Plane) : (setPlane s n p).blobs = s.blobs := rfl
@[simp] theorem setPlane_saved (n : Nat) (p : Plane) : (setPlane s n p).saved = s.saved := rfl
@[simp] theorem setPlane_savedBlobs (n : Nat) (p : Plane) : (setPlane s n p).savedBlobs = s.savedBlobs := rfl
@[simp] theorem setPlane_snaps (n : Nat) (p : Plane) : (setPlane s n p).snaps = s.snaps := rfl
@[simp] theorem setPlane_mem (n : Nat) (p : Plane) : (setPlane s n p).mem = s.mem := rfl
@[simp] theorem setPlane_ic (n : Nat) (p : Plane) : (setPlane s n p).ic = s.ic := rfl
@[simp] theorem setPlane_ss (n : Nat) (p : Plane) : (setPlane s n p).ss = s.ss := rfl
@[simp] theorem setPlane_raster (n : Nat) (p : Plane) : (setPlane s n p).raster = s.raster := rfl
@[simp] theorem setPlane_ver (n : Nat) (p : Plane) : (setPlane s n p).ver = s.ver := rfl
@[simp] theorem setPlane_wb (n : Nat) (p : Plane) : (setPlane s n p).wb = s.wb := rfl
@[simp] theorem setPlane_hp (n : Nat) (p : Plane) : (setPlane s n p).hp = s.hp := rfl
@[simp] theorem setPlane_net (n : Nat) (p : Plane) : (setPlane s n p).net = s.net := rfl
@[simp] theorem setPlane_cores (n : Nat) (p : Plane) : (setPlane s n p).cores = s.cores := rfl
@[simp] theorem setPlane_bm (n : Nat) (p : Plane) : (setPlane s n p).bm = s.bm := rfl
@[simp] theorem setPlane_dma (n : Nat) (p : Plane) : (setPlane s n p).dma = s.dma := rfl
@[simp] theorem setPlane_blt (n : Nat) (p : Plane) : (setPlane s n p).blt = s.blt := rfl
@[simp] theorem setPlane_tm (n : Nat) (p : Plane) : (setPlane s n p).tm = s.tm := rfl
@[simp] theorem setPlane_pins (n : Nat) (p : Plane) : (setPlane s n p).pins = s.pins := rfl
@[simp] theorem setPlane_sec (n : Nat) (p : Plane) : (setPlane s n p).sec = s.sec := rfl
@[simp] theorem setPlane_aud (n : Nat) (p : Plane) : (setPlane s n p).aud = s.aud := rfl
@[simp] theorem setPlane_pwr (n : Nat) (p : Plane) : (setPlane s n p).pwr = s.pwr := rfl
@[simp] theorem setPlane_health (n : Nat) (p : Plane) : (setPlane s n p).health = s.health := rfl

/-! ### sramWrite -/

@[simp] theorem sramWrite_variant (a : Nat) (b : List Byte) : (sramWrite s a b).variant = s.variant := rfl
@[simp] theorem sramWrite_pending (a : Nat) (b : List Byte) : (sramWrite s a b).pending = s.pending := rfl
@[simp] theorem sramWrite_freeCtr (a : Nat) (b : List Byte) : (sramWrite s a b).freeCtr = s.freeCtr := rfl
@[simp] theorem sramWrite_clk (a : Nat) (b : List Byte) : (sramWrite s a b).clk = s.clk := rfl
@[simp] theorem sramWrite_raised (a : Nat) (b : List Byte) : (sramWrite s a b).raised = s.raised := rfl
@[simp] theorem sramWrite_counted (a : Nat) (b : List Byte) : (sramWrite s a b).counted = s.counted := rfl
@[simp] theorem sramWrite_woken (a : Nat) (b : List Byte) : (sramWrite s a b).woken = s.woken := rfl
@[simp] theorem sramWrite_tb (a : Nat) (b : List Byte) : (sramWrite s a b).tb = s.tb := rfl
@[simp] theorem sramWrite_dict (a : Nat) (b : List Byte) : (sramWrite s a b).dict = s.dict := rfl
@[simp] theorem sramWrite_blobs (a : Nat) (b : List Byte) : (sramWrite s a b).blobs = s.blobs := rfl
@[simp] theorem sramWrite_saved (a : Nat) (b : List Byte) : (sramWrite s a b).saved = s.saved := rfl
@[simp] theorem sramWrite_savedBlobs (a : Nat) (b : List Byte) : (sramWrite s a b).savedBlobs = s.savedBlobs := rfl
@[simp] theorem sramWrite_snaps (a : Nat) (b : List Byte) : (sramWrite s a b).snaps = s.snaps := rfl
@[simp] theorem sramWrite_ic (a : Nat) (b : List Byte) : (sramWrite s a b).ic = s.ic := rfl
@[simp] theorem sramWrite_ss (a : Nat) (b : List Byte) : (sramWrite s a b).ss = s.ss := rfl
@[simp] theorem sramWrite_raster (a : Nat) (b : List Byte) : (sramWrite s a b).raster = s.raster := rfl
@[simp] theorem sramWrite_gfx (a : Nat) (b : List Byte) : (sramWrite s a b).gfx = s.gfx := rfl
@[simp] theorem sramWrite_ver (a : Nat) (b : List Byte) : (sramWrite s a b).ver = s.ver := rfl
@[simp] theorem sramWrite_wb (a : Nat) (b : List Byte) : (sramWrite s a b).wb = s.wb := rfl
@[simp] theorem sramWrite_hp (a : Nat) (b : List Byte) : (sramWrite s a b).hp = s.hp := rfl
@[simp] theorem sramWrite_net (a : Nat) (b : List Byte) : (sramWrite s a b).net = s.net := rfl
@[simp] theorem sramWrite_cores (a : Nat) (b : List Byte) : (sramWrite s a b).cores = s.cores := rfl
@[simp] theorem sramWrite_bm (a : Nat) (b : List Byte) : (sramWrite s a b).bm = s.bm := rfl
@[simp] theorem sramWrite_dma (a : Nat) (b : List Byte) : (sramWrite s a b).dma = s.dma := rfl
@[simp] theorem sramWrite_blt (a : Nat) (b : List Byte) : (sramWrite s a b).blt = s.blt := rfl
@[simp] theorem sramWrite_tm (a : Nat) (b : List Byte) : (sramWrite s a b).tm = s.tm := rfl
@[simp] theorem sramWrite_pins (a : Nat) (b : List Byte) : (sramWrite s a b).pins = s.pins := rfl
@[simp] theorem sramWrite_sec (a : Nat) (b : List Byte) : (sramWrite s a b).sec = s.sec := rfl
@[simp] theorem sramWrite_aud (a : Nat) (b : List Byte) : (sramWrite s a b).aud = s.aud := rfl
@[simp] theorem sramWrite_pwr (a : Nat) (b : List Byte) : (sramWrite s a b).pwr = s.pwr := rfl
@[simp] theorem sramWrite_health (a : Nat) (b : List Byte) : (sramWrite s a b).health = s.health := rfl

/-! ### vsramWrite -/

@[simp] theorem vsramWrite_variant (a : Nat) (b : List Byte) : (vsramWrite s a b).variant = s.variant := rfl
@[simp] theorem vsramWrite_pending (a : Nat) (b : List Byte) : (vsramWrite s a b).pending = s.pending := rfl
@[simp] theorem vsramWrite_freeCtr (a : Nat) (b : List Byte) : (vsramWrite s a b).freeCtr = s.freeCtr := rfl
@[simp] theorem vsramWrite_clk (a : Nat) (b : List Byte) : (vsramWrite s a b).clk = s.clk := rfl
@[simp] theorem vsramWrite_raised (a : Nat) (b : List Byte) : (vsramWrite s a b).raised = s.raised := rfl
@[simp] theorem vsramWrite_counted (a : Nat) (b : List Byte) : (vsramWrite s a b).counted = s.counted := rfl
@[simp] theorem vsramWrite_woken (a : Nat) (b : List Byte) : (vsramWrite s a b).woken = s.woken := rfl
@[simp] theorem vsramWrite_tb (a : Nat) (b : List Byte) : (vsramWrite s a b).tb = s.tb := rfl
@[simp] theorem vsramWrite_dict (a : Nat) (b : List Byte) : (vsramWrite s a b).dict = s.dict := rfl
@[simp] theorem vsramWrite_blobs (a : Nat) (b : List Byte) : (vsramWrite s a b).blobs = s.blobs := rfl
@[simp] theorem vsramWrite_saved (a : Nat) (b : List Byte) : (vsramWrite s a b).saved = s.saved := rfl
@[simp] theorem vsramWrite_savedBlobs (a : Nat) (b : List Byte) : (vsramWrite s a b).savedBlobs = s.savedBlobs := rfl
@[simp] theorem vsramWrite_snaps (a : Nat) (b : List Byte) : (vsramWrite s a b).snaps = s.snaps := rfl
@[simp] theorem vsramWrite_ic (a : Nat) (b : List Byte) : (vsramWrite s a b).ic = s.ic := rfl
@[simp] theorem vsramWrite_ss (a : Nat) (b : List Byte) : (vsramWrite s a b).ss = s.ss := rfl
@[simp] theorem vsramWrite_raster (a : Nat) (b : List Byte) : (vsramWrite s a b).raster = s.raster := rfl
@[simp] theorem vsramWrite_gfx (a : Nat) (b : List Byte) : (vsramWrite s a b).gfx = s.gfx := rfl
@[simp] theorem vsramWrite_ver (a : Nat) (b : List Byte) : (vsramWrite s a b).ver = s.ver := rfl
@[simp] theorem vsramWrite_wb (a : Nat) (b : List Byte) : (vsramWrite s a b).wb = s.wb := rfl
@[simp] theorem vsramWrite_hp (a : Nat) (b : List Byte) : (vsramWrite s a b).hp = s.hp := rfl
@[simp] theorem vsramWrite_net (a : Nat) (b : List Byte) : (vsramWrite s a b).net = s.net := rfl
@[simp] theorem vsramWrite_cores (a : Nat) (b : List Byte) : (vsramWrite s a b).cores = s.cores := rfl
@[simp] theorem vsramWrite_bm (a : Nat) (b : List Byte) : (vsramWrite s a b).bm = s.bm := rfl
@[simp] theorem vsramWrite_dma (a : Nat) (b : List Byte) : (vsramWrite s a b).dma = s.dma := rfl
@[simp] theorem vsramWrite_blt (a : Nat) (b : List Byte) : (vsramWrite s a b).blt = s.blt := rfl
@[simp] theorem vsramWrite_tm (a : Nat) (b : List Byte) : (vsramWrite s a b).tm = s.tm := rfl
@[simp] theorem vsramWrite_pins (a : Nat) (b : List Byte) : (vsramWrite s a b).pins = s.pins := rfl
@[simp] theorem vsramWrite_sec (a : Nat) (b : List Byte) : (vsramWrite s a b).sec = s.sec := rfl
@[simp] theorem vsramWrite_aud (a : Nat) (b : List Byte) : (vsramWrite s a b).aud = s.aud := rfl
@[simp] theorem vsramWrite_pwr (a : Nat) (b : List Byte) : (vsramWrite s a b).pwr = s.pwr := rfl
@[simp] theorem vsramWrite_health (a : Nat) (b : List Byte) : (vsramWrite s a b).health = s.health := rfl

end Sys2Proof.Machine
end

