-- ==== Sys2Proof/Laws/Settle.lean ====
section
/-! SUPPORT. The laws of the end of a command: nothing is owed after it, and a state that owes nothing is its own end. -/
namespace Sys2Proof.Machine

/-- With nothing noted, the rounds change nothing. -/
theorem settleRounds_nil (n : Nat) (a : State × Nat) (h : a.1.raised = []) : settleRounds n a = a := by
  cases n with
  | zero => rfl
  | succ n => simp [settleRounds, h]

theorem lateHalt_none (s : State) (h : s.sec.late = none) : lateHalt s = s := by simp [lateHalt, h]

/-- The partition's upkeep does nothing while domain 4 is off. -/
theorem bmSync_off (s : State) (h : domainOn s 4 = false) : bmSync s = s := by simp [bmSync, h]

/-- No block write waits for the end of the commit window. -/
theorem owedReplies_none (s : State) (h : s.net.stagedOwed = []) : owedReplies s = s := by
  unfold owedReplies
  split
  · rfl
  · rw [h]; show setNet s { s.net with stagedOwed := [] } = s; rw [← h]; rfl

/-- A state that owes nothing is its own end, while the partition is off. -/
theorem settle_calm (s : State) (hr : s.raised = []) (hc : s.counted = []) (hw : s.woken = []) (hl : s.sec.late = none) (hb : domainOn s 4 = false)
    (hn : s.net.stagedOwed = []) : settle s = s := by
  have e : settleRounds 16 (owedReplies (bmSync s), 0) = (s, 0) := by
    rw [bmSync_off s hb, owedReplies_none s hn, settleRounds_nil _ _ hr]
  have w : ({ s with woken := [] } : State) = s := by rw [← hw]
  have c : ({ s with counted := [] } : State) = s := by rw [← hc]
  unfold settle
  rw [e]
  simp only [if_true, hw, List.foldl_nil, w]
  rw [settleRounds_nil 16 (s, 0) hr]
  simp only [hc, List.foldl_nil, c]
  have d : ({ s with raised := [], counted := [], woken := [] } : State) = s := by
    cases s; simp only at hr hc hw; subst hr; subst hc; subst hw; rfl
  rw [d, lateHalt_none s hl]

/-- A halt or resume that was waited for touches the Warden and the list of halted processors alone. -/
theorem lateHalt_frame (s : State) : ∃ x c, lateHalt s = { s with sec := x, cores := c } := by
  unfold lateHalt
  split
  · exact ⟨_, _, rfl⟩
  · dsimp only
    repeat' split
    all_goals exact ⟨_, _, rfl⟩

theorem lateHalt_raised (s : State) : (lateHalt s).raised = s.raised := by
  obtain ⟨x, c, h⟩ := lateHalt_frame s; rw [h]
theorem lateHalt_counted (s : State) : (lateHalt s).counted = s.counted := by
  obtain ⟨x, c, h⟩ := lateHalt_frame s; rw [h]
theorem lateHalt_woken (s : State) : (lateHalt s).woken = s.woken := by
  obtain ⟨x, c, h⟩ := lateHalt_frame s; rw [h]

/-- Nothing is owed after a command. -/
@[simp] theorem settle_raised (s : State) : (settle s).raised = [] := by simp [settle, lateHalt_raised]
@[simp] theorem settle_counted (s : State) : (settle s).counted = [] := by simp [settle, lateHalt_counted]
@[simp] theorem settle_woken (s : State) : (settle s).woken = [] := by simp [settle, lateHalt_woken]

/-- A step with a command in front runs it with the queue's rest. -/
theorem step_front (s : State) (c : Instr) (rest : List Instr) (h : s.pending = c :: rest) : step s = exec c { s with pending := rest } := by
  simp [step, h]

/-- A step on an empty queue lets one engine clock pass. -/
theorem step_idle (s : State) (h : s.pending = []) : step s = .next (tick s) := by simp [step, h]

/-- A store of one entry has no rival. -/
theorem dictPut_proc (s : State) (p : Fin 9) (idx sub : Nat) (v : Word) :
    dictPut s (.proc p) idx sub v = localWrite s p idx sub v.toNat := by
  simp [dictPut, dictClock, writeLoses, writeOne]

/-- A write of one entry by COP has no rival. -/
theorem dictPut_cop (s : State) (path : CopPath) (idx sub : Nat) (v : Word) :
    dictPut s (.cop path) idx sub v = (copEntry s (.cop path) none idx sub (.word v)).1 := by
  simp [dictPut, dictClock, writeLoses, writeOne]

end Sys2Proof.Machine
end

