-- ==== Sys2Proof/Laws/Core.lean ====
section
/-! SUPPORT. The laws of a core's step: what issuing a one-move group does on a core that is ready, said once for every trigger. -/
namespace Sys2Proof.Machine

@[simp] theorem coreOf_setCore (s : State) (c : Nat) (x : Core) : coreOf (setCore s c x) c = x := by simp [coreOf]

theorem coreOf_setCore_other (s : State) (c d : Nat) (x : Core) (h : d ≠ c) : coreOf (setCore s c x) d = coreOf s d := by
  simp [coreOf, mapGet_set_other _ _ _ _ _ h]

@[simp] theorem coreOf_perfEvent (s : State) (e k n c : Nat) : coreOf (perfEvent s e k n) c = coreOf s c := by
  unfold perfEvent; split <;> rfl

@[simp] theorem coreOf_coreEvent (s : State) (d k n c : Nat) : coreOf (coreEvent s d k n) c = coreOf s c := by
  unfold coreEvent; split <;> simp

@[simp] theorem coreOf_onCore (s : State) (c : Nat) (f : Core → Core) : coreOf (onCore s c f) c = f (coreOf s c) := by simp [onCore]

theorem coreOf_onCore_other (s : State) (c d : Nat) (f : Core → Core) (h : d ≠ c) : coreOf (onCore s c f) d = coreOf s d := by
  simp [onCore, coreOf_setCore_other _ _ _ _ h]

theorem SameButCores.refl (s : State) : SameButCores s s := rfl

theorem SameButCores.trans {s t u : State} (h : SameButCores s t) (k : SameButCores t u) : SameButCores s u := by
  unfold SameButCores at *
  obtain ⟨⟩ := s
  obtain ⟨⟩ := t
  obtain ⟨⟩ := u
  simp_all

theorem sameButCores_setCore (s : State) (c : Nat) (x : Core) : SameButCores s (setCore s c x) := rfl
theorem sameButCores_onCore (s : State) (c : Nat) (f : Core → Core) : SameButCores s (onCore s c f) := sameButCores_setCore _ _ _
theorem sameButCores_coreEvent (s : State) (c k n : Nat) : SameButCores s (coreEvent s c k n) := by
  unfold coreEvent perfEvent
  split
  · exact .refl s
  · split <;> rfl

theorem SameRegs.refl (x : Core) : SameRegs x x := rfl

theorem SameRegs.trans {x y z : Core} (h : SameRegs x y) (k : SameRegs y z) : SameRegs x z := by
  unfold SameRegs at *
  obtain ⟨⟩ := x
  obtain ⟨⟩ := y
  obtain ⟨⟩ := z
  simp_all

theorem completeBy_same (x : Core) (t : Nat) : SameRegs x (completeBy x t) := by
  have fold : ∀ (l : List Flight) (y : Core), SameRegs y (l.foldl (fun z f =>
      { setRes z f.unit f.value with sticky := z.sticky ||| f.status, fpuFlags := z.fpuFlags ||| f.flags }) y) := by
    intro l
    induction l with
    | nil => exact fun y => .refl y
    | cons f l ih =>
      intro y
      rw [List.foldl_cons]
      refine .trans ?_ (ih _)
      rfl
  have base := SameRegs.trans (x := x) (y := { x with flight := x.flight.filter (fun f => !(decide (f.due ≤ t))) }) rfl
    (fold (x.flight.filter (fun f => decide (f.due ≤ t))) _)
  unfold completeBy
  simp only []
  split
  · split
    · exact .trans base rfl
    · exact base
  · exact base

/-- A running core has no wait to end. -/
theorem waited_running (s : State) (c : Nat) (h : (coreOf s c).run = 1) : waited s c = s := by simp [waited, h]

/-- A core that waits for nothing steps by issuing. -/
theorem coreStep_ready (s : State) (c : Nat) (f : State → State) (h : CoreReady s c) : coreStep s c f = stepEnd c (f (onCore s c coreRuns)) := by
  have hi : coreIssues s c = true := by simp [coreIssues, h.clocked, h.running]
  simp [coreStep, hi, h.free, h.running, h.plain, h.quiet, waited_running s c h.running]

theorem wordsReady_congr {x y : Core} (h : y.queue = x.queue) (a n t : Nat) : wordsReady y a n t = wordsReady x a n t := by
  simp [wordsReady, h]

theorem issueMove_ready (s : State) (c : Nat) (m : RawMove) (h : CoreReady s c) :
    issueMove c m (onCore s c coreRuns) = issueWords (onCore s c coreRuns) c [m] (coreOf s c).pc 4 (coreOf s c).pc (coreRuns (coreOf s c)) (coreOf s c).cyc := by
  have hr : ¬ (iramSize c < (coreOf s c).pc + 4) := by have := h.inRam; omega
  have hp : (coreRuns (coreOf s c)).pc = (coreOf s c).pc := rfl
  have hc : (coreRuns (coreOf s c)).cyc = (coreOf s c).cyc := rfl
  have hw : awaitWords c (coreOf s c).pc 4 8 (coreRuns (coreOf s c)) (coreOf s c).cyc = (coreRuns (coreOf s c), (coreOf s c).cyc) := by
    have h2 : wordsReady (coreRuns (coreOf s c)) (coreOf s c).pc 4 (coreOf s c).cyc = true := by
      rw [wordsReady_congr (x := coreOf s c) (y := coreRuns (coreOf s c)) rfl]; exact h.fetched
    simp only [awaitWords, h2, if_true]
  have hf : faultAddr (coreRuns (coreOf s c)) (coreOf s c).pc = (coreOf s c).pc := by
    have : (coreRuns (coreOf s c)).immHi = none := h.plain
    simp only [faultAddr, this]
  simp only [issueMove, issueGroup, coreOf_onCore, hp, hr, if_false, hc, hw, hf]

/-- The group of one plain move in issue. -/
def plainGroup (addr : Nat) (predicted : Option (Bool × Option Nat)) (m : Move) : HeldGroup := ⟨[m], addr, 4, addr, predicted, false, none, false, false, none⟩

/-- A plain move of a value, neither branch nor macro nor faulting, issues as a held group. -/
theorem issueWords_plain (s : State) (c p ext addr t : Nat) (v : Word) (y : Core) (hb : isBranch p = false) (hp : p < 496)
    (hf : moveFault (coreEvent (setCore s c (groupIssues y t (addr + 4))) c 0x20 1) c (plainMove p ext (.value v)) = none) :
    issueWords s c [plainMove p ext (.value v)] addr 4 addr y t =
      drive driveFuel (onCore (coreEvent (setCore s c (groupIssues y t (addr + 4))) c 0x20 1) c (groupHeld (plainGroup addr none ⟨p, ext, v, true⟩))) c none := by
  have hm : ¬ 496 ≤ p := by omega
  simp only [issueWords, plainMove, List.filter, hb, List.getLast?_nil, Option.map_none]
  simp only [plainMove] at hf
  simp only [List.findSome?, hf]
  simp [List.find?, hm, readMoves, moveRuns, guardOf, srcValue, plainGroup]

/-- Only a store of the legal core can occupy more than one clock without load data. -/
theorem storeClocks_one (s : State) (c : Nat) (ms : List Move) (h : c ≠ 9 ∨ ∀ m ∈ ms, accessOf m.dst = none) : storeClocks s c ms = (1, s) := by
  have hn : (c == 9 && ms.any (mramMove s c)) = false := by
    rcases h with h | h
    · simp [h]
    · have : ms.any (mramMove s c) = false := List.any_eq_false.mpr (fun m hm => by simp [mramMove, h m hm])
      simp [this]
  simp [storeClocks, hn]

/-- A held group that waits for nothing completes in one clock. -/
theorem drive_done (s : State) (c : Nat) (g : HeldGroup) (hh : (coreOf s c).held = some g) (hm : g.mac = none) (hk : g.masked = none)
    (hw : groupWait s c (coreOf s c) g.moves = .none) (hs : storeClocks s c g.moves = (1, s)) : drive driveFuel s c none = finishGroup s c g 1 := by
  show drive (39 + 1) s c none = _
  simp only [drive, hh, heldWait, maskPending, hk, Option.any_none, Bool.false_eq_true, if_false, hw, hs, hm]

theorem groupWait_one (s : State) (c : Nat) (x : Core) (m : Move) (h : moveWait s c x m = .none) : groupWait s c x [m] = .none := by
  simp only [groupWait, List.map_cons, List.map_nil, h, ite_self]
  rfl

/-- The core at the end of a group of one plain move, what the group changes noted for a branch that follows (R291). -/
def groupEnded (s : State) (c addr : Nat) (m : Move) : State :=
  let t := coreEvent (setCore s c (groupEnds c (plainGroup addr none m) (coreOf s c) 1 (addr + 4))) c 0x21 0
  onCore t c (fun y => { y with prev := oldPorts t c [m] })

/-- A held group of one plain trigger that is no branch completes: the trigger acts on the core at the group's end, whose clock then moves on. -/
theorem finishGroup_trigger (s : State) (c addr : Nat) (m : Move) (hr : m.runs = true) (ht : isTrigger m.dst = true) (hu : unitOf m.dst ≠ some 7) :
    finishGroup s c (plainGroup addr none m) 1 =
      onCore (trigger (groupEnded s c addr m) c (coreOf s c).cyc (addr + 4) m []) c (clockTo ((coreOf s c).cyc + 1)) := by
  have hd : (unitOf m.dst == some 7) = false := by simpa using hu
  simp only [finishGroup, plainGroup, groupEnded, directWrites, triggers, List.filter_cons, List.filter_nil, hr, ht, List.any_nil, Bool.and_true,
    Bool.not_true, Bool.and_false, Bool.not_false, Nat.sub_self, Nat.add_zero, if_true, hd, groupBranch, List.getLast?_nil,
    Bool.false_eq_true, if_false]

theorem groupIssues_same (y : Core) (t n : Nat) : SameRegs y (groupIssues y t n) :=
  .trans (completeBy_same y t) rfl

theorem fetchClocks_queue (c : Nat) (y : Core) (t n : Nat) : ∃ q, fetchClocks c y t n = { y with queue := q } := by
  have k : ∀ (l : List Nat) (y : Core), ∃ q, (l.foldl (fun y i => fetchClock c y (t + i)) y) = { y with queue := q } := by
    intro l
    induction l with
    | nil => exact fun y => ⟨y.queue, rfl⟩
    | cons a l ih =>
      intro y
      obtain ⟨q, hq⟩ := ih (fetchClock c y (t + a))
      refine ⟨q, ?_⟩
      rw [List.foldl_cons, hq]
      unfold fetchClock
      split <;> rfl
  exact k _ y

/-- The last clock of a plain group passes with the fetcher's words, and results due, alone. -/
theorem groupEnds_queue (c : Nat) (g : HeldGroup) (x : Core) (n next : Nat) : ∃ q, groupEnds c g x n next =
    { completeBy x (x.cyc + (n - 1)) with cyc := x.cyc + (n - 1), held := none, prev := [], pc := next, queue := q } := by
  unfold groupEnds
  simp only []
  obtain ⟨q, hq⟩ := fetchClocks_queue c (completeBy x (x.cyc + (n - 1))) x.cyc (n - (if ramAccess c g.moves || (g.predicted.any (fun p => p.1)) then 1 else 0))
  exact ⟨q, by rw [hq]⟩

theorem groupEnds_same (c : Nat) (g : HeldGroup) (x : Core) (n next : Nat) : SameRegs x (groupEnds c g x n next) := by
  obtain ⟨q, hq⟩ := groupEnds_queue c g x n next
  rw [hq]
  exact .trans (completeBy_same x (x.cyc + (n - 1))) rfl

/-- An idle core has no result to complete. -/
theorem completeBy_idle (x : Core) (t : Nat) (h : Idle x) : completeBy x t = x := by
  obtain ⟨h1, h2⟩ := h
  cases x
  simp_all [completeBy]

theorem groupIssues_idle (x : Core) (t n : Nat) (h : Idle x) :
    groupIssues x t n = { dropWords x n with cyc := t, returned := none, fresh := false, pc := n } := by
  unfold groupIssues
  rw [completeBy_idle x t h]

theorem groupEnds_idle (c : Nat) (g : HeldGroup) (x : Core) (n next : Nat) (h : Idle x) :
    ∃ q, groupEnds c g x n next = { x with cyc := x.cyc + (n - 1), held := none, prev := [], pc := next, queue := q } := by
  obtain ⟨q, hq⟩ := groupEnds_queue c g x n next
  exact ⟨q, by rw [hq, completeBy_idle x _ h]⟩

/-- With no single step asked for, the end of a group is the end of the command's work on the core. -/
theorem stepEnd_free (s : State) (c : Nat) (h : (coreOf s c).stepReq = false) : stepEnd c s = s := by simp [stepEnd, h]

/-- What a ready core's one-move group has before its move acts: everything but its clock, counter of groups and results as before, the program counter
past the parcel. -/
structure AtEnd (s t : State) (c : Nat) : Prop where
  rest : SameButCores s t
  others : ∀ d, d ≠ c → coreOf t d = coreOf s d
  regs : SameRegs (coreOf s c) (coreOf t c)
  pc : (coreOf t c).pc = (coreOf s c).pc + 4
  cyc : (coreOf t c).cyc = (coreOf s c).cyc
  held : (coreOf t c).held = none
  idle : Idle (coreOf s c) → (coreOf t c).res = (coreOf s c).res ∧ Idle (coreOf t c) ∧ (coreOf t c).sticky = (coreOf s c).sticky ∧
    (coreOf t c).fpuFlags = (coreOf s c).fpuFlags

/-- The state in which a plain move of a ready core is decoded. -/
def decodeState (s : State) (c : Nat) : State :=
  coreEvent (setCore (onCore s c coreRuns) c (groupIssues (coreRuns (coreOf s c)) (coreOf s c).cyc ((coreOf s c).pc + 4))) c 0x20 1

theorem coreRuns_same (x : Core) (h : x.run = 1) : SameRegs x (coreRuns x) := by
  unfold SameRegs coreRuns
  obtain ⟨⟩ := x
  simp_all

theorem decodeState_same (s : State) (c : Nat) (h : CoreReady s c) :
    SameButCores s (decodeState s c) ∧ (∀ d, d ≠ c → coreOf (decodeState s c) d = coreOf s d) ∧ SameRegs (coreOf s c) (coreOf (decodeState s c) c) := by
  refine ⟨?_, ?_, ?_⟩
  · exact .trans (.trans (sameButCores_onCore s c coreRuns) (sameButCores_setCore _ c _)) (sameButCores_coreEvent _ c 0x20 1)
  · intro d hd
    simp only [decodeState, coreOf_coreEvent]
    rw [coreOf_setCore_other _ _ _ _ hd, coreOf_onCore_other _ _ _ _ hd]
  · simp only [decodeState, coreOf_coreEvent, coreOf_setCore]
    exact .trans (coreRuns_same _ h.running) (groupIssues_same _ _ _)

/-- A plain trigger of a ready core, neither branch nor macro, that neither faults nor waits: the trigger acts at the group's end. -/
theorem issueTrigger_ready (s : State) (c : Fin 10) (p ext : Nat) (v : Word) (h : CoreReady s c.val) (hb : isBranch p = false) (hp : p < 496)
    (ht : isTrigger p = true) (hu : unitOf p ≠ some 7) (hf : moveFault (decodeState s c.val) c.val (plainMove p ext (.value v)) = none)
    (hw : ∀ t x, SameButCores s t → SameRegs (coreOf s c.val) x → moveWait t c.val x ⟨p, ext, v, true⟩ = .none)
    (hx : c.val ≠ 9 ∨ accessOf p = none) :
    ∃ t, AtEnd s t c.val ∧ issueTrigger s c p ext v =
      stepEnd c.val (onCore (trigger t c.val (coreOf s c.val).cyc ((coreOf s c.val).pc + 4) ⟨p, ext, v, true⟩ []) c.val
        (clockTo ((coreOf s c.val).cyc + 1))) := by
  obtain ⟨hs, ho, hr⟩ := decodeState_same s c.val h
  let d := onCore (decodeState s c.val) c.val (groupHeld (plainGroup (coreOf s c.val).pc none ⟨p, ext, v, true⟩))
  have hd : coreOf d c.val = groupHeld (plainGroup (coreOf s c.val).pc none ⟨p, ext, v, true⟩) (coreOf (decodeState s c.val) c.val) := by simp [d]
  have hcyc : (coreOf d c.val).cyc = (coreOf s c.val).cyc := by
    rw [hd]; simp only [decodeState, coreOf_coreEvent, coreOf_setCore]; rfl
  have hds : SameButCores s d := .trans hs (sameButCores_onCore _ _ _)
  have hdr : SameRegs (coreOf s c.val) (coreOf d c.val) := by rw [hd]; exact .trans hr rfl
  have key : issueTrigger s c p ext v = stepEnd c.val (finishGroup d c.val (plainGroup (coreOf s c.val).pc none ⟨p, ext, v, true⟩) 1) := by
    rw [issueTrigger, coreStep_ready _ _ _ h, issueMove_ready _ _ _ h, issueWords_plain _ _ _ _ _ _ _ _ hb hp hf]
    congr 1
    refine drive_done d c.val _ ?_ rfl rfl ?_ ?_
    · rw [hd]; rfl
    · exact groupWait_one _ _ _ _ (hw d _ hds hdr)
    · exact storeClocks_one _ _ _ (hx.imp id (fun h m hm => by cases List.mem_singleton.mp hm; exact h))
  let t0 := coreEvent (setCore d c.val (groupEnds c.val (plainGroup (coreOf s c.val).pc none ⟨p, ext, v, true⟩) (coreOf d c.val) 1
    ((coreOf s c.val).pc + 4))) c.val 0x21 0
  have h0 : coreOf t0 c.val = groupEnds c.val (plainGroup (coreOf s c.val).pc none ⟨p, ext, v, true⟩) (coreOf d c.val) 1 ((coreOf s c.val).pc + 4) := by
    simp only [t0, coreOf_coreEvent, coreOf_setCore]
  have he : coreOf (groupEnded d c.val (coreOf s c.val).pc ⟨p, ext, v, true⟩) c.val =
      { coreOf t0 c.val with prev := oldPorts t0 c.val [⟨p, ext, v, true⟩] } := by
    simp only [groupEnded, coreOf_onCore]; rfl
  refine ⟨groupEnded d c.val (coreOf s c.val).pc ⟨p, ext, v, true⟩, ?_, ?_⟩
  · constructor
    · have ht : SameButCores s t0 := .trans (.trans hds (sameButCores_setCore _ _ _)) (sameButCores_coreEvent _ _ _ _)
      exact .trans ht (sameButCores_onCore t0 c.val (fun y => { y with prev := oldPorts t0 c.val [⟨p, ext, v, true⟩] }))
    · intro e hn
      show coreOf (onCore _ _ _) e = _
      rw [coreOf_onCore_other _ _ _ _ hn, coreOf_coreEvent, coreOf_setCore_other _ _ _ _ hn]
      show coreOf (onCore _ _ _) e = _
      rw [coreOf_onCore_other _ _ _ _ hn, ho e hn]
    · rw [he, h0]
      exact .trans (.trans hdr (groupEnds_same _ _ _ _ _)) rfl
    · rw [he, h0]; rfl
    · rw [he, h0]
      show (coreOf d c.val).cyc + (1 - 1) = _
      rw [hcyc]; rfl
    · rw [he, h0]; rfl
    · intro hi
      have hid : Idle (coreRuns (coreOf s c.val)) := hi
      have e : coreOf d c.val = groupHeld (plainGroup (coreOf s c.val).pc none ⟨p, ext, v, true⟩)
          { dropWords (coreRuns (coreOf s c.val)) ((coreOf s c.val).pc + 4) with
            cyc := (coreOf s c.val).cyc, returned := none, fresh := false, pc := (coreOf s c.val).pc + 4 } := by
        rw [hd, ← groupIssues_idle _ _ _ hid]
        simp only [decodeState, coreOf_coreEvent, coreOf_setCore]
      obtain ⟨q, hq⟩ := groupEnds_idle c.val (plainGroup (coreOf s c.val).pc none ⟨p, ext, v, true⟩) (coreOf d c.val) 1 ((coreOf s c.val).pc + 4)
        (by rw [e]; exact hi)
      rw [he, h0, hq, e]
      exact ⟨rfl, hi, rfl, rfl⟩
  · rw [key, finishGroup_trigger d c.val _ _ rfl ht hu, hcyc]

end Sys2Proof.Machine
end

