-- ==== Sys2Proof/Laws/Flags.lean ====
section
/-! SUPPORT. What the shared operations on entries, flags and sources can change: the dictionary, the controller and what is noted for the command's end,
and nothing else. -/
namespace Sys2Proof.Machine

/-- Everything but entries, the controller's state and what is noted is as it was. -/
def SameButReports (s t : State) : Prop := t = { s with dict := t.dict, ic := t.ic, raised := t.raised, counted := t.counted }

theorem SameButReports.refl (s : State) : SameButReports s s := rfl

theorem SameButReports.trans {s t u : State} (h : SameButReports s t) (k : SameButReports t u) : SameButReports s u := by
  unfold SameButReports at *
  obtain ⟨⟩ := s
  obtain ⟨⟩ := t
  obtain ⟨⟩ := u
  simp_all

/-- A fold of operations of this kind is one. -/
theorem SameButReports.foldl {α : Type} (f : State → α → State) (hf : ∀ s a, SameButReports s (f s a)) (l : List α) (s : State) :
    SameButReports s (l.foldl f s) := by
  induction l generalizing s with
  | nil => exact .refl s
  | cons a l ih => exact .trans (hf s a) (ih (f s a))

theorem reports_regSet (s : State) (k : Nat) (v : Word) : SameButReports s (regSet s k v) := rfl
theorem reports_setN (s : State) (k n : Nat) : SameButReports s (setN s k n) := rfl
theorem reports_setFld (s : State) (k lo n x : Nat) : SameButReports s (setFld s k lo n x) := rfl
theorem reports_bump (s : State) (k : Nat) : SameButReports s (bump s k) := rfl
theorem reports_addTo (s : State) (k n : Nat) : SameButReports s (addTo s k n) := rfl
theorem reports_setPair (s : State) (a b n : Nat) : SameButReports s (setPair s a b n) := rfl
theorem reports_setSrcState (s : State) (src : Nat) (x : SrcState) : SameButReports s (setSrcState s src x) := rfl
theorem reports_healthEvent (s : State) (b : Nat) : SameButReports s (healthEvent s b) := rfl

theorem reports_bumpSat (s : State) (k top : Nat) : SameButReports s (bumpSat s k top) := by unfold bumpSat; split <;> rfl

theorem reports_perfEvent (s : State) (e c n : Nat) : SameButReports s (perfEvent s e c n) := by unfold perfEvent; split <;> rfl

theorem reports_edgeMerged (s : State) : SameButReports s (edgeMerged s) := .trans (reports_bump s _) (reports_perfEvent _ _ _ _)

theorem reports_icMove (s : State) (src : Nat) : SameButReports s (icMove s src) := by
  unfold icMove
  split
  · split
    · rfl
    · exact reports_edgeMerged s
    · rfl
    · exact reports_edgeMerged s
  · split
    · split <;> rfl
    · rfl

theorem reports_icAssert (s : State) (src : Nat) : SameButReports s (icAssert s src) := by
  unfold icAssert
  split
  · split
    · exact SameButReports.trans (t := { s with raised := s.raised ++ [src] }) rfl (reports_icMove _ src)
    · rfl
  · rfl

theorem reports_icFall (s : State) (src : Nat) : SameButReports s (icFall s src) := by
  unfold icFall
  split
  · rfl
  · split <;> rfl

theorem reports_setFlag (s : State) (k b : Nat) : SameButReports s (setFlag s k b) := by
  unfold setFlag
  split
  · dsimp only
    split
    · exact .trans (reports_setN s k _) (reports_icAssert _ _)
    · rfl
  · rfl

theorem reports_clearFlags (s : State) (k m : Nat) : SameButReports s (clearFlags s k m) := by
  unfold clearFlags
  refine .trans (reports_setN s k _) (SameButReports.foldl _ ?_ _ _)
  intro t src
  split
  · rfl
  · exact reports_icFall t src

theorem reports_rsvdWrite (s : State) (idx : Nat) : SameButReports s (rsvdWrite s idx) := by
  unfold rsvdWrite
  split
  · exact reports_bump s _
  · rfl

theorem reports_cfgError (s : State) (idx : Nat) : SameButReports s (cfgError s idx) := by
  unfold cfgError
  split
  · exact reports_setFlag s _ _
  · rfl

theorem reports_mcGranules (s : State) (w : Bool) (a n : Nat) : SameButReports s (mcGranules s w a n) := by
  unfold mcGranules
  split
  · exact reports_perfEvent _ _ _ _
  · rfl

theorem reports_mcAddrError (s : State) (a : Nat) : SameButReports s (mcAddrError s a) := by
  unfold mcAddrError
  split
  · rfl
  · split
    · exact reports_bump s _
    · split
      · exact .trans (.trans (reports_bump s _) (reports_setPair _ _ _ _)) (reports_setFlag _ _ _)
      · rfl

/-! ### Entries after the primitive writes -/

theorem regGet_regSet (s : State) (k j : Nat) (v : Word) : regGet (regSet s k v) j = if j = k then v else regGet s j := by
  simp [regGet, mapGet_set]

theorem regGet_setN (s : State) (k j n : Nat) : regGet (setN s k n) j = if j = k then natWord n else regGet s j := regGet_regSet s k j _

theorem regGet_setFld (s : State) (k j lo n x : Nat) : regGet (setFld s k lo n x) j = if j = k then natWord (putBits (regN s k) lo n x) else regGet s j :=
  regGet_regSet s k j _

theorem regGet_bump (s : State) (k j : Nat) : regGet (bump s k) j = if j = k then natWord (regN s k + 1) else regGet s j := regGet_regSet s k j _

@[simp] theorem regGet_perfEvent (s : State) (e c n j : Nat) : regGet (perfEvent s e c n) j = regGet s j := by unfold perfEvent; split <;> rfl
@[simp] theorem regGet_setSrcState (s : State) (src : Nat) (x : SrcState) (j : Nat) : regGet (setSrcState s src x) j = regGet s j := rfl
@[simp] theorem regGet_healthEvent (s : State) (b j : Nat) : regGet (healthEvent s b) j = regGet s j := rfl

/-- An assertion changes no entry but the count of merged edges. -/
theorem regGet_icMove (s : State) (src j : Nat) (h : j ≠ kMerged) : regGet (icMove s src) j = regGet s j := by
  have e : regGet (edgeMerged s) j = regGet s j := by
    unfold edgeMerged
    rw [regGet_perfEvent, regGet_bump, if_neg h]
  unfold icMove
  split
  · split
    · rfl
    · exact e
    · rfl
    · exact e
  · split
    · split <;> rfl
    · rfl

theorem regGet_icAssert (s : State) (src j : Nat) (h : j ≠ kMerged) : regGet (icAssert s src) j = regGet s j := by
  unfold icAssert
  split
  · split
    · rw [regGet_icMove _ _ _ h]; rfl
    · rfl
  · rfl

/-- Setting a flag changes no other entry but the count of merged edges. -/
theorem regGet_setFlag (s : State) (k b j : Nat) (h : j ≠ kMerged) :
    regGet (setFlag s k b) j = if j = k then natWord (regN s k ||| 2 ^ b) else regGet s j := by
  unfold setFlag
  simp only
  split
  · split
    · rw [regGet_icAssert _ _ _ h, regGet_setN]
    · exact regGet_setN _ _ _ _
  · exact regGet_setN _ _ _ _

end Sys2Proof.Machine
end

