-- ==== Sys2Proof/WellFormed.lean ====
section
/-! DEFINITION. Which commands are well formed: every operand in the range that its field has in the message, register or event that carries it. The meanings are total: a command
that is not well formed has one too, which no rule of the spec describes. -/
namespace Sys2Proof

/-- The fields of a COP header (R404): device numbers of 12 bits, MODE of 2, TAG of 16, a key slot of 4. -/
def hdrOk (h : CopHdr) : Bool :=
  decide (h.src < 4096) && decide (h.dest < 4096) && decide (h.mode < 4) && decide (h.tag < 65536) && (match h.key with
    | some k => decide (k < 16)
    | none => true)

/-- An index of 16 bits and a subindex of 8 (R407). -/
def idxOk (idx sub : Nat) : Bool := decide (idx < 65536) && decide (sub < 256)

/-- COUNT of a block: 1 to 64 subindexes (R408). -/
def countOk (sub count : Nat) : Bool := decide (1 ≤ count) && decide (count ≤ 64) && decide (sub + count ≤ 256)

/-- A value of a WRITE: at most 1 024 bytes fit a message (R408; a longer one answers TOO_LONG and is not excluded by its U16 length). -/
def valueOk : CopValue → Bool
  | .word _ => true
  | .bytes b => decide (b.length < 65536)

/-- Not a STR or DOMAIN value, which stands alone in its message (R408). -/
def plainWord : CopValue → Bool
  | .word _ => true
  | .bytes _ => false

/-- A die temperature in a signed 16-bit field. -/
def tempOk (t : Int) : Bool := decide (-(2 ^ 15) ≤ t) && decide (t < 2 ^ 15)

/-- Whether a command is well formed. -/
def wellFormed (c : Instr) : Bool :=
  match c with
  | .rsRead _ idx sub => idxOk idx sub
  | .dictWrite ws => ws.all (fun r => idxOk r.idx r.sub)
  | .copRead h idx sub count => hdrOk h && idxOk idx sub && countOk sub count
  | .copWrite h idx sub vs => hdrOk h && idxOk idx sub && countOk sub vs.length && vs.all valueOk && (decide (vs.length = 1) || vs.all plainWord)
  | .signalFrame h rs => hdrOk h && decide (1 ≤ rs.length) && decide (rs.length ≤ 180)
  | .stagedWrite _ idx sub _ => idxOk idx sub
  | .lineLatch y => decide (y < 65536)
  | .lineFetchDone _ y => decide (y < 65536)
  | .planeFetchError _ y _ => decide (y < 65536)
  | .activeLine y _ _ _ _ => decide (y < 65536)
  | .wbBusError a => decide (a < 2 ^ 40)
  | .hpdAssert lanes rate edid => (lanes == 1 || lanes == 2 || lanes == 4) && decide (rate < 4) && decide (edid.length ≤ 512)
  | .trainingEnd _ cause micros => decide (cause < 16) && decide (micros < 2 ^ 32)
  | .paging h stream rate time xs => hdrOk h && decide (stream < 65536) && decide (rate < 256) && decide (time < 2 ^ 64) && decide (1 ≤ xs.length) && decide (xs.length ≤ 480) && xs.all (fun x => decide (x < 65536))
  | .segStart h idx sub dir total crc => hdrOk h && idxOk idx sub && decide (dir ≤ 1) && decide (total < 2 ^ 32) && decide (crc < 2 ^ 32)
  | .segData h off b => hdrOk h && decide (off < 2 ^ 32) && decide (b.length ≤ 1024)
  | .segAck h n => hdrOk h && decide (n < 2 ^ 32)
  | .segResend x => decide (x < 4)
  | .segTimeout x => decide (x < 4)
  | .progressSend v => decide (v < 2 ^ 32)
  | .lopDone v => decide (v < 256)
  | .tbSyncRx _ _ _ hops => decide (hops < 256)
  | .pollReply d status v => decide (d < 4096) && decide (status < 256) && decide (v < 2 ^ 32)
  | .linkChange _ _ speed => decide (speed < 4)
  | .appRequest q => hdrOk q.hdr && idxOk q.idx q.sub && countOk q.sub q.count && (!q.write || q.values.length == q.count) && decide (q.record < 2 ^ 32)
  | .bmSessionOpen typ => decide (typ < 4)
  | .mirrorRefresh t => tempOk t
  | .lglMsgIn h m => hdrOk h && decide (1 ≤ m.length) && decide (m.length ≤ 256)
  | .outSend n => decide (n < 512)
  | .mcTrainDone _ _ micros => decide (micros < 2 ^ 32)
  | .secFuseProg _ v rb => v.length == 33 && (match rb with | some b => b.length == 32 | none => true)
  | .dbgResponse _ key sig => key.length == 64 && sig.length == 64
  | .stDone f => match f with | some (a, b) => decide (a < 2 ^ 40) && decide (b < 2 ^ 32) | none => true
  | .tempHigh t => tempOk t
  | .tdmFsReturn _ rate => decide (8000 ≤ rate) && decide (rate ≤ 96000)
  | .stageUpdate .. | .stagingStore .. | .attrWrite .. | .ssClear .. | .commitInstant .. | .commitDone .. | .idleCommit .. | .deadline .. | .heldWriteApply ..
  | .rasterCommitReq .. | .rasterCtrl .. | .rasterModeReq .. | .rasterStop .. | .modeDone .. | .palLoadArm .. | .palLoadDone .. | .ruleLoadArm .. | .ruleLoadDone ..
  | .sprLoadArm .. | .sprLoadDone .. | .spritePositionsDone .. | .lsWrite .. | .lsWait .. | .lsMark .. | .lsLoop .. | .lsEnd .. | .frameVerified .. | .wbDescRead ..
  | .wbDone .. | .hpdLow .. | .irqHpd .. | .hpRetrain .. | .hpAuxData .. | .isobarWord .. | .isobarTimeout .. | .moveGroup .. | .immHi .. | .aluAdd ..
  | .aluSub .. | .aluRsub .. | .aluAnd .. | .aluOr .. | .aluXor .. | .aluAndn .. | .aluShl .. | .aluShr .. | .aluSra .. | .aluRotl .. | .aluMin .. | .aluMax ..
  | .aluMinu .. | .aluMaxu .. | .aluNeg .. | .aluNot .. | .aluSext8 .. | .aluSext16 .. | .cmpEq .. | .cmpNe .. | .cmpLt .. | .cmpGe .. | .cmpLtu .. | .cmpGeu ..
  | .mulLs .. | .mulLu .. | .mulHs .. | .mulHu .. | .divS .. | .divU .. | .divDone .. | .fadd .. | .fsub .. | .fmul .. | .fmin .. | .fmax .. | .fabs ..
  | .fneg .. | .fcvtSw .. | .fcvtSwu .. | .fcvtWs .. | .fcvtWus .. | .feq .. | .flt .. | .fle .. | .lsuLdw .. | .lsuLdh .. | .lsuLdb .. | .lsuLdsh .. | .lsuLdsb ..
  | .lsuStw .. | .lsuSth .. | .lsuStb .. | .loadDataReturn .. | .storeDrain .. | .bruJmp .. | .bruCall .. | .bruRet .. | .bruRetint .. | .bruSync .. | .gpioSet ..
  | .gpioClr .. | .gpioTgl .. | .ctlWait .. | .ctlMcdata .. | .coreMcData .. | .macroStart .. | .intEntry .. | .faultEntry .. | .ssUpd .. | .ssRd .. | .ssRdst ..
  | .plWr .. | .plRd .. | .nqReq .. | .nqSt .. | .sourceAssert .. | .icRoute .. | .maskWriteAccept .. | .icPending .. | .doorbellRing .. | .irqComplete ..
  | .irqThr .. | .dmaStart .. | .dmaBell .. | .dmaHalt .. | .dmaSt .. | .descReadDone .. | .descComplete .. | .dmaAccessError .. | .haltDone .. | .bltRun ..
  | .bltAbort .. | .bltSt .. | .bltCmdRead .. | .bltSpanReadsDone .. | .bltSpanWritesDone .. | .bltError .. | .tmWrap .. | .tmMatch .. | .tmGroupStart ..
  | .tmGroupStop .. | .atGroupStart .. | .atGroupStop .. | .tmStagger .. | .tmCount .. | .tmReload .. | .tmCompare .. | .tmLockStart .. | .pinMux .. | .pinHandoverEnd ..
  | .pinCfg .. | .pinDetect .. | .patternMatch .. | .patGrant .. | .aqPush .. | .sampleBoundary .. | .voiceArm .. | .voiceStart .. | .voiceStop .. | .toneStart ..
  | .toneStop .. | .gain .. | .route .. | .audMark .. | .voiceFetchReturn .. | .voiceFetchError .. | .gainZcTimeout .. | .tdmFsLoss .. | .tdmCfg .. | .audioResync ..
  | .ethFrameRx .. | .spiHostFrame .. | .copReplySend .. | .subSample .. | .dictSave .. | .tbLost .. | .netTbSet .. | .pollSend .. | .rawRx .. | .rawTxDone ..
  | .appDone .. | .appTimeout .. | .bmStart .. | .bmBootDone .. | .bmRestart .. | .bmWatchdog .. | .watchdogHalf .. | .watchdog .. | .bmSessionClose ..
  | .sealSwChange .. | .bmFwCommit .. | .fwVerifyDone .. | .bmBank .. | .bankCheckDone .. | .bmErrRelease .. | .idShow .. | .idTimeExpire .. | .bmWake ..
  | .bmReverify .. | .reverifyDone .. | .bmAuditFree .. | .compactionDone .. | .bmMirrorData .. | .inDone .. | .lglMsgOutAck .. | .calStart .. | .calSweep ..
  | .firCoefWrite .. | .calDone .. | .lcSample .. | .excitationReversal .. | .bmChnSample .. | .serFrameRx .. | .ident .. | .auditRead .. | .auditRange ..
  | .serUnknownType .. | .serRxPop .. | .serTxData .. | .serTxSend .. | .serTxDone .. | .clockFallback .. | .pwrStateReq .. | .stateDone .. | .pwrDomainReq ..
  | .domainSwitched .. | .wakePin .. | .resumeDone .. | .warmStart .. | .coldStart .. | .powerCycle .. | .pwrBootOk .. | .bootTimeout .. | .clkFail ..
  | .wardenWdt .. | .recCmd .. | .reinitDone .. | .ladderWindowExpire .. | .supplyLoss .. | .secLcReq .. | .lcFusesBlown .. | .idcode .. | .samplePreload ..
  | .extest .. | .bypass .. | .dapRead .. | .dapWrite .. | .dapHalt .. | .dapResume .. | .dbgAttach .. | .dbgDetach .. | .dbgChallenge .. | .authCheckDone ..
  | .dbgWake .. | .trstN .. | .perfCapture .. | .dumpNow .. | .clearAll .. | .perfRecordDone .. | .stReq .. | .healthWindowEnd .. | .resetRelease .. | .referenceRestored ..
  | .lfCrystalValid .. | .resultComplete .. | .dmaDataReadDone .. | .syncInterval .. | .tbPps .. | .gateControlEntry .. | .addressAgeing .. => true

end Sys2Proof
end

