-- ==== Sys2Proof/Tests/Slice0.lean ====
section
/-! SUPPORT. Tests: the well-formedness check refuses what it names, the worked cases of the spec, and for each statement a state and operands that meet its
hypotheses (`witness_<statement>`, one conjunct for each of its clauses, with the statement's own binders applied to concrete values). -/
set_option linter.unusedVariables false
set_option Elab.async false

namespace Sys2Proof.Tests
open Sys2Proof.Machine

/-- A header of a message from the SPI host. -/
def hdr (src tag key : Nat) : CopHdr := ⟨.spi, src, 0, 7, tag, some key, true, false⟩

theorem test_wellFormed_accepts :
    wellFormed (.copRead (hdr 4095 65535 15) 0xFFFF 255 1) = true ∧ wellFormed (.signalFrame (hdr 1 2 3) [⟨0#32, 0#32⟩]) = true ∧
    wellFormed (.copWrite (hdr 1 2 3) 0x2040 2 [.word 5#32, .word 6#32]) = true ∧ wellFormed (.tempHigh (-32768)) = true ∧ wellFormed .sampleBoundary = true := by
  decide

theorem test_illFormed_headers :
    wellFormed (.copRead (hdr 4096 0 0) 0x1000 1 1) = false ∧ wellFormed (.copRead (hdr 1 65536 0) 0x1000 1 1) = false ∧
    wellFormed (.copRead (hdr 1 0 16) 0x1000 1 1) = false ∧ wellFormed (.copRead { hdr 1 0 0 with mode := 4 } 0x1000 1 1) = false ∧
    wellFormed (.copRead { hdr 1 0 0 with dest := 4096 } 0x1000 1 1) = false ∧ wellFormed (.copRead (hdr 1 0 0) 0x10000 1 1) = false ∧
    wellFormed (.copRead (hdr 1 0 0) 0x1000 256 1) = false ∧ wellFormed (.copRead (hdr 1 0 0) 0x1000 1 65) = false ∧
    wellFormed (.rsRead .spi 0x1000 256) = false ∧ wellFormed (.dictWrite [⟨.bellmetal, 0x10000, 0, 0#32⟩]) = false ∧
    wellFormed (.stagedWrite .bellmetal 0x2500 256 0#32) = false ∧ wellFormed (.appRequest ⟨hdr 1 0 0, 0x3010, 1, 2, true, [0#32], 0⟩) = false := by
  decide

theorem test_illFormed_messages :
    wellFormed (.copWrite (hdr 1 0 0) 0x1000 1 []) = false ∧ wellFormed (.copWrite (hdr 1 0 0) 0x1000 1 [.bytes [], .word 0#32]) = false ∧
    wellFormed (.signalFrame (hdr 1 0 0) []) = false ∧ wellFormed (.paging (hdr 1 0 0) 0 0 0 []) = false ∧
    wellFormed (.paging (hdr 1 0 0) 0 256 0 [0]) = false ∧ wellFormed (.segStart (hdr 1 0 0) 0x2900 1 2 0 0) = false ∧
    wellFormed (.segData (hdr 1 0 0) 0x100000000 []) = false ∧ wellFormed (.segAck (hdr 1 0 0) 0x100000000) = false ∧ wellFormed (.segResend 4) = false ∧
    wellFormed (.segTimeout 4) = false ∧ wellFormed (.progressSend 0x100000000) = false ∧ wellFormed (.lopDone 256) = false ∧
    wellFormed (.pollReply 4096 0 0) = false ∧ wellFormed (.lglMsgIn (hdr 1 0 0) []) = false := by
  decide

theorem test_illFormed_events :
    wellFormed (.lineLatch 65536) = false ∧ wellFormed (.lineFetchDone 0 65536) = false ∧ wellFormed (.planeFetchError 0 65536 0) = false ∧
    wellFormed (.activeLine 65536 [] false [] none) = false ∧ wellFormed (.wbBusError 0x10000000000) = false ∧ wellFormed (.hpdAssert 3 0 []) = false ∧
    wellFormed (.trainingEnd true 16 0) = false ∧ wellFormed (.tbSyncRx 0 true 0 256) = false ∧ wellFormed (.linkChange 0 true 4) = false ∧
    wellFormed (.bmSessionOpen 4) = false ∧ wellFormed (.mirrorRefresh 32768) = false ∧ wellFormed (.outSend 512) = false ∧
    wellFormed (.mcTrainDone true true 0x100000000) = false ∧ wellFormed (.secFuseProg (.proc 8) [] none) = false ∧
    wellFormed (.secFuseProg (.proc 8) (List.replicate 33 0#8) (some [])) = false ∧ wellFormed (.dbgResponse 0#32 [] []) = false ∧
    wellFormed (.stDone (some (0x10000000000, 0))) = false ∧ wellFormed (.tempHigh 32768) = false ∧ wellFormed (.tdmFsReturn 0 7999) = false := by
  decide

/-- No word of the table spells a command. -/
theorem test_decodeTableWord : decodeTableWord 16 0x1234 = none := rfl

/-- The worked case of R269: div.s of -7 by 2, and div.u of 0x1234 by 0. -/
theorem test_division : divRes true 0xFFFFFFF9#32 2#32 = (0xFFFFFFFD#32, 0xFFFFFFFF#32) ∧ divRes false 0x1234#32 0#32 = (0xFFFFFFFF#32, 0x1234#32) := by decide

/-- The worked case of R143: palette alpha 128 in a plane of alpha 192, red 4 095 over 0. -/
theorem test_blend : blendAlpha 128 192 = 96 ∧ blendColour 96 4095 0 = 1542 := by decide

/-- The worked case of R151: depth 6 and colour 1 000 at pixel (5, 2), ordered and without dithering. -/
theorem test_dither : ditherColour 6 1 5 2 0 1000 = 16 ∧ ditherColour 6 0 5 2 0 1000 = 15 := by decide

/-- The worked case of R280: the parcel at 0x0204, with the latch armed. -/
theorem test_parcel : groupOf 0x80B4 0x000C (some 0x204) = ([⟨5, 0, .value 0x4094000C#32, 0, false, true⟩], 4) := by decide

/-- On an empty queue without supplies the block idles. -/
theorem test_idle : step { State.reset with pwr := { supply := false } } = .next { State.reset with pwr := { supply := false } } := by rfl

/-- The hypotheses of StepRunsFrontCommand are met. -/
theorem witness_StepRunsFrontCommand :
    ({ State.reset with pending := [.sampleBoundary, .ident] } : State).pending = .sampleBoundary :: [.ident] ∧ State.reset.pending = [] ∧
    (let s : State := { State.reset with pwr := { supply := false } }
     s.pending = [] ∧ s.pwr.supply = false) :=
  ⟨rfl, rfl, rfl, rfl⟩

/-- The hypotheses of EveryStepOwesNothing are met. -/
theorem witness_EveryStepOwesNothing : OwesNothing State.reset ∧ State.reset.sec.late = none ∧ State.reset.net.stagedOwed = [] ∧
    bmSync State.reset = State.reset :=
  ⟨⟨rfl, rfl, rfl⟩, rfl, rfl, rfl⟩

/-- The hypotheses of ParcelsDecodeAsEncoded are met by a long parcel of form B with every field at its highest value. -/
theorem witness_ParcelsDecodeAsEncoded :
    (fun (g : Claims.Group) (x : Core) (a : Nat) => x.stale = [] ∧ ofBytes [byteAt x.iram a, byteAt x.iram (a + 1)] = g.words.1 ∧
      ofBytes [byteAt x.iram (a + 2), byteAt x.iram (a + 3)] = g.words.2)
      (.longB 7 true 511 511 0xFF#8) { iram := [(8, 0xFF#8), (9, 0xFF#8), (10, 0xFF#8), (11, 0xFF#8)] } 8 := by
  decide


/-- The row of an entry. -/
def row (idx sub : Nat) : DictRow := (dictRow? idx sub).getD ⟨0, 0, .u32, .ro, 0, 0, .volatile, .any, [], .none⟩

/-- The device after reset with processor c changed from one that runs at pc 0 with its first words fetched. -/
def withCore (c : Nat) (f : Core → Core) : State := setCore State.reset c (f { run := 1, cyc := 10, queue := (0, [0, 0, 0, 0]) })

/-- The partition runs: domains 4 to 6 are on and its core is released. -/
def legalOn (s : State) : State := setBm (setCore (setN s kDomainOn 0xC03FFF) 9 { run := 1, cyc := 10, queue := (0, [0, 0, 0, 0]) }) { s.bm with state := bmRunning }

/-- Processor c ready at pc 0. -/
def ready (c : Nat) : State := withCore c id

/-- Processor c ready, with operands by unit. -/
def withOpd (c unit : Nat) (v : Word) : State := withCore c (fun x => { x with opd := [(unit, v)] })

/-- A state with entries written. -/
def withRegs (s : State) : List (Nat × Nat) → State
  | [] => s
  | (k, v) :: l => withRegs (setN s k v) l


/-- A source in a state. -/
def withSrc (s : State) (src : Nat) (x : SrcState) : State := { s with ic := { s.ic with src := [(src, x)] } }

/-- Core 0 ready, with shared SRAM holding a list of words at an offset. -/
def sramWords (s : State) (a : Nat) (ws : List Nat) : State :=
  { s with mem := { s.mem with sram := writeBytes sramSize s.mem.sram a (ws.flatMap (fun w => toBytes 4 w)) } }


/-- Core 0 ready, with source 768 routed to it at priority 5, slot 16, and pending. -/
def irqReady : State := withSrc (withRegs (ready 0) [(routeKey 768, 0x50100)]) 768 .pending

/-- The state after core 0 has claimed its request. -/
def irqTaken : State := ((entered irqReady 0).getD (0, 0, State.reset)).2.2

/-- Bytes in a core's instruction RAM. -/
def iramWith (x : Core) (b : List Byte) : Core := { x with iram := writeBytes 65536 x.iram 0 b }

/-- An LDW from the end of shared SRAM that waits for its data. -/
def loadGroup : HeldGroup := ⟨[⟨81, 0, 0x103FFFFC#32, true⟩], 0x40, 4, 0x40, none, false, none, true, false, none⟩

/-- Core 0 with an LDW from shared SRAM held for its data. -/
def heldLoad : State := sramWords (withCore 0 (fun x => { x with held := some loadGroup })) 0x3FFFFC [0xCAFE0001]


/-- A header of a COP message of the SPI host that asks for a reply. -/
def spiHdr : CopHdr := ⟨.spi, 5, 0, 0, 77, none, true, false⟩

/-- Core 8 with a READ of VARIANT_CODE in its request buffer at offset 64. -/
def readRequest : State := sramWords (ready 8) 64 [0x00400010, 0, 0x00000101, 0x00070000, 0, 0x01011000]


/-- The device with every domain on. -/
def gale : State := withRegs State.reset [(kDomainOn, 0xFFFFFF)]

/-- With the raster running. -/
def shown (f : Raster → Raster) : State := { gale with raster := f { running := true, started := true, lockCfg := lockSettings gale, lastFrame := some 6 } }

/-- With bytes in video memory. -/
def withVsram (s : State) (a : Nat) (b : List Byte) : State := { s with mem := { s.mem with vsram := writeBytes (2 ^ 23) s.mem.vsram a b } }


/-- A running list of two commands, the first of the words given, fetched, in the frame of a running raster. -/
def listed (ws : List Nat) (f : LineSeq → LineSeq) : State :=
  let s := withVsram (withRegs (shown id) [(entryKey 0x2281 3, 2)]) 0 (ws.flatMap (fun w => toBytes 4 w))
  let l := f { running := true }
  { s with gfx := { s.gfx with ls := { l with fifo := (List.range (2 - l.pc)).map (fun i => lsRead s (l.pc + i)) } } }


/-- A DMA channel in a state, with entries written. -/
def withChan (n : Nat) (l : List (Nat × Nat)) (x : DmaChan) : State := { (withRegs gale l) with dma := [(n, x)] }

/-- The words of a descriptor, list or command in external memory. -/
def extWords (s : State) (a : Nat) (ws : List Nat) : State :=
  { s with mem := { s.mem with ext := writeBytes extSize s.mem.ext a (ws.flatMap (fun w => toBytes 4 w)) } }


/-- The header of an image without code and data whose SW_ID is sixteen letters A. -/
def tHdr : List Byte := List.replicate 8 0#8 ++ List.replicate 16 0x41#8 ++ List.replicate 40 0#8
/-- A P-256 key under which r = s = the digest of that header is a signature: the key is R - G for the point R whose x is the digest. -/
def tKey : List Byte := toBytesBE 64 1656211662924803041202001046131314746414769015054414649006862383402966592806032174753820093363839018216462078023451340189945364323168807994662308878325511
def tSig : List Byte := toBytesBE 64 7855241314011014983235099724033088509203815981895413904799061223778340655031720957454860771510188287944625406747170418651738669078060853058447817455139074
/-- SHA-256 of the key. -/
def tHash : List Byte := toBytesBE 32 78128305484631338046987098774676203924061038848364848407695849738516140150391

/-- The same for the debug response with nonce 2, unique identifier 0 and permissions 1. -/
def rKey : List Byte := toBytesBE 64 4462672692540604311960026919606360911352283784675601626393857544600612940245234870637941433083318187210618569383597177094166198508556557702276063143971246
def rSig : List Byte := toBytesBE 64 11037277613285629006140713651100757190125019968529663032688096188961620541388467706021264984593528855615090151195456805281774187589505112225647858080246199
def rHash : List Byte := toBytesBE 32 48311106958720509925101047903405352629032880978443568868921379251373287569140

/-- A slot of the MRAM that holds the image, with its key's hash in the fuses. -/
def imaged (s : State) (slot : Nat) : State :=
  { s with
    sec := { s.sec with fuses := { s.sec.fuses with legalHash := tHash } }
    bm := { s.bm with mram := (((tHdr ++ tKey ++ tSig).zipIdx (slotBase slot)).filter (fun e => e.1 != 0#8)).map (fun e => (e.2, e.1)) } }


theorem ecMul_zero : ∀ (n : Nat) (p : Option (Nat × Nat)), ecMul n 0 p = none
  | 0, _ => rfl
  | n + 1, p => by simp [ecMul, ecMul_zero n]

theorem ecMul_one (n : Nat) (p : Nat × Nat) : ecMul (n + 1) 1 (some p) = some p := by
  simp [ecMul, ecMul_zero, ecAdd]

/-- A signature of r = s over a digest equal to r verifies when the generator plus the key has x = r: `w` is the inverse of r, so that both multipliers
are 1. -/
theorem ecdsaVerify_ones (x y r w : Nat) (q : Nat × Nat) (key sig digest : List Byte)
    (h : (ofBytesBE (key.take 32) = x ∧ ofBytesBE ((key.drop 32).take 32) = y) ∧
      (ofBytesBE (sig.take 32) = r ∧ ofBytesBE ((sig.drop 32).take 32) = r ∧ ofBytesBE (digest.take 32) = r) ∧ (invMod p256N r = w ∧ r * w % p256N = 1) ∧
      (x < p256P ∧ y < p256P ∧ y * y % p256P = (x * x * x + (p256P - 3) * x + p256B) % p256P ∧ 0 < r ∧ r < p256N) ∧
      ecAdd (some p256G) (some (x, y)) = some q ∧ q.1 % p256N = r) : ecdsaVerify key sig digest = true := by
  obtain ⟨⟨hx, hy⟩, ⟨hr, hs, hz⟩, ⟨hw, h1⟩, ⟨hkx, hky, hon, hr0, hrn⟩, hq, hqr⟩ := h
  unfold ecdsaVerify
  simp only [hx, hy, hr, hs, hz, hw, h1, hkx, hky, hon, hr0, hrn, and_self, if_true, ecMul_one 255, hq, hqr, beq_self_eq_true]

theorem tImage_verifies : ecdsaVerify tKey tSig (sha256 tHdr) = true :=
  ecdsaVerify_ones 14303323083931863644062530725264292477480492815602625445824303111131994036786
    4865215143854603731529700523280012567192089151648072676082404980209559639815
    67839188028740693845069985079359571149021615299847213816951403630314721081602
    114111621991510665544852100556046496154898341859350947571205878493279092214418
    (67839188028740693845069985079359571149021615299847213816951403630314721081602, 30585347588658921803780843688726761550156568238088555996841490872372610082052)
    tKey tSig (sha256 tHdr) (by decide +kernel)

theorem rResponse_verifies : ecdsaVerify rKey rSig (sha256 (toBytes 16 2 ++ toBytes 8 0 ++ toBytes 4 1)) = true :=
  ecdsaVerify_ones 38540393578997825470315494479405952133685435172567295095429520577685698897632
    30415978221543571825315039368257723525236115235803280367379380280842860939694
    95319789857705211005700262154407733752384169556617699108378399889595806476727
    108907318811225722021708712110790410416611788127673533657542508976937441234880
    (95319789857705211005700262154407733752384169556617699108378399889595806476727, 37012732774784162359128794437272082396161776682408092352760259897118763291967)
    rKey rSig _ (by decide +kernel)

theorem imgVerify_of (s : State) (slot : Nat)
    (h : (imgHeaderOk s slot = true ∧ s.sec.fuses.legalHash = tHash) ∧
      mramBytes s (slotBase slot + 64 + imgCode s slot + imgData s slot) 128 = tKey ++ tSig ∧
      mramBytes s (slotBase slot) (64 + imgCode s slot + imgData s slot) = tHdr) : imgVerify s slot = 0 := by
  obtain ⟨⟨hh, hf⟩, hk, hd⟩ := h
  have halves : (tKey ++ tSig).take 64 = tKey ∧ (tKey ++ tSig).drop 64 = tSig := by decide +kernel
  have hash : (sha256 tKey == tHash) = true ∧ tHash.all (· == 0#8) = false := by decide +kernel
  simp only [imgVerify, hh, hf, hk, imgDigest, hd, verifyImage, halves.1, halves.2, hash.1, hash.2, tImage_verifies, if_true, Bool.not_true,
    Bool.false_eq_true, if_false]

theorem responseGood_of (s : State) (h : s.sec.nonce = some 2 ∧ s.sec.fuses.uid = 0 ∧ s.sec.fuses.dbgHash = rHash) :
    responseGood s ⟨1, rKey, rSig, some 2⟩ = true := by
  obtain ⟨hn, hu, hf⟩ := h
  have halves : (rKey ++ rSig).take 64 = rKey ∧ (rKey ++ rSig).drop 64 = rSig := by decide +kernel
  have hash : (sha256 rKey == rHash) = true ∧ rHash.all (· == 0#8) = false := by decide +kernel
  simp only [responseGood, hn, hu, hf, verifyImage, halves.1, halves.2, hash.1, hash.2, rResponse_verifies, if_true, Bool.not_true,
    Bool.false_eq_true, if_false]
  decide
end Sys2Proof.Tests

/-! ### Witnesses for the division -/

namespace Sys2Proof.Tests.WDiv
open Sys2Proof.Machine Sys2Proof.Claims


/-- The hypotheses of DivisionRounding are met. -/
theorem witness_DivisionRounding :
    (fun (o t : Word) => t = BitVec.ofNat 32 0)
      5#32 0#32 ∧
    (fun (o t : Word) => t ≠ BitVec.ofNat 32 0 ∧ ¬(o = BitVec.ofNat 32 2147483648 ∧ t = BitVec.ofNat 32 4294967295))
      0xFFFFFFF9#32 2#32 ∧
    (fun (o t : Word) => t ≠ BitVec.ofNat 32 0 ∧ o = BitVec.ofNat 32 2147483648 ∧ t = BitVec.ofNat 32 4294967295)
      0x80000000#32 0xFFFFFFFF#32 := by
  repeat' apply And.intro
  all_goals first | decide +kernel | rfl

/-- The hypotheses of Products are met. -/
theorem witness_Products :
    (fun (c p : Nat) => p = 107 ∨ p = 108)
      7 107 := by
  all_goals decide +kernel

/-- The hypotheses of DitherKeepsBound are met. -/
theorem witness_DitherKeepsBound :
    (fun (s : State) (base d x y k : Nat) (p : Mpx) => (d = 6 ∨ d = 8 ∨ d = 10) ∧ k = 12 - d ∧ p.r < 4096 ∧ p.g < 4096 ∧ p.b < 4096)
      (withRegs gale [(compKey 0x20, 2 * 4 + 1)]) 0x20 6 3 3 6 ⟨4095, 4000, 63, none⟩ ∧
    (fun (s : State) (base d x y k : Nat) (p : Mpx) => (d = 6 ∨ d = 8 ∨ d = 10) ∧ k = 12 - d ∧ p.r < 4096 ∧ p.g < 4096 ∧ p.b < 4096 ∧ p.legal.isSome = true)
      (withRegs gale [(compKey 0x20, 1 * 4 + 1)]) 0x20 10 0 3 2 ⟨4095, 4000, 63, some 1⟩ ∧
    (fun (s : State) (base d x y k : Nat) (p : Mpx) (f : Nat × Nat × Nat → Nat) => (d = 6 ∨ d = 8 ∨ d = 10) ∧ k = 12 - d ∧ p.r < 4096 ∧ p.g < 4096 ∧ p.b < 4096 ∧ (f = Prod.fst ∨ (f = fun (q : Nat × Nat × Nat) => q.snd.fst) ∨ f = fun (q : Nat × Nat × Nat) => q.snd.snd))
      (withRegs gale [(compKey 0x20, 1 * 4 + 1)]) 0x20 10 0 3 2 ⟨4095, 4000, 63, none⟩ Prod.fst := by
  repeat' apply And.intro
  all_goals first | decide +kernel | rfl | exact .inl rfl

end Sys2Proof.Tests.WDiv

/-! ### Witnesses for cores: results, compares, loads, branches -/

namespace Sys2Proof.Tests.WCore
open Sys2Proof.Machine Sys2Proof.Claims


/-- The hypotheses of AluResultInFlight are met. -/
theorem witness_AluResultInFlight :
    (fun (s : State) (c : Fin 10) (u : Fin 2) (op : AluOp) (t : Word) => CoreReady s c.val ∧ (u = 1 → c.val < 8))
      (withOpd 7 1 0x7FFFFFFF#32) 7 1 .add 1#32 := by
  repeat' apply And.intro
  all_goals first | decide +kernel | (constructor <;> decide +kernel) | (intro h; first | nomatch h | (constructor <;> first | decide +kernel | (constructor <;> decide +kernel)))

/-- The hypotheses of CompareWritesGuard are met. -/
theorem witness_CompareWritesGuard :
    (fun (s : State) (c : Fin 10) (op : CmpOp) (b : Word) => CoreReady s c.val ∧ Idle (coreOf s c.val))
      (withCore 7 (fun x => { x with guards := 4, opd := [(6, 3#32)], res := [(6, 2#32)] })) 7 .lt 7#32 := by
  repeat' apply And.intro
  all_goals first | decide +kernel | (constructor <;> decide +kernel)

/-- The hypotheses of MulFpuResultInFlight are met. -/
theorem witness_MulFpuResultInFlight :
    (fun (s : State) (c : Fin 10) (t : Word) (op : MulOp) => CoreReady s c.val ∧ (op = MulOp.hs ∨ op = MulOp.hu → c.val < 8))
      (legalOn State.reset) 9 7#32 .ls ∧
    (fun (s : State) (c : Fin 10) (t : Word) (op : FpuOp) => CoreReady s c.val ∧ c.val < 8)
      (withOpd 7 5 0x3F800000#32) 7 0x40000000#32 .add := by
  repeat' apply And.intro
  all_goals first | decide +kernel | (constructor <;> decide +kernel) | (intro h; first | nomatch h | (constructor <;> first | decide +kernel | (constructor <;> decide +kernel)))

/-- The hypotheses of DivisionAndResults are met. -/
theorem witness_DivisionAndResults :
    (fun (s : State) (c : Fin 10) (signed : Bool) (t : Word) => CoreReady s c.val)
      (legalOn State.reset) 9 true 0#32 ∧
    (fun (s : State) (c : Fin 10) (d : Division) => coreOn s c.val = true ∧ (coreOf s c.val).held = none ∧ (coreOf s c.val).div = some d)
      (withCore 8 (fun x => { x with div := some ⟨28, 1#32, 2#32, true⟩ })) 8 ⟨28, 1#32, 2#32, true⟩ ∧
    (fun (s : State) (c : Fin 10) (f : Flight) => coreOn s c.val = true ∧ (coreOf s c.val).held = none ∧ f ∈ (coreOf s c.val).flight ∧ (∀ (g : Flight), g ∈ (coreOf s c.val).flight → f.due ≤ g.due ∧ (g.due = f.due → g.unit = f.unit → g = f)) ∧ f.unit ≠ 4 ∧ f.unit ≠ 7)
      (withCore 7 (fun x => { x with flight := [⟨5, 12, 9#32, 1, 3⟩] })) 7 ⟨5, 12, 9#32, 1, 3⟩ := by
  repeat' apply And.intro
  all_goals first | decide +kernel | rfl | (constructor <;> decide +kernel) | (intro h; first | nomatch h | (constructor <;> first | decide +kernel | (constructor <;> decide +kernel)))

/-- The hypotheses of LocalLoadStore are met. -/
theorem witness_LocalLoadStore :
    (fun (s : State) (c : Fin 10) (a : Word) (width : Nat) (signed : Bool) (off : Nat) => CoreReady s c.val ∧ (width = 1 ∨ width = 2 ∨ width = 4) ∧ BitVec.toNat a % width = 0 ∧ BitVec.toNat a = dramBase c.val + off ∧ off + width ≤ dramSize c.val)
      (withCore 7 (fun x => { x with opd := [(3, 0x11223344#32)], dram := [(0xFFFC, 0x80#8)] })) 7 0x1FFFC#32 4 true 0xFFFC := by
  repeat' apply And.intro
  all_goals first | decide +kernel | rfl | (constructor <;> decide +kernel)

/-- The hypotheses of BranchesGoToTarget are met. -/
theorem witness_BranchesGoToTarget :
    (fun (s : State) (c : Fin 10) (a : Word) => CoreReady s c.val ∧ BitVec.toNat a % 2 = 0 ∧ BitVec.toNat a < iramSize c.val)
      (ready 8) 8 0x7FFE#32 ∧
    (fun (s : State) (c : Fin 10) => CoreReady s c.val ∧ BitVec.toNat (coreOf s c.val).link % 2 = 0 ∧ BitVec.toNat (coreOf s c.val).link < iramSize c.val)
      (withCore 8 (fun x => { x with link := 0x7FFE#32 })) 8 ∧
    (fun (s : State) (c : Fin 10) => CoreReady s c.val ∧ (coreOf s c.val).stores = [])
      (ready 8) 8 ∧
    (fun (s : State) (c : Fin 10) (sh : Shadow) (rest : List Shadow) => CoreReady s c.val ∧ (coreOf s c.val).stack = sh :: rest ∧ sh.pc % 2 = 0 ∧ sh.pc < iramSize c.val)
      (withCore 0 (fun x => { x with stack := [⟨0x20, 5, 3, true⟩], level := 31, guards := 1 })) 0 ⟨0x20, 5, 3, true⟩ [] := by
  repeat' apply And.intro
  all_goals first | decide +kernel | rfl | (constructor <;> decide +kernel)

end Sys2Proof.Tests.WCore

/-! ### Witnesses for interrupts, faults, ports, groups -/

namespace Sys2Proof.Tests.WCore2
open Sys2Proof.Machine Sys2Proof.Claims


/-- The hypotheses of InterruptEntrySavesContext are met. -/
theorem witness_InterruptEntrySavesContext :
    (fun (s t : State) (c : Fin 10) (prio slot : Nat) => coreIssues s c.val = true ∧ (coreOf s c.val).held = none ∧ (coreOf s c.val).immHi = none ∧ (coreOf s c.val).stepReq = false ∧ (coreOf s c.val).stack.length < 31 ∧ entered s c.val = some (prio, slot, t))
      irqReady irqTaken 0 5 16 := by
  repeat' apply And.intro
  all_goals first | decide +kernel | rfl

/-- The hypotheses of FaultEntrySavesContext are met. -/
theorem witness_FaultEntrySavesContext :
    (fun (s : State) (c : Fin 10) (code : Fin 6) (detail : Fin 5) (port : Fin 512) => coreIssues s c.val = true ∧ (coreOf s c.val).held = none ∧ (coreOf s c.val).immHi = none ∧ (coreOf s c.val).stepReq = false ∧ (coreOf s c.val).stack.length < 31 ∧ inFault (coreOf s c.val) = false)
      (withCore 8 (fun x => { x with level := 3, guards := 9, pc := 0x20 })) 8 5 4 511 := by
  repeat' apply And.intro
  all_goals first | decide +kernel | rfl

/-- The hypotheses of GpioActsOnOwnedPins are met. -/
theorem witness_GpioActsOnOwnedPins :
    (fun (s : State) (c : Fin 10) (v : Word) => CoreReady s c.val ∧ c.val ≠ 9)
      { (withRegs (ready 7) [(muxKey 2, 0x38), (muxKey 5, 0x38), (muxKey 3, 0x39)]) with pins := { out := 0xF0 } } 7 0xFF#32 := by
  repeat' apply And.intro
  all_goals first | decide +kernel | (constructor <;> decide +kernel)

/-- The hypotheses of ControlPorts are met. -/
theorem witness_ControlPorts :
    (fun (s : State) (c : Fin 10) (v : Word) => CoreReady s c.val)
      (ready 8) 8 0x12345678#32 ∧
    (fun (s : State) (c : Fin 10) (v : Word) => CoreReady s c.val ∧ (coreOf s c.val).lock = false)
      (withCore 0 (fun x => { x with mcsel := 511 })) 0 0xFFFFFFFF#32 ∧
    (fun (s : State) (c : Fin 10) (v : Word) (t p : Nat) (rest : List (Nat × Nat)) => CoreReady s c.val ∧ stackOf s c.val = (t, p) :: rest ∧ t = BitVec.toNat v % 1024)
      (setStack (ready 0) 0 [(768, 5), (3, 1)]) 0 768#32 768 5 [(3, 1)] := by
  repeat' apply And.intro
  all_goals first | decide +kernel | rfl | (constructor <;> decide +kernel)

/-- The hypotheses of GroupsWriteRegisters are met. -/
theorem witness_GroupsWriteRegisters :
    (fun (s : State) (c : Fin 10) (ms : List RawMove) (len : Nat) => CoreReady s c.val ∧ fetchGroup (coreOf s c.val) (coreOf s c.val).pc = (ms, len) ∧ len ≤ 4 ∧ (∀ (m : RawMove), m ∈ ms → PlainMove m) ∧ (List.map RawMove.dst ms).Nodup)
      (withCore 0 (fun x => iramWith x [0xF0#8, 0x83#8, 0x05#8, 0x00#8])) 0 [⟨31, 0, .value 0xFFF00005#32, 0, false, true⟩] 4 ∧
    (fun (s : State) (c : Fin 10) (d : Nat) (k : Fin 16) (ext : Byte) (arg : Word) => CoreReady s c.val ∧ 0 < d ∧ d < 32 ∧ stepWord (coreOf s c.val) k.val 0 = 2 ^ 28 + 2 ^ 18 + d)
      (withCore 0 (fun x => { x with mc := [(0, 0x1004001F#32)] })) 0 31 0 3#8 99#32 := by
  repeat' apply And.intro
  all_goals first | decide +kernel | rfl | (constructor <;> decide +kernel) | simp [PlainMove]

/-- The hypotheses of SharedSramAccess are met. -/
theorem witness_SharedSramAccess :
    (fun (s : State) (c : Fin 10) (e : StoreEntry) (rest : List StoreEntry) => coreOn s c.val = true ∧ (coreOf s c.val).held = none ∧ (coreOf s c.val).stores = e :: rest ∧ storeTaken s e = true)
      (withCore 0 (fun x => { x with stores := [⟨.sram, 0x3FFFFC, 4, 0x11223344⟩, ⟨.sram, 0, 1, 5⟩] })) 0 ⟨.sram, 0x3FFFFC, 4, 0x11223344⟩ [⟨.sram, 0, 1, 5⟩] ∧
    (fun (s : State) (c : Fin 9) (n p width : Nat) (signed : Bool) (a : Word) (g : HeldGroup) => coreIssues s c.val = true ∧ domainOn s 8 = true ∧ (coreOf s c.val).stepReq = false ∧ (coreOf s c.val).stores = [] ∧ (coreOf s c.val).held = some g ∧ accessOf p = some (width, false, signed) ∧ g.moves = [{ dst := p, ext := 0, value := a, runs := true }] ∧ g.mac = none ∧ g.predicted = none ∧ g.masked = none ∧ BitVec.toNat a % width = 0 ∧ 268435456 ≤ BitVec.toNat a ∧ BitVec.toNat a < 272629760)
      heldLoad 0 7 81 4 false 0x103FFFFC#32 loadGroup := by
  repeat' apply And.intro
  all_goals first | decide +kernel | rfl

end Sys2Proof.Tests.WCore2

/-! ### Witnesses for the coprocessor block -/

namespace Sys2Proof.Tests.WCop
open Sys2Proof.Machine Sys2Proof.Claims


/-- The hypotheses of CoprocessorReads are met. -/
theorem witness_CoprocessorReads :
    (fun (s : State) (c : Fin 10) (v : Word) => CoreReady s c.val ∧ (coreOf s c.val).stores = [] ∧ c.val ≤ 8 ∧ engineOn s 8 = true ∧ s.ss.walk = none)
      { (ready 8) with ss := { disp := [(0x3FFFF, 5)], stag := [(0x3FFFF, 7)] } } 8 0xFFFFFFFF#32 ∧
    (fun (s : State) (c : Fin 10) (sub : Byte) (n : Nat) => CoreReady s c.val ∧ (coreOf s c.val).stores = [] ∧ c.val < 8 ∧ n = BitVec.toNat (copOf (coreOf s c.val) 272) % 8 ∧ engineOn s (20 + n) = true ∧ engineOffline s (20 + n) = false ∧ 1 ≤ BitVec.toNat sub % 128 ∧ BitVec.toNat sub % 128 ≤ 18)
      (withRegs (withCore 7 (fun x => { x with copr := [(272, 7#32)] })) [(planeKey 7 1 0x12, 99), (kDomainOn, 0xFFFFFF)]) 7 0x92#8 7 ∧
    (fun (s : State) (c : Fin 10) (n : Fin 16) => CoreReady s c.val ∧ (coreOf s c.val).stores = [] ∧ c.val ≤ 8 ∧ engineOn s 5 = true)
      (withRegs (ready 8) [(chKey 15 7, 99), (kDomainOn, 0xFFFFFF)]) 8 15 ∧
    (fun (s : State) (c : Fin 10) => CoreReady s c.val ∧ (coreOf s c.val).stores = [] ∧ c.val < 8 ∧ engineOn s 6 = true)
      (withRegs (ready 7) [(kBltStatus, 99), (kDomainOn, 0xFFFFFF)]) 7 := by
  repeat' apply And.intro
  all_goals first | decide +kernel | rfl | (constructor <;> decide +kernel)

/-- The hypotheses of NetworkQueueStatus are met. -/
theorem witness_NetworkQueueStatus :
    (fun (s : State) (c : Fin 10) (tag : Word) (r0 : LocalReq) => CoreReady s c.val ∧ (coreOf s c.val).stores = [] ∧ c.val ≤ 8 ∧ domainOn s 8 = true ∧ List.find? (fun (r : LocalReq) => r.proc == c.val && r.tag == BitVec.toNat tag % 65536) s.net.reqs = some r0)
      { (ready 8) with net := { reqs := [⟨7, 3, 0, 0, false, 3, 4⟩, ⟨8, 3, 0, 0, false, 3, 4⟩] } } 8 0x10003#32 ⟨8, 3, 0, 0, false, 3, 4⟩ ∧
    (fun (s : State) (c : Fin 10) (tag : Word) => CoreReady s c.val ∧ (coreOf s c.val).stores = [] ∧ c.val ≤ 8 ∧ domainOn s 8 = true ∧ List.find? (fun (r : LocalReq) => r.proc == c.val && r.tag == BitVec.toNat tag % 65536) s.net.reqs = none)
      { (ready 8) with net := { reqs := [⟨7, 3, 0, 0, false, 3, 4⟩] } } 8 3#32 := by
  repeat' apply And.intro
  all_goals first | decide +kernel | rfl | (constructor <;> decide +kernel)

/-- The hypotheses of SignalUpdateByCore are met. -/
theorem witness_SignalUpdateByCore :
    (fun (s : State) (c : Fin 10) (next : Bool) (v : Word) (n fields : Nat) => CoreReady s c.val ∧ (coreOf s c.val).stores = [] ∧ c.val ≤ 8 ∧ engineOn s 8 = true ∧ n < 262080 ∧ fields < 32 ∧ BitVec.toNat (copOf (coreOf s c.val) 256) = n + 2 ^ 24 * fields ∧ (attrOwner (attrOf s n) = 0 ∨ attrOwner (attrOf s n) = 3) ∧ badQuality { signal := n, word := BitVec.toNat v, fields := fields } = false ∧ badAlarm { signal := n, word := BitVec.toNat v, fields := fields } = false)
      { (withCore 8 (fun x => { x with copr := [(256, 0x1F03FFBF#32)] })) with ss := { stag := [(262079, 0x12345)] } } 8 true 0x1A5FFFF#32 262079 31 := by
  repeat' apply And.intro
  all_goals first | decide +kernel | rfl | (constructor <;> decide +kernel)

/-- The hypotheses of PlaneWriteByCore are met. -/
theorem witness_PlaneWriteByCore :
    (fun (s : State) (c : Fin 9) (sub : Byte) (v : Word) (d : DictRow) (n : Nat) => CoreReady s c.val ∧ (coreOf s c.val).stores = [] ∧ c.val < 8 ∧ n = BitVec.toNat (copOf (coreOf s c.val) 272) % 8 ∧ engineOn s (20 + n) = true ∧ StoreReaches s (Writer.proc c) (9472 + 64 * n) (BitVec.toNat sub) v d ∧ d.acc = Access.rw ∧ 1 ≤ BitVec.toNat sub ∧ BitVec.toNat sub ≤ 18 ∧ s.raster.inWindow = false ∧ s.raster.held = [])
      (withRegs (withCore 7 (fun x => { x with copr := [(272, 7#32)] })) [(kDomainOn, 0xFFFFFF)]) 7 0x03#8 100#32 (row 0x26C0 3) 7 := by
  repeat' apply And.intro
  all_goals first | decide +kernel | rfl | (constructor <;> decide +kernel)

/-- The hypotheses of LocalRequestByCore are met. -/
theorem witness_LocalRequestByCore :
    (fun (s : State) (c : Fin 9) (notify : Bool) (v : Word) (idx sub count tag : Nat) => CoreReady s c.val ∧ (coreOf s c.val).stores = [] ∧ domainOn s 8 = true ∧ openReqs s c.val < 8 ∧ idx < 65536 ∧ sub < 256 ∧ count < 256 ∧ tag < 65536 ∧ isAppIdx idx = false ∧ sramWord s (bufferAt v) % 65536 = 16)
      readRequest 8 true 64#32 0x1000 1 1 7 := by
  repeat' apply And.intro
  all_goals first | decide +kernel | rfl | (constructor <;> decide +kernel)

/-- The hypotheses of DecodeTableWrite are met. -/
theorem witness_DecodeTableWrite :
    (fun (s : State) (w : Writer) (c : Fin 9) (v : Word) (d : DictRow) => StoreReaches s w (if c.val = 8 then 8255 else 10047 + 64 * c.val) 3 v d ∧ d.acc = Access.rw ∧ (coreOf s c.val).lock = false ∧ (coreOf s c.val).run ≠ 1 ∧ (coreOf s c.val).run ≠ 2)
      (withRegs (setCore State.reset 7 {}) [(coreKey 7 2, 511)]) (.proc 8) 7 0x1FFFFFFF#32 (row 0x28FF 3) := by
  repeat' apply And.intro
  all_goals first | decide +kernel | rfl | (constructor <;> decide +kernel)

end Sys2Proof.Tests.WCop

/-! ### Witnesses for the signal store and COP messages -/

namespace Sys2Proof.Tests.WSig
open Sys2Proof.Machine Sys2Proof.Claims


/-- The hypotheses of LocalSignalStores are met. -/
theorem witness_LocalSignalStores :
    (fun (s : State) (p : Fin 9) (n : Fin 262144) (w : Word) => engineOn s 8 = true ∧ n.val < 262080 ∧ (attrOwner (attrOf s n.val) = 0 ∨ attrOwner (attrOf s n.val) = 3) ∧ sigQuality (BitVec.toNat w) ≤ 5 ∧ sigAlarm (BitVec.toNat w) ≤ 7)
      { State.reset with ss := { attr := [(262079, 0x30)] } } 8 262079 0xFF3D1234#32 ∧
    (fun (s : State) (p : Fin 9) (n : Fin 262144) (b : Byte) => engineOn s 8 = true ∧ n.val < 262080)
      State.reset 8 262079 0xFF#8 := by
  repeat' apply And.intro
  all_goals first | decide +kernel | rfl

/-- The hypotheses of OwnerRefusalDiscards are met. -/
theorem witness_OwnerRefusalDiscards :
    (fun (s : State) (p : Fin 9) (n : Fin 262144) (w : Word) => engineOn s 8 = true ∧ n.val < 262080 ∧ (attrOwner (attrOf s n.val) = 1 ∨ attrOwner (attrOf s n.val) = 2) ∧ sigQuality (BitVec.toNat w) ≤ 5 ∧ sigAlarm (BitVec.toNat w) ≤ 7)
      { State.reset with ss := { attr := [(262079, 0x80)] } } 8 262079 5#32 := by
  repeat' apply And.intro
  all_goals first | decide +kernel | rfl

/-- The hypotheses of SignalFramesQueueAndStage are met. -/
theorem witness_SignalFramesQueueAndStage :
    (fun (s : State) (h : CopHdr) (recs : List UpdateRec) => engineOn s 8 = true ∧ isLocal h.path = false ∧ recs ≠ [] ∧ (∀ (rec : UpdateRec), rec ∈ recs → CleanRecord rec) ∧ (if h.path = CopPath.spi then s.ss.spiQ.length + recs.length ≤ 64 else s.ss.netQ.length + recs.length ≤ 4096) ∧ ∀ (f : FrameReply), f ∈ s.ss.replies → f.left ≠ 0)
      State.reset { spiHdr with replyReq := false } [⟨5#32, 0x1F000007#32⟩, ⟨6#32, 0x1F000008#32⟩] ∧
    (fun (s : State) (h : CopHdr) (p : Fin 9) (rec : UpdateRec) => engineOn s 8 = true ∧ h.path = CopPath.proc p ∧ CleanRecord rec ∧ ownerOk s (decodeUpdate rec).signal p.val = true)
      State.reset { spiHdr with path := .proc 8 } 8 ⟨5#32, 0x1F000007#32⟩ ∧
    (fun (s : State) (fromNet fromSpi : Bool) (rivals : List LocalUpdate) => engineOn s 8 = true)
      { State.reset with ss := { spiQ := [⟨⟨7, 5, 31⟩, 11, 0, 0⟩, ⟨⟨8, 5, 31⟩, 11, 0, 0⟩], netQ := [⟨⟨7, 6, 31⟩, 10, 0, 0⟩], stag := [(7, 100)] } } true true [⟨.proc 3, ⟨9#32, 0x1F000007#32⟩⟩, ⟨.bellmetal, ⟨9#32, 0x1F000009#32⟩⟩] ∧
    (fun (s : State) (w : Writer) (v : Word) => ∃ (r : DictRow), StoreReaches s w 8704 4 v r ∧ r.acc = Access.wo)
      State.reset (.proc 8) 3#32 := by
  repeat' apply And.intro
  all_goals first | decide +kernel | rfl | exact ⟨row 0x2200 4, by constructor <;> decide +kernel, rfl⟩ | (unfold CleanRecord; decide +kernel)

/-- The hypotheses of DictionaryStores are met. -/
theorem witness_DictionaryStores :
    (fun (s : State) (w : Writer) (idx sub : Nat) (v : Word) (d : DictRow) => StoreReaches s w idx sub v d ∧ sub < 256 ∧ d.acc = Access.rw ∧ PlainEntry idx sub)
      State.reset (.proc 0) 0x1201 2 0x00050001#32 (row 0x1201 2) ∧
    (fun (s : State) (w : Writer) (idx sub : Nat) (v : Word) (d : DictRow) => StoreReaches s w idx sub v d ∧ sub < 256 ∧ d.acc = Access.w1c)
      (withRegs State.reset [(entryKey 0x2040 0xB, 0xF)]) (.proc 8) 0x2040 0xB 5#32 (row 0x2040 0xB) ∧
    (fun (s : State) (p : Fin 9) (idx sub : Nat) (v : Word) (d : DictRow) => localReaches s idx sub = some d ∧ d.acc = Access.ro)
      State.reset 0 0x1000 1 5#32 (row 0x1000 1) ∧
    (fun (s : State) (ws : List DictReq) => List.Pairwise (fun (a b : DictReq) => ¬(a.idx = b.idx ∧ a.sub = b.sub)) ws)
      State.reset [⟨.proc 0, 0x1201, 2, 0x00050001#32⟩, ⟨.proc 1, 0x1201, 3, 1#32⟩] := by
  repeat' apply And.intro
  all_goals first | decide +kernel | rfl | (constructor <;> decide +kernel)

/-- The hypotheses of RivalWritesOfOneClock are met. -/
theorem witness_RivalWritesOfOneClock :
    (fun (s : State) (a b : DictReq) => a.idx = b.idx ∧ a.sub = b.sub ∧ pathRank a.writer < pathRank b.writer ∧ writePasses s a = true ∧ writePasses s b = true)
      State.reset ⟨.proc 0, 0x1201, 2, 0x00050001#32⟩ ⟨.cop .spi, 0x1201, 2, 0x00060002#32⟩ := by
  repeat' apply And.intro
  all_goals first | decide +kernel | rfl

/-- The hypotheses of CopReadWriteReply are met. -/
theorem witness_CopReadWriteReply :
    (fun (s : State) (h : CopHdr) (idx sub : Nat) (d : DictRow) => h.replyReq = true ∧ isAppIdx idx = false ∧ dictRow? idx sub = some d ∧ isBytes d.typ = false ∧ d.acc ≠ Access.rs ∧ (rsSubs idx).contains sub = false ∧ readStatus (copReceived s h) idx sub = 0)
      State.reset spiHdr 0x1000 1 (row 0x1000 1) ∧
    (fun (s t : State) (h : CopHdr) (idx sub : Nat) (v : CopValue) => h.replyReq = true ∧ isAppIdx idx = false ∧ copEntry (copReceived s h) (Writer.cop h.path) (some h) idx sub v = (t, 0))
      State.reset (copEntry (copReceived State.reset spiHdr) (.cop .spi) (some spiHdr) 0x1201 2 (.word 0x00050001#32)).1 spiHdr 0x1201 2 (.word 0x00050001#32) ∧
    (fun (s : State) (who : Requester) (idx sub : Nat) (d : DictRow) => dictRow? idx sub = some d ∧ d.acc = Access.rs ∧ reachStatus s idx sub false = 0 ∧ s.snaps = [])
      State.reset (.proc 0) 0x21C2 3 (row 0x21C2 3) := by
  repeat' apply And.intro
  all_goals first | decide +kernel | rfl

end Sys2Proof.Tests.WSig

/-! ### Witnesses for the interrupt controller -/

namespace Sys2Proof.Tests.WIc
open Sys2Proof.Machine Sys2Proof.Claims


/-- The hypotheses of SourceAssertionMoves are met. -/
theorem witness_SourceAssertionMoves :
    (fun (s : State) (src : Fin 1024) => sourceLive s src.val = true ∧ domainOn s 8 = true)
      (withSrc (withRegs State.reset [(routeKey 1023, 0x1050100)]) 1023 .inService) 1023 := by
  repeat' apply And.intro
  all_goals first | decide +kernel | rfl

/-- The hypotheses of DoorbellRoutingPending are met. -/
theorem witness_DoorbellRoutingPending :
    (fun (s : State) (n : Fin 256) => sourceLive s (768 + n.val) = true ∧ domainOn s 8 = true ∧ routeEdge (regN s (routeKey (768 + n.val))) = true)
      State.reset 255 ∧
    (fun (s : State) (w : Writer) (src : Fin 1024) (v : Word) (d : DictRow) => StoreReaches s w (8324 + src.val / 256) (src.val % 256) v d ∧ d.acc = Access.rw ∧ enginePresent s.variant (sourceEngine src.val) = true)
      State.reset (.proc 8) 639 0x1050100#32 (row 0x2086 127) ∧
    (fun (s : State) (w : MaskWait) (rest : List MaskWait) => s.ic.waiting = w :: rest)
      { State.reset with ic := { waiting := [⟨7, 0, 5⟩, ⟨8, 0, 5⟩] } } ⟨7, 0, 5⟩ [⟨8, 0, 5⟩] ∧
    (fun (s : State) (w : Writer) (word b : Fin 32) => (∃ (r : DictRow), StoreReaches s w 8328 word.val (natWord (2 ^ b.val)) r ∧ r.acc = Access.w1c) ∧ sourceRouted (32 * word.val + b.val) = true ∧ routeEdge (regN s (routeKey (32 * word.val + b.val))) = true)
      (withSrc (withRegs State.reset [(routeKey 1023, 0x1050100)]) 1023 .pending) (.proc 8) 31 31 := by
  repeat' apply And.intro
  all_goals first | decide +kernel | rfl | exact ⟨row 0x2088 31, by constructor <;> decide +kernel, by decide +kernel⟩ | (constructor <;> decide +kernel)

/-- The hypotheses of PresentedSourceIsBest are met. -/
theorem witness_PresentedSourceIsBest :
    (fun (s : State) (p src : Nat) => domainOn s 8 = true ∧ engineOffline s 2 = false ∧ (stackOf s p).length < 31 ∧ keysRise s.ic.src = true ∧ icPresented s p = some src)
      { (withRegs State.reset [(routeKey 1023, 0x500A0), (routeKey 3, 0x500B0)]) with ic := { src := [(3, .pending), (1023, .pending)] } } 0 3 ∧
    (fun (s : State) (p : Nat) => domainOn s 8 = true ∧ engineOffline s 2 = false ∧ (stackOf s p).length < 31 ∧ keysRise s.ic.src = true ∧ icPresented s p = none)
      State.reset 0 ∧
    (fun (s : State) (p src k : Nat) => domainOn s 8 = true ∧ engineOffline s 2 = false ∧ (stackOf s p).length < 31 ∧ keysRise s.ic.src = true ∧ icPresented s p = some src ∧ deliverable s p k = true ∧ k ∈ List.map Prod.fst s.ic.src)
      { (withRegs State.reset [(routeKey 1023, 0x500A0), (routeKey 3, 0x500A0)]) with ic := { src := [(3, .pending), (1023, .pending)] } } 0 3 1023 := by
  repeat' apply And.intro
  all_goals first | decide +kernel | rfl

end Sys2Proof.Tests.WIc

/-! ### Witnesses for the raster and its commits -/

namespace Sys2Proof.Tests.WRas
open Sys2Proof.Machine Sys2Proof.Claims

/-- A state or operand of the witnesses below. -/
def timed (f : Raster → Raster) : State :=
  let s := withRegs (shown id) [(entryKey 0x22C8 6, 1)]
  { s with raster := f { s.raster with lockCfg := lockSettings s, lock := .acquiring }, tb := { s.tb with ns := 105000000, sync := true } }

/-- The hypotheses of CommitWindowHoldsWrites are met. -/
theorem witness_CommitWindowHoldsWrites :
    (fun (s : State) => engineOn s 11 = true ∧ s.raster.running = true ∧ s.raster.inWindow = false ∧ s.raster.held = [])
      (shown id) ∧
    (fun (s : State) (w : Writer) (idx sub : Nat) (v : Word) (d : DictRow) => StoreReaches s w idx sub v d ∧ d.acc = Access.rw ∧ sub < 256 ∧ isStaged (entryKey idx sub) = true ∧ isArm (entryKey idx sub) = false ∧ s.raster.inWindow = true)
      (shown (fun r => { r with inWindow := true, ctrl := 1 })) (.proc 7) 0x26C0 18 1#32 (row 0x26C0 18) ∧
    (fun (s : State) (w : Writer) (idx sub : Nat) (v : Word) (d : DictRow) => StoreReaches s w idx sub v d ∧ d.acc = Access.rw ∧ sub < 256 ∧ isStaged (entryKey idx sub) = true ∧ isArm (entryKey idx sub) = false ∧ s.raster.inWindow = false ∧ s.raster.held = [])
      (shown (fun r => { r with ctrl := 1 })) (.proc 7) 0x2500 1 1#32 (row 0x2500 1) ∧
    (fun (s : State) => s.raster.inWindow = false ∧ (∀ (h : HeldWrite), h ∈ s.raster.held → isArm h.key = false) ∧ (List.map HeldWrite.key s.raster.held).Nodup)
      (shown (fun r => { r with held := [⟨planeKey 0 0 1, 0xFF, 3, none⟩, ⟨planeKey 1 0 1, 0xFF, 3, none⟩] })) := by
  repeat' apply And.intro
  all_goals first | decide +kernel | rfl | (constructor <;> decide +kernel) | (intro h; first | nomatch h | (constructor <;> first | decide +kernel | (constructor <;> decide +kernel)))

/-- The hypotheses of CommitRequests are met. -/
theorem witness_CommitRequests :
    (fun (s : State) (w : Writer) (v : Word) (d : DictRow) => StoreReaches s w 8904 2 v d ∧ BitVec.toNat v % 2 = 1 ∧ (s.raster.inWindow && bitAt s.raster.ctrl 0) = false)
      (shown id) (.proc 8) 1#32 (row 0x22C8 2) ∧
    (fun (s : State) (w : Writer) (v : Word) (d : DictRow) => StoreReaches s w 8904 2 v d ∧ BitVec.toNat v % 2 = 1 ∧ s.raster.inWindow = true ∧ s.raster.ctrl % 2 = 1 ∧ s.raster.lateMarked = false)
      (shown (fun r => { r with inWindow := true, ctrl := 1 })) (.proc 8) 1#32 (row 0x22C8 2) ∧
    (fun (s : State) (w : Writer) (v : Word) (d : DictRow) => StoreReaches s w 8904 1 v d ∧ d.acc = Access.rw)
      (shown id) (.proc 8) 0x201#32 (row 0x22C8 1) := by
  repeat' apply And.intro
  all_goals first | decide +kernel | rfl | (constructor <;> decide +kernel)

/-- The hypotheses of CommitInstants are met. -/
theorem witness_CommitInstants :
    (fun (s : State) => engineOn s 11 = true ∧ s.raster.running = true ∧ (s.raster.inWindow = true ∨ s.raster.held = []) ∧ CommitsNow s)
      (shown id) ∧
    (fun (s : State) (n : Nat) => engineOn s 11 = true ∧ s.raster.running = true ∧ (s.raster.inWindow = true ∨ s.raster.held = []) ∧ (stopDue s && stopTime s) = false ∧ (lockAdopt s).raster.holding = none ∧ lockHold (lockAdopt s) = some n)
      (timed id) 7 ∧
    (fun (s : State) (n : Nat) => engineOn s 11 = true ∧ s.raster.running = true ∧ (s.raster.inWindow = true ∨ s.raster.held = []) ∧ (stopDue s && stopTime s) = false ∧ (lockAdopt s).raster.holding = some n ∧ s.tb.ns < frameStart s n)
      (timed (fun r => { r with holding := some 7 })) 7 ∧
    (fun (s : State) => engineOn s 11 = true ∧ s.raster.running = true ∧ (s.raster.inWindow = true ∨ s.raster.held = []) ∧ stopDue s = true ∧ stopTime s = true)
      (shown (fun r => { r with change := some ⟨0x80, .blanking 2⟩ })) ∧
    (fun (s : State) => engineOn s 8 = true ∧ s.raster.running = false ∧ flag s (entryKey 8704 1) 1 = true ∧ s.pwr.training ≠ 1 ∧ (s.raster.started = true → ∀ (m : Nat), s.raster.change ≠ some { modes := m, phase := ModePhase.stopped }) ∧ s.raster.idleFrom ≤ s.tb.ns / regN s (entryKey 8704 6) * regN s (entryKey 8704 6))
      (withRegs gale [(entryKey 0x2200 1, 2)]) ∧
    (fun (s : State) (w : Walk) => s.ss.walk = some w)
      { gale with ss := { walk := some ⟨9, 0, false, false, false, 0⟩ } } ⟨9, 0, false, false, false, 0⟩ := by
  repeat' apply And.intro
  all_goals first | decide +kernel | rfl | (intro h; first | nomatch h | (constructor <;> first | decide +kernel | (constructor <;> decide +kernel)))

/-- The hypotheses of WalkCopiesDirtySignals are met. -/
theorem witness_WalkCopiesDirtySignals :
    (fun (s : State) (w : Walk) (n : Nat) => s.ss.walk = some w ∧ w.group ≤ n / 8 ∧ n / 8 < walkGroupsAll ∧ w.held = false ∧ w.clearSig = false ∧ w.clearAttr = false ∧ keysRise s.ss.dirty = true ∧ keysRise s.ss.attr = true ∧ dirtyOf s n = true)
      { gale with ss := { walk := some ⟨9, 0, false, false, false, 0⟩, stag := [(9, 0x40005)], dirty := [(9, true)] } } ⟨9, 0, false, false, false, 0⟩ 9 ∧
    (fun (s : State) (w : Walk) (n : Nat) => s.ss.walk = some w ∧ w.group ≤ n / 8 ∧ n / 8 < walkGroupsAll)
      { gale with ss := { walk := some ⟨9, 0, false, true, true, 0⟩, stag := [(9, 0x40005)], dirty := [(9, true)], attr := [(9, 3)] } } ⟨9, 0, false, true, true, 0⟩ 9 := by
  repeat' apply And.intro
  all_goals first | decide +kernel | rfl

/-- The hypotheses of CurrentEntriesOfACommit are met. -/
theorem witness_CurrentEntriesOfACommit :
    (fun (s : State) (p : Nat × Nat) => p ∈ stagedPairs)
      (withRegs gale [(planeKey 0 0 1, 7), (planeKey 0 1 1, 3)]) (planeKey 0 0 1, planeKey 0 1 1) := by
  all_goals decide +kernel

/-- The hypotheses of ModeChange are met. -/
theorem witness_ModeChange :
    (fun (s : State) (w : Writer) (v : Word) (d : DictRow) => StoreReaches s w 8904 3 v d ∧ d.acc = Access.rw ∧ engineOn s 11 = true ∧ bitAt (BitVec.toNat v) 31 = true)
      (shown id) (.proc 8) 0x80000080#32 (row 0x22C8 3) ∧
    (fun (s : State) (m n : Nat) => s.raster.running = true ∧ s.raster.change = some { modes := m, phase := ModePhase.blanking n } ∧ 2 ≤ n ∧ (modeAt s - s.tb.ns) * frameNsDen (compMode s) ≤ frameNsNum (compMode s) ∧ s.raster.held = [])
      (shown (fun r => { r with change := some ⟨0x80, .blanking 2⟩, inWindow := true })) 0x80 2 ∧
    (fun (s : State) (m : Nat) => engineOn s 11 = true ∧ s.raster.change = some { modes := m, phase := ModePhase.stopped } ∧ modeAt s ≤ s.tb.ns)
      { gale with raster := { change := some ⟨0x80, .stopped⟩, queued := some 0x84 } } 0x80 := by
  repeat' apply And.intro
  all_goals first | decide +kernel | rfl | (constructor <;> decide +kernel)

end Sys2Proof.Tests.WRas

/-! ### Witnesses for lines and rendering -/

namespace Sys2Proof.Tests.WLin
open Sys2Proof.Machine Sys2Proof.Claims

/-- A state or operand of the witnesses below. -/
def ld (s : State) : State := withVsram s 0 [1#8,2#8,3#8,4#8,5#8,6#8,7#8,8#8,9#8,10#8,11#8,12#8,13#8,14#8,15#8,16#8]
/-- A state or operand of the witnesses below. -/
def lineC : CompLine := ⟨0, 0x876543210, [255, 255, 0, 0, 0, 0, 0, 0]⟩
/-- A state or operand of the witnesses below. -/
def colC : List (Option Px) := [some ⟨1, 2, 3, 7, 3⟩, some ⟨4, 5, 6, 255, 3⟩]

/-- The hypotheses of PlaneLatchAndFetch are met. -/
theorem witness_PlaneLatchAndFetch :
    (fun (s : State) (y : Nat) (n : Fin 8) => engineOn s 11 = true ∧ s.raster.running = true ∧ y < compH s)
      { withRegs (shown id) [(planeKey 7 1 1, 1), (planeKey 7 1 0x11, 1079)] with raster := (shown id).raster } 1079 7 ∧
    (fun (s : State) (n : Fin 8) (y : Nat) (b : LineBuf) => fetchRun s n.val = some b ∧ b.line = y ∧ lineBeyond s n.val b = none)
      { shown id with gfx := { planes := [(7, { bufs := [⟨5, false, none, [], (0, 0), []⟩] })] } } 7 5 ⟨5, false, none, [], (0, 0), []⟩ ∧
    (fun (s : State) (n : Fin 8) (y granule : Nat) (b : LineBuf) => fetchRun s n.val = some b ∧ b.line = y ∧ bmpExternal b.entries = true ∧ granule < 2 ^ 40)
      { shown id with gfx := { planes := [(7, { bufs := [⟨5, false, none, [(1, 3), (0x0B, 4)], (0, 0), []⟩] })] } } 7 5 0x123456789F ⟨5, false, none, [(1, 3), (0x0B, 4)], (0, 0), []⟩ := by
  repeat' apply And.intro
  all_goals first | decide +kernel | rfl

/-- The hypotheses of ActiveLineMerges are met. -/
theorem witness_ActiveLineMerges :
    (fun (s : State) (y : Nat) (written : List (Fin 8 × Nat)) (late : Bool) (shadow : List Nat) (full : Option Nat) => engineOn s 11 = true ∧ s.raster.running = true ∧ y < compH s)
      (shown id) 1079 [] false [] none ∧
    (fun (c : CompLine) (col : List (Option Px)) (below : List Layer) (top : Layer) => sortLayers (layersOf c col) = below ++ [top] ∧ top.px.alpha = 255 ∧ top.a = 255)
      lineC colC [⟨⟨1, 2, 3, 7, 3⟩, 0, 255⟩] ⟨⟨4, 5, 6, 255, 3⟩, 3, 255⟩ := by
  repeat' apply And.intro
  all_goals first | decide +kernel | rfl

/-- The hypotheses of LoadsArmAndFill are met. -/
theorem witness_LoadsArmAndFill :
    (fun (s : State) (w : Writer) (v : Word) (d : DictRow) (i : Fin 3) => StoreReaches s w (armIdx i) 3 v d ∧ BitVec.toNat v % 2 = 1 ∧ s.raster.inWindow = false ∧ s.raster.held = [])
      (shown id) (.proc 8) 1#32 (row 0x22F0 3) 0 ∧
    (fun (s : State) (l : Load) (i : Nat) => s.gfx.palLoad = some l)
      (ld { gale with gfx := { palLoad := some ⟨0, 0, [(1, 3#8), (8, 7#8)]⟩, pal := [(256, 9)] } }) ⟨0, 0, [(1, 3#8), (8, 7#8)]⟩ 1 ∧
    (fun (s : State) (l : Load) (i : Nat) => s.gfx.ruleLoad = some l)
      (ld { gale with gfx := { ruleLoad := some ⟨0, 0, [(1, 3#8), (8, 7#8)]⟩, rules := [(64, 9)] } }) ⟨0, 0, [(1, 3#8), (8, 7#8)]⟩ 1 ∧
    (fun (s : State) (l : Load) (i : Nat) => s.gfx.sprLoad = some l)
      (ld { gale with gfx := { sprLoad := some ⟨0, 0, [(1, 3#8), (8, 7#8)]⟩, sprAttr := [(8, 9)] } }) ⟨0, 0, [(1, 3#8), (8, 7#8)]⟩ 1 ∧
    (fun (s : State) (n : Nat) => engineOn s 9 = true ∧ s.raster.running = true)
      { withRegs (shown id) [(entryKey 0x2241 1, 1)] with gfx := { sprAttr := [(0, 0xFFF0FFFE), (1, 0x20000000)] } } 0 ∧
    (fun (s : State) (w : Writer) (v : Word) (d : DictRow) (i : Fin 3) => StoreReaches s w (armIdx i) 3 v d ∧ BitVec.toNat v % 2 = 1 ∧ s.raster.inWindow = true)
      (shown (fun r => { r with inWindow := true })) (.proc 8) 1#32 (row 0x22F0 3) 0 := by
  repeat' apply And.intro
  all_goals first | decide +kernel | rfl | (constructor <;> decide +kernel)

end Sys2Proof.Tests.WLin

/-! ### Witnesses for the line sequencer and loads -/

namespace Sys2Proof.Tests.WLs
open Sys2Proof.Machine Sys2Proof.Claims


/-- The hypotheses of ListCommands are met. -/
theorem witness_ListCommands :
    (fun (s : State) (idx sub e late : Nat) (d : DictRow) => ListPlaced s 1 ∧ lsTarget (bits (lsWord s 1) 0 8) = some (idx, sub, e) ∧ engineOn s e = true ∧ dictRow? (idx - 1) sub = some d)
      (listed [0x20000000 + 1079, 0x03, 77, 0xFFFFFFFF] (fun l => { l with last := some 5 })) 0x2501 5 20 0 (row 0x2500 5) ∧
    (fun (s : State) (late : Nat) => ListPlaced s 2)
      (listed [0x40000000, 0, 0, 0] id) 7 ∧
    (fun (s : State) (late : Nat) => ListPlaced s 4)
      (listed [0, 0, 0, 0, 0x80000000 + 1079 + 0x4000, 0, 0, 0] (fun l => { l with pc := 1, execs := 4095 })) 0 ∧
    (fun (s : State) => ListAt s 3 ∧ s.gfx.ls.active = false ∧ bits (lsWord s 1) 0 12 < s.gfx.ls.pc)
      (listed [0, 0, 0, 0, 0x60000000, 0, 8191, 8191] (fun l => { l with pc := 1 })) ∧
    (fun (s : State) => ListAt s 0 ∨ s.gfx.ls.running = true ∧ regN s (entryKey 8833 3) ≤ s.gfx.ls.pc)
      (listed [0, 0, 0, 0] id) := by
  repeat' apply And.intro
  all_goals first | decide +kernel | rfl | (constructor <;> decide +kernel) | (refine ⟨?_, ?_, ?_, ?_⟩ <;> first | decide +kernel | (constructor <;> decide +kernel)) | (refine .inl ?_; constructor <;> decide +kernel)

end Sys2Proof.Tests.WLs

/-! ### Witnesses for the outputs -/

namespace Sys2Proof.Tests.WOut
open Sys2Proof.Machine Sys2Proof.Claims

/-- A state or operand of the witnesses below. -/
def verS : State := { gale with ver := { frame := 9, due := true, runs := [⟨31, 5, 5, none, false, false, false⟩, ⟨5, 5, 6, none, false, false, false⟩, ⟨6, 5, 5, some 3, false, false, false⟩], skipped := [7] } }
/-- A state or operand of the witnesses below. -/
def wbS (w : Nat) : State := let s := withRegs gale [(entryKey 0x23C1 4, 4)]; { s with wb := { reading := some 9, ring := 3 }, mem := { ext := writeBytes (2^40) [] (wbDesc { s with wb := { ring := 3 } } 3) (toBytes 4 0x1000 ++ toBytes 4 0 ++ toBytes 4 120 ++ toBytes 4 w) } }
/-- A state or operand of the witnesses below. -/
def wbB (w b : Nat) : State := let s := wbS w; { s with mem := { ext := writeBytes (2^40) s.mem.ext (wbDesc s 3) (toBytes 4 b) } }
/-- A state or operand of the witnesses below. -/
def hpS : State := withRegs gale [(kModeCur, 0x80)]
/-- A state or operand of the witnesses below. -/
def isoS : State := shown (fun r => { r with lockCfg := [2, 0, 0, 0], lock := .locked })

/-- The hypotheses of FrameVerifiedPublishes are met. -/
theorem witness_FrameVerifiedPublishes :
    (fun (s : State) => engineOn s 12 = true ∧ engineOffline s 12 = false ∧ s.ver.due = true)
      verS := by
  repeat' apply And.intro
  all_goals first | decide +kernel | rfl

/-- The hypotheses of WriteBackDescriptors are met. -/
theorem witness_WriteBackDescriptors :
    (fun (s : State) (f : Nat) => s.wb.run = none ∧ s.wb.reading = some f ∧ extOk s (wbDesc s s.wb.ring) 32 = true ∧ bitAt (extWord s (wbDesc s s.wb.ring + 12)) 0 = false)
      (wbS 0) 9 ∧
    (fun (s : State) (f : Nat) => s.wb.run = none ∧ s.wb.reading = some f ∧ extOk s (wbDesc s s.wb.ring) 32 = true ∧ bitAt (extWord s (wbDesc s s.wb.ring + 12)) 0 = true ∧ wbBadDesc s (wbDesc s s.wb.ring) = false)
      (wbS 1) 9 ∧
    (fun (s : State) (f : Nat) => s.wb.run = none ∧ s.wb.reading = some f ∧ extOk s (wbDesc s s.wb.ring) 32 = true ∧ bitAt (extWord s (wbDesc s s.wb.ring + 12)) 0 = true ∧ wbBadDesc s (wbDesc s s.wb.ring) = true)
      (wbB 1 0x1004) 9 ∧
    (fun (s : State) (run : WbRun) => s.wb.run = some run ∧ extOk s run.desc 32 = true ∧ run.desc + 32 ≤ 2 ^ 40)
      { wbS 1 with wb := { ring := 3, run := some ⟨9, 5, wbDesc (wbS 1) 3, 0x1000, 120, 0, 0⟩ } } ⟨9, 5, wbDesc (wbS 1) 3, 0x1000, 120, 0, 0⟩ ∧
    (fun (s : State) (f a : Nat) => s.wb.run = none ∧ s.wb.reading = some f ∧ a < 2 ^ 40)
      (wbS 1) 9 0xFFFFFFFFFF ∧
    (fun (s : State) (run : WbRun) (a : Nat) => s.wb.run = some run ∧ a < 2 ^ 40)
      { wbS 1 with wb := { ring := 3, run := some ⟨9, 5, wbDesc (wbS 1) 3, 0x1000, 120, 0, 0⟩ } } ⟨9, 5, wbDesc (wbS 1) 3, 0x1000, 120, 0, 0⟩ 0xFFFFFFFFFF := by
  repeat' apply And.intro
  all_goals first | decide +kernel | rfl

/-- The hypotheses of HeadPLink are met. -/
theorem witness_HeadPLink :
    (fun (s : State) (lanes rate : Nat) (edid : List Byte) => engineOn s 13 = true ∧ headPOn s = true)
      hpS 4 3 [1#8] ∧
    (fun (s : State) (lanes rate : Nat) (edid : List Byte) => engineOn s 13 = true ∧ headPOn s = false)
      gale 1 0 [1#8] ∧
    (fun (s : State) => engineOn s 13 = true)
      { hpS with hp := { hpd := true, video := true } } ∧
    (fun (s : State) (lockLost : Bool) => engineOn s 13 = true)
      { hpS with hp := { hpd := true, video := true } } true ∧
    (fun (s : State) (w : Writer) (v : Word) (d : DictRow) => StoreReaches s w 9024 4 v d ∧ BitVec.toNat v % 2 = 1)
      { hpS with hp := { hpd := true, video := true } } (.proc 8) 1#32 (row 0x2340 4) ∧
    (fun (s : State) (c : Nat × Nat) (ok : Bool) (cause micros : Nat) => s.hp.training = some c)
      { hpS with hp := { hpd := true, training := some (4, 3) } } (4, 3) true 0 5 := by
  repeat' apply And.intro
  all_goals first | decide +kernel | rfl | (constructor <;> decide +kernel)

/-- The hypotheses of AuxAndIsobar are met. -/
theorem witness_AuxAndIsobar :
    (fun (s : State) (w : Writer) (store : Bool) (b a : Byte) => engineOn s 13 = true ∧ w ≠ Writer.bellmetal)
      hpS (.proc 8) true 3#8 4#8 ∧
    (fun (s : State) (frame : BitVec 64) (crc : BitVec 8) (edge : Nat) => engineOn s 11 = true ∧ s.raster.running = true ∧ lockSource s = 2)
      isoS 0xFFFFFFFFFFFFFFFF#64 (BitVec.ofNat 8 (isobarCrc (2 ^ 64 - 1))) 3000000000 ∧
    (fun (s : State) => engineOn s 11 = true ∧ lockSource s = 2 ∧ s.raster.lock ≠ LockState.holdover)
      isoS := by
  repeat' apply And.intro
  all_goals first | decide +kernel | rfl

end Sys2Proof.Tests.WOut

/-! ### Witnesses for DMA -/

namespace Sys2Proof.Tests.WDma
open Sys2Proof.Machine Sys2Proof.Claims

/-- A state or operand of the witnesses below. -/
def d1 : State := extWords (withChan 15 [(chKey 15 7, 1), (chKey 15 9, 0x1000), (chKey 15 0x0C, 0x10000000), (chKey 15 0x0D, 0x80)] { phase := .desc }) 0x1000 [0x2000, 0x4000, 0, 1]
/-- A state or operand of the witnesses below. -/
def w1 : List Nat := [0x2000, 0x4000, 0, 1]
/-- A state or operand of the witnesses below. -/
def d1t : State := setDmaChan d1 15 { dmaChan d1 15 with phase := .data, words := w1, moved := 0, tries := 0, peer := pairN d1 (chKey 15 0x0C) (chKey 15 0x0D) }
/-- A state or operand of the witnesses below. -/
def d3 : State := extWords (withChan 15 [(chKey 15 7, 1)] { phase := .data, words := [0x2000, 0x4800, 0, 1], peer := 0x8010000020, moved := 56 }) 0x2038 [1, 2, 3, 4]
/-- A state or operand of the witnesses below. -/
def dc (w3 st : Nat) : State := withChan 15 [(chKey 15 7, st)] { phase := .data, words := [0x2000, 0x4000, 0xFF, w3], peer := 0x8010000020, moved := 64 }
/-- A state or operand of the witnesses below. -/
def d4 (e : Nat) : State := extWords (withChan 15 [(chKey 15 7, 1), (chKey 15 9, 0x1000)] { phase := .reRead, words := [0x2000, 0x4000, 7, 1] }) 0x1000 [9, 9, 0xFF, 0x1000 + e]
/-- A state or operand of the witnesses below. -/
def d4t (e : Nat) : State := setDmaChan (d4 e) 15 { dmaChan (d4 e) 15 with words := [0x2000, 0x4000, 0xFF, 0x1000 + e] }

/-- The hypotheses of DmaCommands are met. -/
theorem witness_DmaCommands :
    (fun (s : State) (n : Fin 16) (a : BitVec 40) (cop : Bool) => engineOn s 5 = true ∧ chState s n.val ≠ 1)
      gale 15 0xFFFFFFFFF0#40 false ∧
    (fun (s : State) (n : Fin 16) (a : BitVec 40) => engineOn s 5 = true ∧ chState s n.val = 1)
      (withChan 15 [(chKey 15 7, 1)] { phase := .desc }) 15 16#40 ∧
    (fun (s : State) (n : Fin 16) => engineOn s 5 = true ∧ chState s n.val = 1)
      (withChan 15 [(chKey 15 7, 1)] { phase := .desc }) 15 ∧
    (fun (s : State) (n : Fin 16) => engineOn s 5 = true ∧ chState s n.val = 2)
      (withChan 15 [(chKey 15 7, 2)] {}) 15 ∧
    (fun (s : State) (n : Fin 16) => engineOn s 5 = true ∧ chState s n.val = 1 ∧ (dmaChan s n.val).halting = true)
      (withChan 15 [(chKey 15 7, 1)] { phase := .desc, halting := true }) 15 := by
  repeat' apply And.intro
  all_goals first | decide +kernel | rfl

/-- The hypotheses of DmaDescriptors are met. -/
theorem witness_DmaDescriptors :
    (fun (s : State) (n : Fin 16) (b : List Byte) (w : List Nat) (t : State) =>   engineOn s 5 = true ∧     chState s n.val = 1 ∧       (dmaChan s n.val).phase = DmaPhase.desc ∧         (dmaChan s n.val).halting = false ∧           busRead s (chCur s n.val) 16 = some b ∧             w = wordsOf b ∧               t =                 setDmaChan s n.val                   (have __src := dmaChan s n.val;                   { phase := DmaPhase.data, cfg := __src.cfg, peer0 := __src.peer0, peer := pairN s (chKey n.val 12) (chKey n.val 13), words := w, halting := __src.halting }))
      d1 15 ((busRead d1 0x1000 16).getD []) w1 d1t ∧
    (fun (s : State) (n : Fin 16) (b : List Byte) (t : State) (len : Nat) => engineOn s 5 = true ∧ chState s n.val = 1 ∧ (dmaChan s n.val).phase = DmaPhase.data ∧ (dmaChan s n.val).halting = false ∧ (dmaChan s n.val).moved < descLen s n.val ∧ len = min (64 - (descSrc s n.val + (dmaChan s n.val).moved) % 64) (descLen s n.val - (dmaChan s n.val).moved) ∧ busRead s (descSrc s n.val + (dmaChan s n.val).moved) len = some b ∧ busWrite s (descDst s n.val + (dmaChan s n.val).moved) b = some t)
      d3 15 ((busRead d3 (descSrc d3 15 + 56) 8).getD []) ((busWrite d3 (descDst d3 15 + 56) ((busRead d3 (descSrc d3 15 + 56) 8).getD [])).getD gale) 8 ∧
    (fun (s : State) (n : Fin 16) => engineOn s 5 = true ∧ chState s n.val = 1 ∧ (dmaChan s n.val).phase = DmaPhase.data ∧ descLen s n.val ≤ (dmaChan s n.val).moved)
      (dc 0x1002 1) 15 ∧
    (fun (s : State) (n : Fin 16) (write : Bool) => engineOn s 5 = true ∧ chState s n.val = 1 ∧ ((dmaChan s n.val).phase = DmaPhase.desc ∨ (dmaChan s n.val).phase = DmaPhase.reRead))
      (withRegs d1 [(entryKey 0x2140 1, 2)]) 15 true ∧
    (fun (s : State) (n : Fin 16) (write : Bool) => engineOn s 5 = true ∧ chState s n.val = 1 ∧ (dmaChan s n.val).phase = DmaPhase.data)
      (withRegs d3 [(entryKey 0x2140 1, 0)]) 15 true ∧
    (fun (s : State) (n : Fin 16) (b : List Byte) (t : State) =>   engineOn s 5 = true ∧     chState s n.val = 1 ∧       (dmaChan s n.val).phase = DmaPhase.reRead ∧         (dmaChan s n.val).halting = false ∧           busRead s (chCur s n.val) 16 = some b ∧             t =                 setDmaChan s n.val                   (have __src := dmaChan s n.val;                   { phase := __src.phase, cfg := __src.cfg, peer0 := __src.peer0, peer := __src.peer, words := List.take 2 (dmaChan s n.val).words ++ List.drop 2 (wordsOf b), moved := __src.moved, tries := __src.tries, halting := __src.halting }) ∧               bits (chWord t n.val 2) 8 24 = 0 ∧ bits (chWord t n.val 3) 2 2 = 0)
      (d4 1) 15 ((busRead (d4 1) 0x1000 16).getD []) (d4t 1) := by
  repeat' apply And.intro
  all_goals first | decide +kernel | rfl

end Sys2Proof.Tests.WDma

/-! ### Witnesses for the blitter -/

namespace Sys2Proof.Tests.WBlt
open Sys2Proof.Machine Sys2Proof.Claims

/-- A state or operand of the witnesses below. -/
def bs (b : Blitter) (l : List (Nat × Nat)) : State := { (withRegs gale l) with blt := b }
/-- A state or operand of the witnesses below. -/
def run0 : List (Nat × Nat) := [(kBltStatus, 1), (entryKey 0x2182 3, 0x1000)]
/-- A state or operand of the witnesses below. -/
def cmdW (w0 : Nat) : List Nat := [w0, 0x00010045, 0x4000, 0x02000000, 0x8000, 0x02000000, 0, 0, 0xFF112233, 0xFF, 0, 0, 0, 0, 0, 0]
/-- A state or operand of the witnesses below. -/
def c0 (w0 : Nat) : State := extWords (bs { phase := .command } run0) 0x1000 (cmdW w0)
/-- A state or operand of the witnesses below. -/
def c0t (w0 : Nat) : State := let s := c0 w0; { s with blt := { phase := .reads, words := cmdW w0, wmDone := false } }
/-- A state or operand of the witnesses below. -/
def outB : List (Nat × Byte) := match spanOut (extWords (bs { phase := .reads, words := cmdW 0xF01 } run0) 0x8000 [1,2,3,4,5,6,7,8,9,10,11,12,13,14,15,16,17,18]) with | .ok o => o | _ => []
/-- A state or operand of the witnesses below. -/
def ws (row span : Nat) : State := bs { phase := .writes, words := cmdW 0xF01, out := outB, row := row, span := span } run0
/-- A state or operand of the witnesses below. -/
def px (w0 : Nat) : State := extWords (bs { phase := .reads, words := cmdW w0 } run0) 0x8000 [0x11223344]

/-- The hypotheses of BlitterLists are met. -/
theorem witness_BlitterLists :
    (fun (s : State) (a : BitVec 40) (cop : Bool) => engineOn s 6 = true ∧ bltRuns s = false ∧ a.toNat % 64 = 0)
      gale 0xFFFFFFFFC0#40 false ∧
    (fun (s : State) => engineOn s 6 = true ∧ bltRuns s = true)
      (bs { phase := .command } run0) ∧
    (fun (s : State) (b : List Byte) (w : List Nat) (t : State) => engineOn s 6 = true ∧ s.blt.phase = BltPhase.command ∧ s.blt.abort = false ∧ busRead s (bltAddr s) 64 = some b ∧ w = wordsOf b ∧ t = setBlt s { phase := BltPhase.reads, words := w })
      (c0 0xF01) ((busRead (c0 0xF01) 0x1000 64).getD []) (cmdW 0xF01) (c0t 0xF01) ∧
    (fun (s : State) (out : List (Nat × Byte)) => engineOn s 6 = true ∧ s.blt.phase = BltPhase.reads ∧ spanOut s = Except.ok out)
      (bs { phase := .reads, words := cmdW 0xF01 } run0) (match spanOut (bs { phase := .reads, words := cmdW 0xF01 } run0) with | .ok o => o | _ => []) ∧
    (fun (s t : State) => engineOn s 6 = true ∧ s.blt.phase = BltPhase.writes ∧ writeSpan s s.blt.out = (t, none) ∧ s.blt.abort = false)
      (ws 0 0) (writeSpan (ws 0 0) (ws 0 0).blt.out).1 ∧
    (fun (s : State) (a : BitVec 40) => engineOn s 6 = true ∧ bltRuns s = true)
      (ws 1 1) 0xFFFFFFFFFF#40 ∧
    (fun (s : State) (a : BitVec 40) (cop : Bool) => engineOn s 6 = true ∧ bltRuns s = false ∧ a.toNat % 64 ≠ 0)
      gale 0xFFFFFFFFC1#40 true ∧
    (fun (s : State) => engineOn s 6 = true ∧ s.blt.abort = true ∧ s.blt.phase = BltPhase.command)
      (bs { phase := .command, abort := true } run0) ∧
    (fun (s t : State) => engineOn s 6 = true ∧ s.blt.phase = BltPhase.writes ∧ writeSpan s s.blt.out = (t, none))
      { (ws 1 1) with blt := { (ws 1 1).blt with abort := true } } (writeSpan { (ws 1 1) with blt := { (ws 1 1).blt with abort := true } } (ws 1 1).blt.out).1 := by
  repeat' apply And.intro
  all_goals first | decide +kernel | rfl

/-- The hypotheses of BlitterPixels are met. -/
theorem witness_BlitterPixels :
    (fun (s : State) (x r v : Nat) => readPixel s 4 (bltSrcFmt s) x r = Except.ok v ∧ bltOp s = 1)
      (px 0xF01) 0 0 0x11223344 ∧
    (fun (s : State) (x r v : Nat) => readPixel s 4 (bltSrcFmt s) x r = Except.ok v ∧ bltOp s = 2)
      (px 0xF02) 0 0 0x11223344 ∧
    (fun (s : State) (x r v : Nat) => readPixel s 4 (bltSrcFmt s) x r = Except.ok v ∧ bltOp s = 3 ∧ maskAnd v (bltWord s 9) = maskAnd (bits (bltWord s 8) 0 (fmtBits (bltDstFmt s))) (bltWord s 9))
      { (px 0xF03) with blt := { words := [0xF03, 0x00010045, 0x4000, 0x02000000, 0x8000, 0x02000000, 0, 0, 0x11, 0xFF] }, mem := (extWords gale 0x8000 [0x11223311]).mem } 0 0 0x11223311 ∧
    (fun (s : State) (m sv dv b : Nat) => b < fmtBits (bltDstFmt s))
      (bs { words := [0xF05, 0, 0, 0, 0, 0, 0, 0, 0xF0F0F0F0, 0x0000CAB5] } []) 1 0xCCCCCCCC 0xAAAAAAAA 31 ∧
    (fun (s : State) (v d : Nat) => bitAt (bltWord s 0) 12 = false ∧ bits (bltWord s 9) 0 8 = 255 ∧ bltDstFmt s = 3)
      (bs { words := [0xF04, 0, 0, 0, 0, 0, 0, 0, 0xF0F0F0F0, 0x0000CAFF] } []) 0xFF332211 0xAA332299 := by
  repeat' apply And.intro
  all_goals first | decide +kernel | rfl

end Sys2Proof.Tests.WBlt

/-! ### Witnesses for timers -/

namespace Sys2Proof.Tests.WTim
open Sys2Proof.Machine Sys2Proof.Claims

/-- A state or operand of the witnesses below. -/
def t1 (l : List (Nat × Nat)) : State := withRegs gale l
/-- A state or operand of the witnesses below. -/
def wrapS : State := t1 [(timerKey 39 1, 1), (timerKey 39 2, 50), (timerKey 39 5, 3)]
/-- A state or operand of the witnesses below. -/
def matchS : State := t1 [(timerKey 39 1, 1), (timerKey 39 2, 50), (timerKey 39 12, 50), (timerKey 39 3, 40), (timerKey 39 4, 20), (timerKey 39 5, 3)]
/-- A state or operand of the witnesses below. -/
def lockS : State := t1 [(timerKey 31 1, 0x41), (timerKey 31 12, 5), (timerKey 31 6, 9)]

/-- The hypotheses of TimerEvents are met. -/
theorem witness_TimerEvents :
    (fun (s q : State) (n : Fin 40) => q = tmTake s n.val ∧ tmOn q n.val = true ∧ tmRuns q n.val = true ∧ tmFrozen q n.val = false ∧ (tmLocked q n.val = false ∨ tmCounting q n.val = false))
      wrapS (tmTake wrapS 39) 39 ∧
    (fun (s q : State) (n : Fin 40) (written : Option Word) => q = tmTake s n.val ∧ tmOn q n.val = true ∧ tmRuns q n.val = true ∧ tmFrozen q n.val = false ∧ regN q (timerKey n.val 3) ≤ tmReloadCur q n.val ∧ tmActs q n.val = false ∧ (bitAt (tmCtrl q n.val) 1 = false ∨ bits (tmCtrl q n.val) 11 3 = 0))
      matchS (tmTake matchS 39) 39 none ∧
    (fun (s q : State) (n : Fin 40) => q = tmTake s n.val ∧ tmOn q n.val = true ∧ tmRuns q n.val = true ∧ tmFrozen q n.val = false ∧ n.val < 32 ∧ tmLocked q n.val = true ∧ tmCounting q n.val = false ∧ lockAt q n.val ≤ q.tb.ns)
      lockS (tmTake lockS 31) 31 := by
  repeat' apply And.intro
  all_goals first | decide +kernel | rfl

/-- The hypotheses of TimerGroups are met. -/
theorem witness_TimerGroups :
    (fun (s : State) (w : Writer) (v : Word) (d : DictRow) (at_ : Bool) (n : Nat) => (if at_ = true then 32 ≤ n ∧ n < 40 else n < 32) ∧ StoreReaches s w 8384 (if at_ = true then 4 else 1) v d)
      (t1 [(timerKey 31 6, 9)]) (.proc 8) 0x80000001#32 (row 0x20C0 1) false 31 ∧
    (fun (s : State) (w : Writer) (v : Word) (d : DictRow) (at_ : Bool) (n : Nat) => (if at_ = true then 32 ≤ n ∧ n < 40 else n < 32) ∧ StoreReaches s w 8384 (if at_ = true then 5 else 2) v d)
      (t1 [(timerKey 31 1, 0x41)]) (.proc 8) 0x80000001#32 (row 0x20C0 2) false 31 ∧
    (fun (s : State) (w : Writer) (v : Word) (d : DictRow) (i : Nat) => StoreReaches s w 8384 3 v d ∧ bits (BitVec.toNat v) 0 5 + bits (BitVec.toNat v) 8 6 ≤ 32 ∧ i < bits (BitVec.toNat v) 8 6 ∧ tmLocked s (bits (BitVec.toNat v) 0 5 + i) = false)
      (t1 [(timerKey 31 12, 99)]) (.proc 8) 0x00000400#32 (row 0x20C0 3) 3 := by
  repeat' apply And.intro
  all_goals first | decide +kernel | rfl | (constructor <;> decide +kernel)

/-- The hypotheses of TimerRegisters are met. -/
theorem witness_TimerRegisters :
    (fun (s : State) (w : Writer) (n : Fin 40) (v : Word) (d : DictRow) => d.acc = Access.rw ∧ StoreReaches s w (timerIdx n) 5 v d)
      (t1 []) (.proc 8) 39 5#32 (row 0x20F7 5) ∧
    (fun (s : State) (w : Writer) (n : Fin 40) (v : Word) (d : DictRow) => d.acc = Access.rw ∧ StoreReaches s w (timerIdx n) 2 v d)
      (t1 []) (.proc 8) 39 5#32 (row 0x20F7 2) ∧
    (fun (s : State) (w : Writer) (n : Fin 40) (v : Word) (d : DictRow) => d.acc = Access.rw ∧ StoreReaches s w (timerIdx n) 3 v d)
      (t1 []) (.proc 8) 0 5#32 (row 0x20D0 3) := by
  repeat' apply And.intro
  all_goals first | decide +kernel | rfl | (constructor <;> decide +kernel)

end Sys2Proof.Tests.WTim

/-! ### Witnesses for pins and patterns -/

namespace Sys2Proof.Tests.WPin
open Sys2Proof.Machine Sys2Proof.Claims

/-- A state or operand of the witnesses below. -/
def p1 (l : List (Nat × Nat)) : State := withRegs gale l

/-- The hypotheses of PinsAndPatterns are met. -/
theorem witness_PinsAndPatterns :
    (fun (s : State) (w : Writer) (k : Fin 48) (v : Word) (d : DictRow) (new : Nat) => StoreReaches s w 8449 k.val v d ∧ d.acc = Access.rw ∧ new = maskClear (regN s (muxKey k.val)) (checkWrite s d 8449 k.val (BitVec.toNat v)).mask ||| BitVec.toNat v ∧ (bits (regN s (muxKey k.val)) 0 3 ≠ bits new 0 3 ∨ bits new 0 3 = 0 ∧ bits (regN s (muxKey k.val)) 3 4 ≠ bits new 3 4))
      (p1 [(muxKey 0, 0)]) (.proc 8) 0 1#32 (row 0x2101 0) 1 ∧
    (fun (s : State) (k : Fin 48) (h : PadHold) => mapGet (fun (x : Nat) => none) s.pins.hand k.val = some h)
      { p1 [] with pins := { hand := [(47, some ⟨true, true, 5, []⟩)] } } 47 ⟨true, true, 5, []⟩ ∧
    (fun (s : State) (w : Writer) (k : Fin 48) (v : Word) (d : DictRow) => StoreReaches s w 8450 k.val v d ∧ d.acc = Access.rw)
      (p1 [(muxKey 47, 0x40)]) (.proc 8) 47 0x30#32 (row 0x2102 47) ∧
    (fun (s : State) (u : Fin 4) => domainOn s 8 = true ∧ patOn s u.val = true ∧ patM s u.val = true ∧ flag s (patKey u.val 5) 0 = false)
      (p1 [(patKey 3 1, 0x101)]) 3 ∧
    (fun (s : State) (w : Writer) (v : Word) (d : DictRow) (u : Fin 4) (new : Nat) => StoreReaches s w 8448 3 v d ∧ d.acc = Access.rw ∧ new = maskClear (regN s (entryKey 8448 3)) (checkWrite s d 8448 3 (BitVec.toNat v)).mask ||| BitVec.toNat v)
      (p1 [(entryKey 0x2100 3, 0x8888)]) (.proc 8) 0x7888#32 (row 0x2100 3) 3 0x7888 := by
  repeat' apply And.intro
  all_goals first | decide +kernel | rfl | (constructor <;> decide +kernel)

end Sys2Proof.Tests.WPin

/-! ### Witnesses for audio -/

namespace Sys2Proof.Tests.WAud
open Sys2Proof.Machine Sys2Proof.Claims

/-- A state or operand of the witnesses below. -/
def va (v : Nat) (x : Voice) : State := let s := withRegs gale [(entryKey 0x2404 v, 100), (entryKey 0x2402 v, 0x1000), (entryKey 0x2401 v, 1)]; { s with aud := { voices := [(v, x)] } }
/-- A state or operand of the witnesses below. -/
def vf : State := va 47 { st := 2, cfg := voiceCfg (va 47 {}) 47 }

/-- The hypotheses of VoiceCommands are met. -/
theorem witness_VoiceCommands :
    (fun (s : State) (arg : Word) (v : Nat) => audOn s = true ∧ v = bits (BitVec.toNat arg) 0 6 ∧ v < voiceCount s.variant ∧ voiceCfgOk (voiceCfg s v) = true ∧ (voiceOf s v).st = 0)
      (va 47 {}) 47#32 47 ∧
    (fun (s : State) (arg : Word) (v : Nat) => audOn s = true ∧ v = bits (BitVec.toNat arg) 0 6 ∧ v < voiceCount s.variant ∧ (voiceOf s v).st ≠ 0)
      (va 47 { st := 2 }) 47#32 47 ∧
    (fun (s : State) (arg : Word) (v : Nat) (accepted : BitVec 64) => audOn s = true ∧ v = bits (BitVec.toNat arg) 0 6 ∧ v < voiceCount s.variant ∧ voiceCfgOk (voiceCfg s v) = true ∧ accepted.toNat + 50000 ≤ s.tb.ns ∧ (voiceOf s v).st < 2)
      { va 47 {} with tb := { ns := 60000 } } 47#32 47 10000#64 ∧
    (fun (s : State) (arg : Word) (v : Nat) (accepted : BitVec 64) => audOn s = true ∧ v = bits (BitVec.toNat arg) 0 6 ∧ v < voiceCount s.variant ∧ voiceCfgOk (voiceCfg s v) = true ∧ s.tb.ns < accepted.toNat + 50000 ∧ (voiceOf s v).st < 2)
      (va 47 {}) 47#32 47 0#64 ∧
    (fun (s : State) (arg : Word) (v : Nat) (accepted : BitVec 64) => audOn s = true ∧ v = bits (BitVec.toNat arg) 0 6 ∧ v < voiceCount s.variant ∧ voiceCfgOk (voiceCfg s v) = true ∧ 2 ≤ (voiceOf s v).st)
      (va 47 { st := 2 }) 47#32 47 9#64 ∧
    (fun (s : State) (arg : Word) (v : Nat) => audOn s = true ∧ v = bits (BitVec.toNat arg) 0 6 ∧ v < voiceCount s.variant ∧ bitAt (BitVec.toNat arg) 8 = false)
      (va 47 { st := 1 }) 47#32 47 ∧
    (fun (s : State) (arg : Word) (v : Nat) => audOn s = true ∧ v = bits (BitVec.toNat arg) 0 6 ∧ v < voiceCount s.variant ∧ bitAt (BitVec.toNat arg) 8 = true ∧ (voiceOf s v).st = 2)
      (va 0 { st := 2, loops := 5, i := 7 }) 0x100#32 0 ∧
    (fun (s : State) (arg : Word) (v : Nat) (k : Fin 48) (y : Voice) => audOn s = true ∧ v = bits (BitVec.toNat arg) 0 6 ∧ v < voiceCount s.variant ∧ k.val = v ∧ (voiceOf s v).st ≠ 0 ∧ fetchOne s (voiceOf s v) = Except.ok y)
      vf 47#32 47 47 (match fetchOne vf (voiceOf vf 47) with | .ok y => y | _ => {}) ∧
    (fun (s : State) (arg : Word) (v : Nat) (k : Fin 48) (a : Nat) => audOn s = true ∧ v = bits (BitVec.toNat arg) 0 6 ∧ v < voiceCount s.variant ∧ k.val = v ∧ (voiceOf s v).st ≠ 0 ∧ fetchEnded (fetchWrap (voiceOf s v)) = false ∧ a = fetchAddr (fetchWrap (voiceOf s v)).cfg (fetchWrap (voiceOf s v)).fIdx ∧ a < 2 ^ 40)
      vf 47#32 47 47 0x1000 := by
  repeat' apply And.intro
  all_goals first | decide +kernel | rfl

/-- The hypotheses of AudioCommands are met. -/
theorem witness_AudioCommands :
    (fun (s : State) (arg : Word) (g : Nat) => audOn s = true ∧ g = bits (BitVec.toNat arg) 0 4)
      gale 15#32 15 ∧
    (fun (s : State) (arg : Word) (src : Nat) => audOn s = true ∧ src = bits (BitVec.toNat arg) 0 7 ∧ sourceExists s src = true)
      gale 0xFFFF0000#32 0 ∧
    (fun (s : State) (arg : Word) (src : Nat) => audOn s = true ∧ src = bits (BitVec.toNat arg) 0 7 ∧ sourceExists s src = true ∧ (bits (BitVec.toNat arg) 8 4 < 8 ∨ bits (BitVec.toNat arg) 8 4 = 15))
      gale 0x00000F63#32 99 ∧
    (fun (s : State) (arg : Word) => audOn s = true)
      gale 0xFFFF#32 ∧
    (fun (s : State) (g : Fin 96) => audOn s = true ∧ (gainOf s g.val).since.isSome = true)
      { gale with aud := { gains := [(95, some ⟨3, some 7, 2⟩)] } } 95 := by
  repeat' apply And.intro
  all_goals first | decide +kernel | rfl

/-- The hypotheses of AudioBoundaries are met. -/
theorem witness_AudioBoundaries :
    (fun (s : State) (stamp : BitVec 64) (arg : Word) (code : Byte) => engineOn s 16 = true ∧ audFull s = false)
      gale 62500#64 5#32 1#8 ∧
    (fun (s : State) (k : Nat) => audOn s = true ∧ k = boundaryNumber s)
      { gale with aud := { k := some 4, queue := [⟨some 5, 15, 3, 0⟩, ⟨some 6, 15, 3, 0⟩, ⟨none, 15, 3, 0⟩] } } 5 ∧
    (fun (s : State) (k : Nat) => audOn s = true ∧ engineOn s 7 = true ∧ (s.tb.sync = true ∨ s.tb.gm = true) ∧ s.aud.resync = none ∧ s.aud.k = some k ∧ (k + 1 < dueBoundary s.tb.ns ∨ dueBoundary s.tb.ns + 1 < k))
      { gale with aud := { k := some 4 }, tb := { ns := 1000000, sync := true } } 4 := by
  repeat' apply And.intro
  all_goals first | decide +kernel | rfl

/-- The hypotheses of TdmAndPaging are met. -/
theorem witness_TdmAndPaging :
    (fun (s : State) (n : Fin 2) => audOn s = true ∧ bitAt (tdmCfg s n.val) 0 = true ∧ bitAt (tdmCfg s n.val) 2 = false ∧ (tdmOf s n.val).lost = false)
      (withRegs gale [(entryKey 0x2415 1, 1)]) 1 ∧
    (fun (s : State) (n : Fin 2) (rate : Nat) => audOn s = true ∧ (tdmOf s n.val).lost = true ∧ 8000 ≤ rate ∧ rate ≤ 96000)
      { withRegs gale [(entryKey 0x2415 1, 1)] with aud := { tdm := [(1, { lost := true })] } } 1 96000 ∧
    (fun (s : State) (w : Writer) (n : Fin 2) (v : Word) (d : DictRow) (new : Nat) => StoreReaches s w 9237 n.val v d ∧ d.acc = Access.rw ∧ new = maskClear (tdmCfg s n.val) (checkWrite s d 9237 n.val (BitVec.toNat v)).mask ||| BitVec.toNat v ∧ new ≠ tdmCfg s n.val)
      gale (.proc 8) 1 5#32 (row 0x2415 1) ((maskClear (Machine.tdmCfg gale 1) (checkWrite gale (row 0x2415 1) 0x2415 1 5).mask ||| 5)) ∧
    (fun (s : State) (h : CopHdr) (p : Fin 4) (stream rate time : Nat) (samples : List Nat) => rate ≤ 2 ∧ samples ≠ [] ∧ samples.length ≤ 480 ∧ audOn s = true ∧ flag s (entryKey 9239 p.val) 16 = true ∧ fld s (entryKey 9239 p.val) 0 16 = stream ∧ s.aud.k.getD 0 < dueBoundary (time + regN s (entryKey 9240 p.val) * 62500 / 3) ∧ (pageOf s p.val).buf.length + samples.length ≤ 4096)
      { withRegs gale [(entryKey 0x2417 3, 0x10009)] with aud := { k := some 4 } } spiHdr 3 9 2 10000000 [5, 65535] := by
  repeat' apply And.intro
  all_goals first | decide +kernel | rfl | (constructor <;> decide +kernel)

end Sys2Proof.Tests.WAud

/-! ### Witnesses for the time base and the network -/

namespace Sys2Proof.Tests.WNet
open Sys2Proof.Machine Sys2Proof.Claims

/-- A state or operand of the witnesses below. -/
def netS : State := withRegs gale [(entryKey 0x21C0 1, 3)]
/-- A state or operand of the witnesses below. -/
def fr : List Byte := [0x02#8,1#8,2#8,3#8,4#8,5#8, 0x04#8,9#8,9#8,9#8,9#8,9#8, 8#8, 0#8, 1#8]
/-- A state or operand of the witnesses below. -/
def om : OutMsg := ⟨.port 1, 0, 5, 1, true, 9, none, 0, 0, [0#8,0#8,0#8,0#8]⟩
/-- A state or operand of the witnesses below. -/
def tr (fd : Bool) (next : Nat) (l : Nat): Transfer := ⟨spiHdr, 0x2046, 3, fd, 3000, 0, next, 2, List.replicate l 1#8⟩
/-- A state or operand of the witnesses below. -/
def trS (t : Transfer) : State := { netS with net := { transfers := [t] } }
/-- A state or operand of the witnesses below. -/
def trp : Transfer := { tr true 2000 3000 with hdr := { spiHdr with path := .port 1 } }
/-- A state or operand of the witnesses below. -/
def subS : State := withRegs netS [(entryKey 0x133F 1, 1), (entryKey 0x133F 2, 0x10000 + 0x1000), (entryKey 0x133F 3, 0x7)]
/-- A state or operand of the witnesses below. -/
def sv : Nat := ofBytes (valueBytes (row 0x1000 1).typ (entryValue subS (row 0x1000 1) 0x1000 1))

/-- The hypotheses of FramesAndReplies are met. -/
theorem witness_FramesAndReplies :
    (fun (s : State) (k : Fin 2) (f : List Byte) => engineOn s 7 = true ∧ flag s (entryKey 8640 1) 0 = true ∧ flag s (entryKey 8640 1) 1 = true ∧ 14 ≤ f.length ∧ ofBytesBE (List.take 2 (List.drop 12 f)) ≠ 33024 ∧ bitAt (ofBytes (List.take 1 f)) 0 = false ∧ bitAt (ofBytes (List.take 1 (List.drop 6 f))) 0 = false ∧ (vlanEntry s fun (v : Nat) => bitAt v (12 + k.val)) = none ∧ s.net.macs = [])
      netS 1 fr ∧
    (fun (s : State) (m : List Byte) (rest : List (List Byte)) => domainOn s 24 = true ∧ s.net.spiOut = m :: rest)
      { netS with net := { spiOut := [[1#8, 2#8], [3#8]] } } [1#8, 2#8] [[3#8]] ∧
    (fun (s : State) (m : OutMsg) (rest : List OutMsg) (k : Fin 2) => s.net.replies = m :: rest ∧ seqWaits s = false ∧ (m.reply = false ∨ m.typ ≠ 2 ∨ s.ic.waiting = []) ∧ m.path = CopPath.port k ∧ engineOn s 7 = true)
      { netS with net := { replies := [om, om] } } om [om] 1 ∧
    (fun (s : State) (m : OutMsg) (rest : List OutMsg) => s.net.replies = m :: rest ∧ seqWaits s = false ∧ (m.reply = false ∨ m.typ ≠ 2 ∨ s.ic.waiting = []) ∧ m.path = CopPath.spi ∧ s.net.spiOut.length < 8)
      { netS with net := { replies := [{ om with path := .spi }, om] } } { om with path := .spi } [om] ∧
    (fun (s : State) (m : OutMsg) (rest : List OutMsg) (p : Fin 9) (q : LocalReq) => s.net.replies = m :: rest ∧ seqWaits s = false ∧ (m.reply = false ∨ m.typ ≠ 2 ∨ s.ic.waiting = []) ∧ m.path = CopPath.proc p ∧ openReq s p.val m.tag = some q)
      { netS with net := { replies := [{ om with path := .proc 8 }, om], reqs := [⟨8, 9, 64, 100, false, 2, 0⟩] } } { om with path := .proc 8 } [om] 8 ⟨8, 9, 64, 100, false, 2, 0⟩ := by
  repeat' apply And.intro
  all_goals first | decide +kernel | rfl

/-- The hypotheses of SegmentedTransfers are met. -/
theorem witness_SegmentedTransfers :
    (fun (s : State) (h : CopHdr) (idx sub total crc : Nat) => segStatus (copReceived s h) h idx sub 0 = 0)
      gale { spiHdr with path := .proc 8 } 0x2046 2 100 5 ∧
    (fun (s : State) (h : CopHdr) (idx sub total crc : Nat) (d : DictRow) (b : List Byte) => segStatus (copReceived s h) h idx sub 1 = 0 ∧ dictRow? idx sub = some d ∧ b = if d.acc = Access.wo then [] else entryBytes (copReceived s h) idx sub)
      netS { spiHdr with path := .port 1 } 0x2900 9 0 0 (row 0x2900 9) (entryBytes (copReceived netS { spiHdr with path := .port 1 }) 0x2900 9) ∧
    (fun (s : State) (h : CopHdr) (t : Transfer) (b : List Byte) => s.net.transfers = [t] ∧ sameTransfer t h = true ∧ t.fromDevice = false ∧ isLocal h.path = false ∧ t.next = t.data.length ∧ b ≠ [] ∧ b.length ≤ 1024 ∧ t.data.length + b.length < t.total ∧ t.unacked < 7)
      (trS (tr false 1024 1024)) spiHdr (tr false 1024 1024) (List.replicate 1024 2#8) ∧
    (fun (s : State) (h : CopHdr) (t : Transfer) (b : List Byte) (off : Nat) => s.net.transfers = [t] ∧ sameTransfer t h = true ∧ t.fromDevice = false ∧ isLocal h.path = false ∧ t.next = t.data.length ∧ b ≠ [] ∧ b.length ≤ 1024 ∧ off ≠ t.next)
      (trS (tr false 1024 1024)) spiHdr (tr false 1024 1024) (List.replicate 1024 2#8) 0 ∧
    (fun (s : State) (h : CopHdr) (t : Transfer) (next : Nat) => s.net.transfers = [t] ∧ sameTransfer t h = true ∧ t.fromDevice = true ∧ isLocal h.path = false ∧ t.next ≤ t.total ∧ t.total ≤ next)
      (trS (tr true 2048 3000)) spiHdr (tr true 2048 3000) 3000 ∧
    (fun (s : State) (i : Nat) (t : Transfer) (k : Fin 2) => engineOn s 7 = true ∧ s.net.transfers[i]? = some t ∧ t.fromDevice = true ∧ t.hdr.path = CopPath.port k ∧ t.next < t.total ∧ t.total ≤ t.next + 1024 ∧ seqWaits s = false)
      (trS trp) 0 trp 1 ∧
    (fun (s : State) (i : Nat) (t : Transfer) => s.net.transfers[i]? = some t ∧ isLocal t.hdr.path = false)
      { netS with net := { transfers := [tr true 0 3000, trp] } } 1 trp := by
  repeat' apply And.intro
  all_goals first | decide +kernel | rfl

/-- The hypotheses of EventsAndSaves are met. -/
theorem witness_EventsAndSaves :
    (fun (s : State) (n : Fin 64) (d : DictRow) (v : Nat) => subRuns s n.val false = true ∧ reachStatus s (subTarget s n.val % 65536) (bits (subTarget s n.val) 16 8) false = 0 ∧ dictRow? (subTarget s n.val % 65536) (bits (subTarget s n.val) 16 8) = some d ∧ isBytes d.typ = false ∧ v = ofBytes (valueBytes d.typ (entryValue s d (subTarget s n.val % 65536) (bits (subTarget s n.val) 16 8))) ∧ (subOf s n.val).last = some v)
      { subS with net := { subs := [(63, { last := some sv })] } } 63 (row 0x1000 1) sv ∧
    (fun (s : State) (n : Fin 64) (d : DictRow) (v : Nat) => subRuns s n.val false = true ∧ reachStatus s (subTarget s n.val % 65536) (bits (subTarget s n.val) 16 8) false = 0 ∧ dictRow? (subTarget s n.val % 65536) (bits (subTarget s n.val) 16 8) = some d ∧ isBytes d.typ = false ∧ v = ofBytes (valueBytes d.typ (entryValue s d (subTarget s n.val % 65536) (bits (subTarget s n.val) 16 8))) ∧ (subOf s n.val).last ≠ some v ∧ subReady s n.val = true)
      subS 63 (row 0x1000 1) sv ∧
    (fun (s : State) (w : Writer) (v : Word) (d : DictRow) => StoreReaches s w 4608 2 v d ∧ BitVec.toNat v % 2 = 1 ∧ s.net.lop = none)
      gale (.proc 8) 1#32 (row 0x1200 2) ∧
    (fun (s : State) (l : LongOp) (value : Nat) => s.net.lop = some l ∧ l.progress = none)
      { gale with net := { lop := some ⟨6, 1, none, 0, []⟩ } } ⟨6, 1, none, 0, []⟩ 42 ∧
    (fun (s : State) (l : LongOp) (status : Nat) => s.net.lop = some l ∧ l.progress = none ∧ l.op = 6 ∧ l.data = [] ∧ keysRise s.dict = true)
      { withRegs gale [(entryKey 0x1201 2, 77), (planeKey 0 0 2, 9)] with net := { lop := some ⟨6, 1, none, 0, []⟩ } } ⟨6, 1, none, 0, []⟩ 0 := by
  repeat' apply And.intro
  all_goals first | decide +kernel | rfl | (constructor <;> decide +kernel)

end Sys2Proof.Tests.WNet

/-! ### Witnesses for transfers, events and application requests -/

namespace Sys2Proof.Tests.WNet2
open Sys2Proof.Machine Sys2Proof.Claims

/-- A state or operand of the witnesses below. -/
def netS : State := withRegs gale [(entryKey 0x21C0 1, 3)]
/-- A state or operand of the witnesses below. -/
def pollS : State := withRegs netS [(entryKey 0x1200 1, 1), (entryKey 0x1201 1, 1), (entryKey 0x1201 2, 0x00090005), (entryKey 0x1201 4, 0x100)]
/-- A state or operand of the witnesses below. -/
def rawS : State := sramWords netS (rawSlot netS 0x0F 0) [0x80000002, 0x0605]
/-- A state or operand of the witnesses below. -/
def appS : State := withRegs netS [(entryKey 0x1231 0, 0x80000000 + 0xFFF000 + 7 * 2^24), (entryKey 0x1230 7, 0xFF0005)]
/-- A state or operand of the witnesses below. -/
def q0 : AppReq := ⟨spiHdr, 0x3FFF, 3, 1, true, [9#32], 0⟩

/-- The hypotheses of TimeBaseRules are met. -/
theorem witness_TimeBaseRules :
    (fun (s : State) (k : Fin 2) (offset : Int) (hops : Nat) => engineOn s 7 = true ∧ flag s (entryKey 8640 1) k.val = true)
      { netS with tb := { ns := 5000 } } 1 (-999) 300 ∧
    (fun (s : State) (win : Bool) => engineOn s 7 = true ∧ s.tb.gm = false)
      { netS with tb := { ns := 5000, sync := true } } true ∧
    (fun (s : State) (w : Writer) (lo hi : Word) (d e : DictRow) => StoreReaches s w 8640 10 lo d ∧ StoreReaches (setN s (entryKey 8640 10) (BitVec.toNat lo)) w 8640 11 hi e ∧ (s.tb.gm = true ∨ domainOn s 7 = false))
      { netS with tb := { ns := 5000, gm := true, frac := 9 } } (.proc 8) 0xFFFFFFFF#32 5#32 (row 0x21C0 10) (row 0x21C0 11) ∧
    (fun (s : State) => engineOn s 7 = true ∧ s.tb.gm = true ∧ flag s (entryKey 8640 1) 1 = true)
      { netS with tb := { ns := 5000, gm := true, frac := 9 } } ∧
    (fun (s : State) => engineOn s 7 = true)
      { netS with tb := { ns := 5000 } } := by
  repeat' apply And.intro
  all_goals first | decide +kernel | rfl | (constructor <;> decide +kernel)

/-- The hypotheses of PollingAndRawRings are met. -/
theorem witness_PollingAndRawRings :
    (fun (s : State) => polls s = true ∧ seqWaits s = false)
      pollS ∧
    (fun (s : State) (d status value : Nat) => polls s = true ∧ fld s (entryKey 4609 2) 0 12 ≤ d ∧ d ≤ fld s (entryKey 4609 2) 16 12)
      pollS 9 0 0x12345678 ∧
    (fun (s : State) (f : List Byte) (a : Nat) => engineOn s 7 = true ∧ f.length ≤ 1518 ∧ a = rawSlot s 14 (s.net.rawRx % rawSlots s 14) ∧ bitAt (sramWord s a) 31 = false)
      netS [1#8, 2#8] (rawSlot netS 0x0E (netS.net.rawRx % rawSlots netS 0x0E)) ∧
    (fun (s : State) (a : Nat) => engineOn s 7 = true ∧ a = rawSlot s 15 (s.net.rawTx % rawSlots s 15) ∧ bitAt (sramWord s a) 31 = true)
      rawS (rawSlot netS 0x0F 0) ∧
    (fun (s : State) (k : Fin 2) (up : Bool) (speed : Nat) => engineOn s 7 = true)
      netS 1 true 2 ∧
    (fun (s : State) (k : Fin 2) => engineOn s 7 = true ∧ flag s (entryKey 8640 13) k.val = true)
      { withRegs netS [(entryKey 0x21C0 0x0D, 0x3F3F03)] with net := { gate := [(1, 63)] } } 1 := by
  repeat' apply And.intro
  all_goals first | decide +kernel | rfl

/-- The hypotheses of ApplicationRequests are met. -/
theorem witness_ApplicationRequests :
    (fun (s : State) (q : AppReq) (p : Nat) => appHandler s q.idx = some p ∧ appServes s p = true ∧ selfRequest q p = false ∧ q.values.length ≤ 64 ∧ (appOf s p).cur = none)
      appS q0 7 ∧
    (fun (s : State) (q : AppReq) (p : Nat) (c : AppReq) => appHandler s q.idx = some p ∧ appServes s p = true ∧ selfRequest q p = false ∧ q.values.length ≤ 64 ∧ (appOf s p).cur = some c ∧ (appOf s p).queue.length < 8)
      { appS with net := { apps := [(7, { cur := some q0, queue := [q0] })] } } q0 7 q0 ∧
    (fun (s : State) (p : Fin 9) (q : AppReq) (d : DictRow) => (appOf s p.val).cur = some q ∧ (appOf s p.val).queue = [] ∧ q.hdr.replyReq = true ∧ StoreReaches s (Writer.proc p) 4658 p.val (BitVec.ofNat 32 1) d)
      { sramWords appS 64 [0, 13] with net := { apps := [(7, { cur := some { q0 with record := 64 } })] } } 7 { q0 with record := 64 } (row 0x1232 7) ∧
    (fun (s : State) (p : Fin 9) (q : AppReq) (d : DictRow) => (appOf s p.val).cur = some q ∧ (appOf s p.val).queue = [] ∧ q.hdr.replyReq = true)
      { appS with net := { apps := [(7, { cur := some q0 })] } } 7 q0 (row 0x1232 7) := by
  repeat' apply And.intro
  all_goals first | decide +kernel | rfl | (constructor <;> decide +kernel)

end Sys2Proof.Tests.WNet2

/-! ### Witnesses for the sealed partition: starts and sessions -/

namespace Sys2Proof.Tests.WBm
open Sys2Proof.Machine Sys2Proof.Claims

/-- A state or operand of the witnesses below. -/
def bmS (b : Bellmetal) : State := { withRegs gale [] with bm := b }
/-- A state or operand of the witnesses below. -/
def bmR (f : Bellmetal → Bellmetal) : State := bmS (f { state := bmRunning, chans := [(3, {})] })
/-- A state or operand of the witnesses below. -/
def u0 : State := domainUp (domainUp State.reset 4 false) 6 false
/-- A state or operand of the witnesses below. -/
def badCtr : State := bmS { ctl := { ctrA := (1, 1), ctrB := (2, 2) } }
/-- A state or operand of the witnesses below. -/
def sess (w : Bool) : State := bmR (fun b => { b with sealClosed := false, sessionType := 1, sessionWritten := w, ctl := { marker := some (1, w), sealGen := 0xFFFFFFFF, ctrA := (5, 0xFFFFFFFA), ctrB := (5, 0xFFFFFFFA) } })

/-- The hypotheses of PartitionStarts are met. -/
theorem witness_PartitionStarts :
    (fun (s u : State) (p : SlotPtr) => (u = if s.bm.state = bmOff then domainUp (domainUp s 4 false) 6 false else s) ∧ domainOn u 4 = true ∧ domainOn u 6 = true ∧ (u.bm.state = bmOff ∨ u.bm.state = bmRestarting) ∧ u.bm.ctl.marker = none ∧ u.bm.ctl.intent = none ∧ u.bm.ctl.tail = u.bm.ctl.head ∧ ctrValid u.bm.ctl.ctrA = true ∧ u.bm.ctl.ctrB = u.bm.ctl.ctrA ∧ u.bm.ctl.ptrA = some p ∧ u.bm.ctl.ptrB = some p)
      State.reset u0 ⟨0, 0⟩ ∧
    (fun (s u : State) (p : SlotPtr) => (u = if s.bm.state = bmOff then domainUp (domainUp s 4 false) 6 false else s) ∧ domainOn u 4 = true ∧ domainOn u 6 = true ∧ (u.bm.state = bmOff ∨ u.bm.state = bmRestarting) ∧ u.bm.ctl.marker = none ∧ u.bm.ctl.intent = none ∧ u.bm.ctl.tail = u.bm.ctl.head ∧ ctrValid u.bm.ctl.ctrA = false ∧ ctrValid u.bm.ctl.ctrB = false)
      badCtr (domainUp (domainUp badCtr 4 false) 6 false) ⟨0, 0⟩ ∧
    (fun (s : State) => s.bm.state = bmBooting ∧ s.bm.bootFail = 0 ∧ imgVerify s (activeSlot s) ≠ 0 ∧ auditFree s ≠ 0)
      (bmS { state := bmBooting }) ∧
    (fun (s : State) => legalRuns s = true)
      (bmR id) ∧
    (fun (s : State) (v : Word) => legalRuns s = true)
      (bmR id) 0xFFF#32 ∧
    (fun (s : State) => legalRuns s = true ∧ s.bm.watchdog ≠ 0)
      (bmR (fun b => { b with watchdog := 3 })) ∧
    (fun (s : State) => legalRuns s = true ∧ s.bm.watchdog ≠ 0 ∧ auditFree s ≠ 0)
      (bmR (fun b => { b with watchdog := 3, wdHalf := true })) ∧
    (fun (s : State) => domainOn s 4 = true)
      (bmR id) := by
  repeat' apply And.intro
  all_goals first | decide +kernel | rfl

/-- The hypotheses of PartitionSessions are met. -/
theorem witness_PartitionSessions :
    (fun (s : State) (typ : Nat) => legalRuns s = true ∧ (typ = 1 ∨ typ = 2))
      (bmR (fun b => { b with sealClosed := true })) 1 ∧
    (fun (s : State) (typ : Nat) (written : Bool) => legalRuns s = true ∧ s.bm.sessionType ≠ 0 ∧ s.bm.ctl.marker = some (typ, written) ∧ auditFree s ≠ 0 ∧ eventCounter s < 4294967295)
      (sess true) 1 true ∧
    (fun (s : State) (closed : Bool) => domainOn s 4 = true ∧ s.bm.sealClosed ≠ closed)
      (sess true) true := by
  repeat' apply And.intro
  all_goals first | decide +kernel | rfl

end Sys2Proof.Tests.WBm

/-! ### Witnesses for the sealed partition -/

namespace Sys2Proof.Tests.WBm2
open Sys2Proof.Machine Sys2Proof.Claims

/-- A state or operand of the witnesses below. -/
def bmS (b : Bellmetal) : State := { withRegs gale [] with bm := b }
/-- A state or operand of the witnesses below. -/
def bmR (f : Bellmetal → Bellmetal) : State := bmS (f { state := bmRunning, chans := [(3, {})] })
/-- A state or operand of the witnesses below. -/
def im0 (s : State) : State := imaged s 0
/-- A state or operand of the witnesses below. -/
def valid (b : Bellmetal) : Bellmetal := { b with sealClosed := true, ctl := { sealGen := 0xFFFFFFFF, head := 9, tail := 4, ctrA := (5, 0xFFFFFFFA), ctrB := (5, 0xFFFFFFFA), ptrA := some ⟨0, 1⟩, ptrB := some ⟨0, 1⟩ } }
/-- A state or operand of the witnesses below. -/
def inten (b : Bellmetal) : Bellmetal := { valid b with lop := 2, ctl := { (valid b).ctl with intent := some (1, 0x1234) } }
/-- A state or operand of the witnesses below. -/
def brk (b : Bellmetal) : Bellmetal := { valid b with lop := 1, ctl := { (valid b).ctl with broken := true } }
/-- A state or operand of the witnesses below. -/
def prm (s : State) : State := let b := (toBytes 4 5 ++ toBytes 4 30 ++ toBytes 4 3 ++ List.replicate 48 0#8); { s with bm := { s.bm with mram := writeBytes (2 ^ 20) s.bm.mram 0xB0000 (b ++ toBytes 4 (crc32 b)) } }
/-- A state or operand of the witnesses below. -/
def lh : CopHdr := ⟨.spi, 5, 0, 0, 77, none, true, false⟩
/-- A state or operand of the witnesses below. -/
def chS (f : LoadChan → LoadChan) : State := bmS { state := bmRunning, chans := [(3, f { cfg := 0x8010F })] }
/-- A state or operand of the witnesses below. -/
def fr (t : Nat) : SerFrame := ⟨t, 0x7E, [0x7D#8, 0x7E#8, 3#8]⟩
/-- A state or operand of the witnesses below. -/
def body (f : SerFrame) : List Sys2Proof.Byte := [BitVec.ofNat 8 f.typ, BitVec.ofNat 8 f.seq, BitVec.ofNat 8 f.payload.length] ++ f.payload
/-- A state or operand of the witnesses below. -/
def rawFr (f : SerFrame) : List Sys2Proof.Byte := (body f ++ toBytesBE 2 (crc16 (body f))).flatMap (fun b => if b == 0x7E#8 then [0x7D#8, 0x5E#8] else if b == 0x7D#8 then [0x7D#8, 0x5D#8] else [b])
/-- A state or operand of the witnesses below. -/
def rqS (f : SerFrame) : State := bmR (fun b => { valid b with hwFrames := true, swId := List.replicate 16 0x41#8, ser := { requests := [f, fr 0xF7] } })
/-- A state or operand of the witnesses below. -/
abbrev Pof (s : State) (f : SerFrame) (answer : List Sys2Proof.Byte) : State → Prop := fun r => r.bm = { s.bm with ser := { s.bm.ser with requests := [fr 0xF7], line := some (false, serWire ⟨f.typ, f.seq, answer⟩) } } ∧
      SameBut [.bellmetal] s r
/-- A state or operand of the witnesses below. -/
def a0 (s : State) : List Sys2Proof.Byte := s.bm.swId ++ toBytes 4 s.bm.checksum ++ toBytes 4 (eventCounter s) ++ toBytes 1 s.bm.state ++
      toBytes 1 (if s.bm.ctl.broken then 1 else 0)
/-- A state or operand of the witnesses below. -/
def f1 : SerFrame := ⟨0xF1, 5, toBytes 4 6⟩
/-- A state or operand of the witnesses below. -/
def a1 : List Sys2Proof.Byte := mramBytes (rqS f1) (recordAt 6) 64
/-- A state or operand of the witnesses below. -/
def a2 : List Sys2Proof.Byte := toBytes 4 4 ++ toBytes 4 9

/-- The hypotheses of PartitionStarts are met. -/
theorem witness_PartitionStarts :
    (fun (s : State) => s.bm.state = bmBooting ∧ s.bm.bootFail = 0 ∧ imgVerify s (activeSlot s) = 0)
      (im0 (bmS { state := bmBooting })) := by
  repeat' apply And.intro
  all_goals first | (with_reducible refine imgVerify_of _ _ ?_); decide +kernel | decide +kernel | rfl

/-- The hypotheses of LegalCommitAndAudit are met. -/
theorem witness_LegalCommitAndAudit :
    (fun (s : State) => legalRuns s = true ∧ sessionBar s = 0 ∧ s.bm.lop = 0)
      (bmR valid) ∧
    (fun (s : State) (slot oldSum : Nat) => legalRuns s = true ∧ s.bm.ctl.intent = some (slot, oldSum) ∧ commitPending s = false ∧ auditFree s ≠ 0 ∧ eventCounter s < 4294967295 ∧ imgVerify s slot = 0)
      (imaged (bmR inten) 1) 1 0x1234 ∧
    (fun (s : State) (slot oldSum : Nat) => legalRuns s = true ∧ s.bm.ctl.intent = some (slot, oldSum) ∧ commitPending s = false ∧ auditFree s ≠ 0 ∧ eventCounter s < 4294967295 ∧ imgVerify s slot ≠ 0)
      (bmR inten) 1 0x1234 ∧
    (fun (s : State) => legalRuns s = true ∧ s.bm.sealClosed = true ∧ s.bm.lop = 0)
      (bmR valid) ∧
    (fun (s : State) => legalRuns s = true ∧ s.bm.lop = 1)
      (prm (imaged (bmR brk) 0)) ∧
    (fun (s : State) (seq : Word) => legalRuns s = true ∧ s.bm.lop = 0)
      (bmR valid) 6#32 ∧
    (fun (s : State) => legalRuns s = true ∧ s.bm.lop = 4)
      (bmR (fun b => { valid b with lop := 4, lopArg := 6 })) := by
  repeat' apply And.intro
  all_goals first | (with_reducible refine imgVerify_of _ _ ?_); decide +kernel | decide +kernel | rfl

/-- The hypotheses of PartitionDisplayAndMessages are met. -/
theorem witness_PartitionDisplayAndMessages :
    (fun (s : State) (v : Word) => legalRuns s = true ∧ s.bm.bankChecking = none)
      (bmR valid) 3#32 ∧
    (fun (s : State) => legalRuns s = true)
      (bmR valid) ∧
    (fun (s : State) => legalRuns s = true ∧ s.bm.inFull = true)
      (bmR (fun b => { valid b with inFull := true })) ∧
    (fun (s : State) (len : Nat) => legalRuns s = true)
      (bmR valid) 700 ∧
    (fun (s : State) (w : Word) (n : Nat) => legalRuns s = true ∧ engineOn s 8 = true ∧ n = bits s.bm.mirrorSel 0 6 ∧ n < 48)
      (bmR (fun b => { valid b with mirrorSel := 0x0105 })) 0xFFFFFFFF#32 5 ∧
    (fun (s : State) (bank : Nat) => s.bm.bankChecking = some bank)
      (bmR (fun b => { valid b with bankChecking := some 1 })) 1 ∧
    (fun (s : State) => s.bm.idRequest = false)
      (bmR (fun b => { valid b with idShowing := true })) ∧
    (fun (s : State) (temp : Int) => domainOn s 4 = true ∧ engineOn s 8 = true ∧ eventCounter s < 2 ^ 32)
      (bmR valid) (-300) ∧
    (fun (s : State) (h : CopHdr) (m : List Byte) (d : DictRow) => dictRow? 9410 1 = some d ∧ reachStatus (copReceived s h) 9410 1 true = 0 ∧ mayWrite (copReceived s h) d 9410 1 (Writer.cop h.path) (h.key == some 0) = true ∧ entryOffline (copReceived s h) 9410 1 = false ∧ s.bm.state ≠ bmOff ∧ s.bm.inFull = false ∧ 1 ≤ m.length ∧ m.length ≤ 256)
      (bmR valid) lh [1#8, 2#8] (row 0x24C2 1) ∧
    (fun (s : State) (w : Writer) (v : Word) (d : DictRow) => StoreReaches s w 9410 4 v d ∧ BitVec.toNat v % 2 = 1 ∧ s.bm.outValid = true)
      (bmR (fun b => { valid b with outValid := true })) (.proc 8) 1#32 (row 0x24C2 4) := by
  repeat' apply And.intro
  all_goals first | decide +kernel | rfl | (constructor <;> decide +kernel)

/-- The hypotheses of LoadCells are met. -/
theorem witness_LoadCells :
    (fun (s : State) (n : Fin 4) => frontEnd s n.val = true ∧ calBusy s = false)
      (chS id) 3 ∧
    (fun (s : State) (n : Fin 4) => frontEnd s n.val = true ∧ calBusy s = true)
      (chS (fun c => { c with calibrating := true })) 3 ∧
    (fun (s : State) (n : Fin 4) (k : Nat) => frontEnd s n.val = true ∧ calBusy s = false ∧ s.bm.lop = 0 ∧ nextEnabled s 0 = some k)
      (chS id) 3 3 ∧
    (fun (s : State) (n : Fin 4) (v : Word) => frontEnd s n.val = true ∧ bits (BitVec.toNat v) 18 6 = 0 ∧ bitAt (BitVec.toNat v) 30 = false ∧ bits (BitVec.toNat v) 24 6 < 32)
      (chS id) 3 0x1F03FFFF#32 ∧
    (fun (s : State) (n : Fin 4) (ok : Bool) => frontEnd s n.val = true ∧ (chanOf s n.val).calibrating = true ∧ s.bm.lop ≠ 3)
      (chS (fun c => { c with calibrating := true })) 3 false ∧
    (fun (s : State) (n : Fin 4) (dec : Int) (ovr ref sup : Bool) => frontEnd s n.val = true ∧ bitAt (chanOf s n.val).cfg 0 = true ∧ (chanOf s n.val).calibrating = false ∧ bitAt (chanOf s n.val).cfg 9 = false ∧ (chanOf s n.val).fifo.length ≤ 16)
      (chS id) 3 (-70000) true false true ∧
    (fun (s : State) (n : Fin 4) => frontEnd s n.val = true ∧ bitAt (chanOf s n.val).cfg 0 = true ∧ bits (chanOf s n.val).cfg 10 8 ≠ 0 ∧ bits (chanOf s n.val).cfg 10 8 ≤ (chanOf s n.val).since ∧ (chanOf s n.val).calibrating = false)
      (chS (fun c => { c with cfg := 0x80D0F, since := 600 })) 3 ∧
    (fun (s : State) (n : Fin 4) (w : Nat) (ws : List Nat) => frontEnd s n.val = true ∧ (chanOf s n.val).fifo = w :: ws)
      (chS (fun c => { c with fifo := [4, 5] })) 3 4 [5] := by
  repeat' apply And.intro
  all_goals first | decide +kernel | rfl

/-- The hypotheses of SealedSerialPort are met. -/
theorem witness_SealedSerialPort :
    (fun (s : State) (c : List Byte) (f : SerFrame) => s.bm.state ≠ bmOff ∧ 5 ≤ (unescape c).length ∧ ofBytesBE (List.drop ((unescape c).length - 2) (unescape c)) ≠ crc16 (List.take ((unescape c).length - 2) (unescape c)))
      (bmR valid) [1#8,2#8,0#8,4#8,5#8] (fr 1) ∧
    (fun (s : State) (c : List Byte) (f : SerFrame) => s.bm.state ≠ bmOff ∧ 5 ≤ (unescape c).length ∧ unescape c = [BitVec.ofNat 8 f.typ, BitVec.ofNat 8 f.seq, BitVec.ofNat 8 f.payload.length] ++ f.payload ++ toBytesBE 2 (crc16 ([BitVec.ofNat 8 f.typ, BitVec.ofNat 8 f.seq, BitVec.ofNat 8 f.payload.length] ++ f.payload)) ∧ f.typ < 256 ∧ f.seq < 256 ∧ f.payload.length ≤ 248 ∧ 240 ≤ f.typ ∧ s.bm.hwFrames = true)
      (bmR (fun b => { valid b with hwFrames := true })) (rawFr (fr 0xF0)) (fr 0xF0) ∧
    (fun (s : State) (c : List Byte) (f : SerFrame) => s.bm.state ≠ bmOff ∧ 5 ≤ (unescape c).length ∧ unescape c = [BitVec.ofNat 8 f.typ, BitVec.ofNat 8 f.seq, BitVec.ofNat 8 f.payload.length] ++ f.payload ++ toBytesBE 2 (crc16 ([BitVec.ofNat 8 f.typ, BitVec.ofNat 8 f.seq, BitVec.ofNat 8 f.payload.length] ++ f.payload)) ∧ f.typ < 256 ∧ f.seq < 256 ∧ f.payload.length ≤ 248 ∧ f.typ < 240 ∧ legalRuns s = true ∧ rxLevel s.bm.ser + fifoBytes f ≤ 512)
      (bmR (fun b => { valid b with hwFrames := true })) (rawFr (fr 0x10)) (fr 0x10) ∧
    (fun (s : State) (f : SerFrame) (fs : List SerFrame) (answer : List Byte) (P : State → Prop) =>   s.bm.ser.requests = f :: fs ∧     s.bm.ser.line = none ∧       s.bm.ser.replies = [] ∧         (P = fun (r : State) =>             (r.bm =                 have __src := s.bm;                 { state := __src.state, hwFrames := __src.hwFrames, bootFail := __src.bootFail, ctl := __src.ctl, mram := __src.mram, tile := __src.tile, fallback := __src.fallback, sealClosed := __src.sealClosed, swId := __src.swId, checksum := __src.checksum, version := __src.version, sessionType := __src.sessionType, sessionWritten := __src.sessionWritten, sessionResult := __src.sessionResult, payload := __src.payload, lop := __src.lop, lopArg := __src.lopArg, bankActive := __src.bankActive, bankShown := __src.bankShown, bankPending := __src.bankPending, bankChecking := __src.bankChecking, bankRefused := __src.bankRefused, wins := __src.wins, clipped := __src.clipped, err := __src.err, errRelease := __src.errRelease, escalated := __src.escalated, mark := __src.mark, idRequest := __src.idRequest, idShowing := __src.idShowing, idTruncated := __src.idTruncated, grant := __src.grant, watchdog := __src.watchdog, wdHalf := __src.wdHalf, irqEn := __src.irqEn, latched := __src.latched, auditLost := __src.auditLost, mirrorSel := __src.mirrorSel, inFull := __src.inFull, inLen := __src.inLen, inBox := __src.inBox, outValid := __src.outValid, outLen := __src.outLen, outBox := __src.outBox, temp := __src.temp, chans := __src.chans,                   ser :=                     have __src := s.bm.ser;                     { rx := __src.rx, rxRead := __src.rxRead, requests := fs, replies := __src.replies, txBuf := __src.txBuf, txReady := __src.txReady, queued := __src.queued, line := some (false, serWire { typ := f.typ, seq := f.seq, payload := answer }), txDone := __src.txDone, flags := __src.flags, badCrc := __src.badCrc, badLen := __src.badLen, dropped := __src.dropped, hwReplies := __src.hwReplies },                   mirrored := __src.mirrored }) ∧               SameBut [Part.bellmetal] s r) ∧           f.typ = 240 ∧ answer = s.bm.swId ++ toBytes 4 s.bm.checksum ++ toBytes 4 (eventCounter s) ++ toBytes 1 s.bm.state ++ toBytes 1 (if s.bm.ctl.broken = true then 1 else 0))
      (rqS (fr 0xF0)) (fr 0xF0) [fr 0xF7] (a0 (rqS (fr 0xF0))) (Pof (rqS (fr 0xF0)) (fr 0xF0) (a0 (rqS (fr 0xF0)))) ∧
    (fun (s : State) (f : SerFrame) (fs : List SerFrame) (answer : List Byte) (P : State → Prop) =>   s.bm.ser.requests = f :: fs ∧     s.bm.ser.line = none ∧       s.bm.ser.replies = [] ∧         (P = fun (r : State) =>             (r.bm =                 have __src := s.bm;                 { state := __src.state, hwFrames := __src.hwFrames, bootFail := __src.bootFail, ctl := __src.ctl, mram := __src.mram, tile := __src.tile, fallback := __src.fallback, sealClosed := __src.sealClosed, swId := __src.swId, checksum := __src.checksum, version := __src.version, sessionType := __src.sessionType, sessionWritten := __src.sessionWritten, sessionResult := __src.sessionResult, payload := __src.payload, lop := __src.lop, lopArg := __src.lopArg, bankActive := __src.bankActive, bankShown := __src.bankShown, bankPending := __src.bankPending, bankChecking := __src.bankChecking, bankRefused := __src.bankRefused, wins := __src.wins, clipped := __src.clipped, err := __src.err, errRelease := __src.errRelease, escalated := __src.escalated, mark := __src.mark, idRequest := __src.idRequest, idShowing := __src.idShowing, idTruncated := __src.idTruncated, grant := __src.grant, watchdog := __src.watchdog, wdHalf := __src.wdHalf, irqEn := __src.irqEn, latched := __src.latched, auditLost := __src.auditLost, mirrorSel := __src.mirrorSel, inFull := __src.inFull, inLen := __src.inLen, inBox := __src.inBox, outValid := __src.outValid, outLen := __src.outLen, outBox := __src.outBox, temp := __src.temp, chans := __src.chans,                   ser :=                     have __src := s.bm.ser;                     { rx := __src.rx, rxRead := __src.rxRead, requests := fs, replies := __src.replies, txBuf := __src.txBuf, txReady := __src.txReady, queued := __src.queued, line := some (false, serWire { typ := f.typ, seq := f.seq, payload := answer }), txDone := __src.txDone, flags := __src.flags, badCrc := __src.badCrc, badLen := __src.badLen, dropped := __src.dropped, hwReplies := __src.hwReplies },                   mirrored := __src.mirrored }) ∧               SameBut [Part.bellmetal] s r) ∧           f.typ = 241 ∧ f.payload.length = 4 ∧ s.bm.ctl.tail ≤ ofBytes f.payload ∧ ofBytes f.payload < s.bm.ctl.head ∧ answer = mramBytes s (recordAt (ofBytes f.payload)) 64)
      (rqS f1) f1 [fr 0xF7] a1 (Pof (rqS f1) f1 a1) ∧
    (fun (s : State) (f : SerFrame) (fs : List SerFrame) (answer : List Byte) (P : State → Prop) =>   s.bm.ser.requests = f :: fs ∧     s.bm.ser.line = none ∧       s.bm.ser.replies = [] ∧         (P = fun (r : State) =>             (r.bm =                 have __src := s.bm;                 { state := __src.state, hwFrames := __src.hwFrames, bootFail := __src.bootFail, ctl := __src.ctl, mram := __src.mram, tile := __src.tile, fallback := __src.fallback, sealClosed := __src.sealClosed, swId := __src.swId, checksum := __src.checksum, version := __src.version, sessionType := __src.sessionType, sessionWritten := __src.sessionWritten, sessionResult := __src.sessionResult, payload := __src.payload, lop := __src.lop, lopArg := __src.lopArg, bankActive := __src.bankActive, bankShown := __src.bankShown, bankPending := __src.bankPending, bankChecking := __src.bankChecking, bankRefused := __src.bankRefused, wins := __src.wins, clipped := __src.clipped, err := __src.err, errRelease := __src.errRelease, escalated := __src.escalated, mark := __src.mark, idRequest := __src.idRequest, idShowing := __src.idShowing, idTruncated := __src.idTruncated, grant := __src.grant, watchdog := __src.watchdog, wdHalf := __src.wdHalf, irqEn := __src.irqEn, latched := __src.latched, auditLost := __src.auditLost, mirrorSel := __src.mirrorSel, inFull := __src.inFull, inLen := __src.inLen, inBox := __src.inBox, outValid := __src.outValid, outLen := __src.outLen, outBox := __src.outBox, temp := __src.temp, chans := __src.chans,                   ser :=                     have __src := s.bm.ser;                     { rx := __src.rx, rxRead := __src.rxRead, requests := fs, replies := __src.replies, txBuf := __src.txBuf, txReady := __src.txReady, queued := __src.queued, line := some (false, serWire { typ := f.typ, seq := f.seq, payload := answer }), txDone := __src.txDone, flags := __src.flags, badCrc := __src.badCrc, badLen := __src.badLen, dropped := __src.dropped, hwReplies := __src.hwReplies },                   mirrored := __src.mirrored }) ∧               SameBut [Part.bellmetal] s r) ∧           f.typ = 242 ∧ answer = toBytes 4 s.bm.ctl.tail ++ toBytes 4 s.bm.ctl.head)
      (rqS (fr 0xF2)) (fr 0xF2) [fr 0xF7] a2 (Pof (rqS (fr 0xF2)) (fr 0xF2) a2) ∧
    (fun (s : State) (f : SerFrame) (fs : List SerFrame) (answer : List Byte) (P : State → Prop) =>   s.bm.ser.requests = f :: fs ∧     s.bm.ser.line = none ∧       s.bm.ser.replies = [] ∧         (P = fun (r : State) =>             (r.bm =                 have __src := s.bm;                 { state := __src.state, hwFrames := __src.hwFrames, bootFail := __src.bootFail, ctl := __src.ctl, mram := __src.mram, tile := __src.tile, fallback := __src.fallback, sealClosed := __src.sealClosed, swId := __src.swId, checksum := __src.checksum, version := __src.version, sessionType := __src.sessionType, sessionWritten := __src.sessionWritten, sessionResult := __src.sessionResult, payload := __src.payload, lop := __src.lop, lopArg := __src.lopArg, bankActive := __src.bankActive, bankShown := __src.bankShown, bankPending := __src.bankPending, bankChecking := __src.bankChecking, bankRefused := __src.bankRefused, wins := __src.wins, clipped := __src.clipped, err := __src.err, errRelease := __src.errRelease, escalated := __src.escalated, mark := __src.mark, idRequest := __src.idRequest, idShowing := __src.idShowing, idTruncated := __src.idTruncated, grant := __src.grant, watchdog := __src.watchdog, wdHalf := __src.wdHalf, irqEn := __src.irqEn, latched := __src.latched, auditLost := __src.auditLost, mirrorSel := __src.mirrorSel, inFull := __src.inFull, inLen := __src.inLen, inBox := __src.inBox, outValid := __src.outValid, outLen := __src.outLen, outBox := __src.outBox, temp := __src.temp, chans := __src.chans,                   ser :=                     have __src := s.bm.ser;                     { rx := __src.rx, rxRead := __src.rxRead, requests := fs, replies := __src.replies, txBuf := __src.txBuf, txReady := __src.txReady, queued := __src.queued, line := some (false, serWire { typ := f.typ, seq := f.seq, payload := answer }), txDone := __src.txDone, flags := __src.flags, badCrc := __src.badCrc, badLen := __src.badLen, dropped := __src.dropped, hwReplies := __src.hwReplies },                   mirrored := __src.mirrored }) ∧               SameBut [Part.bellmetal] s r) ∧           243 ≤ f.typ ∧ f.typ ≤ 255 ∧ answer = [BitVec.ofNat 8 2])
      (rqS (fr 0xF3)) (fr 0xF3) [fr 0xF7] [2#8] (Pof (rqS (fr 0xF3)) (fr 0xF3) [2#8]) ∧
    (fun (s : State) => legalRuns s = true)
      (bmR (fun b => { valid b with ser := { rx := [fr 1, fr 2], rxRead := 2 } })) ∧
    (fun (s : State) (w : Word) => legalRuns s = true ∧ s.bm.ser.txReady = true ∧ s.bm.ser.txBuf.length < 248)
      (bmR valid) 0x01020304#32 ∧
    (fun (s : State) (v : Word) => legalRuns s = true ∧ s.bm.ser.txReady = true ∧ BitVec.toNat v % 256 < 240 ∧ bits (BitVec.toNat v) 16 8 ≤ 248 ∧ bits (BitVec.toNat v) 16 8 ≤ s.bm.ser.txBuf.length ∧ s.bm.ser.line = none ∧ s.bm.ser.replies = [])
      (bmR (fun b => { valid b with ser := { txBuf := [1#8,2#8,3#8,4#8], txDone := true } })) 0x00030510#32 ∧
    (fun (s : State) (b : List Byte) => s.bm.ser.line = some (true, b) ∧ s.bm.ser.replies = [] ∧ s.bm.ser.queued = none)
      (bmR (fun b => { valid b with ser := { line := some (true, serWire (fr 1)) } })) (serWire (fr 1)) := by
  repeat' apply And.intro
  all_goals first | decide +kernel | rfl

end Sys2Proof.Tests.WBm2

/-! ### Witnesses for power and recovery -/

namespace Sys2Proof.Tests.WPwr
open Sys2Proof.Machine Sys2Proof.Claims

/-- A state or operand of the witnesses below. -/
def pS (f : Power → Power) : State := { gale with pwr := f { trained := true } }
/-- A state or operand of the witnesses below. -/
def R (a b : Nat) : DictRow := row a b
/-- A state or operand of the witnesses below. -/
def brz : State := withRegs { State.reset with pwr := { trained := true } } [(kPwrState, 1), (kDomainOn, 0x80), (entryKey 0x2040 6, 0x7F)]

/-- The hypotheses of StateTransitions are met. -/
theorem witness_StateTransitions :
    (fun (s : State) (w : Writer) (v : Word) (d : DictRow) (target : Nat) => StoreReaches s w 8256 2 v d ∧ d.acc = Access.wo ∧ target = bits (BitVec.toNat v) 0 2 ∧ Settled s ∧ (target ≠ 2 ∨ calmRefused s = false))
      (pS id) (.proc 8) 1#32 (R 0x2040 2) 1 ∧
    (fun (s : State) (w : Writer) (v : Word) (d : DictRow) (target : Nat) => StoreReaches s w 8256 2 v d ∧ d.acc = Access.wo ∧ target = bits (BitVec.toNat v) 0 2 ∧ Settled s ∧ target = 2 ∧ calmRefused s = true)
      { pS id with bm := { state := bmRunning, lop := 2 } } (.proc 8) 2#32 (R 0x2040 2) 2 ∧
    (fun (s : State) (w : Writer) (v : Word) (d : DictRow) (target : Nat) => StoreReaches s w 8256 2 v d ∧ d.acc = Access.wo ∧ target = bits (BitVec.toNat v) 0 2 ∧ s.pwr.trans.isSome = true)
      (pS (fun p => { p with trans := some ⟨1, 0, [], [], false⟩ })) (.proc 8) 2#32 (R 0x2040 2) 2 ∧
    (fun (s : State) (t : Transition) => s.pwr.trans = some t ∧ t.todo = [] ∧ t.abort = false ∧ s.pwr.ladders = [] ∧ (t.target = 1 ∨ t.target = 2))
      (pS (fun p => { p with trans := some ⟨1, 0, [], [], false⟩ })) ⟨1, 0, [], [], false⟩ ∧
    (fun (s : State) (t : Transition) => s.pwr.trans = some t ∧ t.todo = [] ∧ t.abort = false ∧ s.pwr.ladders = [] ∧ t.target = 0 ∧ t.from_ ≠ 0)
      (pS (fun p => { p with trans := some ⟨0, 1, [], [(3)], false⟩ })) ⟨0, 1, [], [3], false⟩ := by
  repeat' apply And.intro
  all_goals first | decide +kernel | rfl | (constructor <;> decide +kernel)

/-- The hypotheses of DomainRequests are met. -/
theorem witness_DomainRequests :
    (fun (s : State) (w : Writer) (v : Word) (d : DictRow) (k : Nat) (on : Bool) => StoreReaches s w 8256 5 v d ∧ d.acc = Access.wo ∧ k = bits (BitVec.toNat v) 0 5 ∧ on = bitAt (BitVec.toNat v) 8 ∧ domainStatus s k on = 0)
      (pS id) (.proc 8) 0x9#32 (R 0x2040 5) 9 false ∧
    (fun (s : State) (w : Writer) (v : Word) (d : DictRow) (k : Nat) (on : Bool) => StoreReaches s w 8256 5 v d ∧ d.acc = Access.wo ∧ k = bits (BitVec.toNat v) 0 5 ∧ on = bitAt (BitVec.toNat v) 8 ∧ domainStatus s k on ≠ 0)
      (pS id) (.proc 8) 0x3#32 (R 0x2040 5) 3 false ∧
    (fun (s : State) (d : Fin 25) (on : Bool) (rest : List (Nat × Bool)) => s.pwr.trans = none ∧ s.pwr.switching = (d.val, on) :: rest ∧ 3 ≤ d.val ∧ switchBroken s d.val on = false ∧ (on = true ∨ offRefused s d.val = false))
      (pS (fun p => { p with switching := [(9, false)] })) 9 false [] ∧
    (fun (s : State) (d : Fin 25) (on : Bool) (rest : List (Nat × Bool)) => s.pwr.trans = none ∧ s.pwr.switching = (d.val, on) :: rest ∧ 3 ≤ d.val ∧ switchBroken s d.val on = true)
      (pS (fun p => { p with switching := [(8, false), (24, true)] })) 8 false [(24, true)] ∧
    (fun (s : State) (d : Fin 25) (on : Bool) (t : Transition) (rest : List (Nat × Bool)) => s.pwr.trans = some t ∧ t.todo = (d.val, on) :: rest ∧ 3 ≤ d.val ∧ (on = true ∨ offRefused s d.val = false))
      (pS (fun p => { p with trans := some ⟨1, 0, [(22, false), (21, false)], [23], false⟩ })) 22 false ⟨1, 0, [(22, false), (21, false)], [23], false⟩ [(21, false)] := by
  repeat' apply And.intro
  all_goals first | decide +kernel | rfl | (constructor <;> decide +kernel)

/-- The hypotheses of WakeAndResume are met. -/
theorem witness_WakeAndResume :
    (fun (s : State) => flag s (entryKey 8256 6) 0 = true ∧ s.pwr.supply = true ∧ s.pwr.refStopped = false ∧ s.pwr.trans = none)
      brz ∧
    (fun (s : State) => s.pwr.resuming = true ∧ s.pwr.training = 0 ∧ s.variant ≠ Variant.yl6430 ∧ s.pwr.ladders = [] ∧ (s.pwr.copyLen = 0 ∨ sha256 (readBytes extSize s.mem.ext s.pwr.copyAt s.pwr.copyLen) = s.pwr.copyDigest))
      (pS (fun p => { p with resuming := true })) := by
  repeat' apply And.intro
  all_goals first | decide +kernel | rfl

/-- The hypotheses of Starts are met. -/
theorem witness_Starts :
    (fun (s : State) (w : Writer) (d : DictRow) => d.acc = Access.wo ∧ Boots s ∧ StoreReaches s w 8256 10 (BitVec.ofNat 32 1) d)
      (withRegs (pS id) [(entryKey 0x2400 2, 5)]) (.proc 8) (R 0x2040 0x0A) ∧
    (fun (s : State) (w : Writer) (d : DictRow) => d.acc = Access.wo ∧ s.variant ≠ Variant.yl6430 ∧ fld s kPwrBoot 0 3 < 2 ∧ s.ss.walk = none ∧ StoreReaches s w 8256 10 (BitVec.ofNat 32 0) d)
      (extWords (sramWords (pS (fun p => { p with trans := some ⟨1, 0, [], [], false⟩ })) 5 [7]) 0 [1,2]) (.proc 8) (R 0x2040 0x0A) ∧
    (fun (s : State) (w : Writer) (d : DictRow) => d.acc = Access.wo ∧ StoreReaches s w 8256 10 (BitVec.ofNat 32 2) d)
      (pS id) (.proc 8) (R 0x2040 0x0A) ∧
    (fun (s : State) (sel : Fin 4) => s.pwr.supply = false ∧ sel.val < 2 ∧ s.variant ≠ Variant.yl6430)
      (pS (fun p => { p with supply := false })) 1 ∧
    (fun (s : State) => s.pwr.refStopped = true ∧ s.pwr.cycling = false ∧ Boots s)
      (pS (fun p => { p with refStopped := true })) := by
  repeat' apply And.intro
  all_goals first | decide +kernel | rfl | (constructor <;> decide +kernel)

/-- The hypotheses of BootAndClocks are met. -/
theorem witness_BootAndClocks :
    (fun (s : State) (w : Writer) (v : Word) (d : DictRow) => StoreReaches s w 8256 9 v d ∧ d.acc = Access.wo ∧ bitAt (BitVec.toNat v) 0 = true)
      (withRegs (pS (fun p => { p with bootWait := true })) [(kPwrBoot, 0xFFF)]) (.proc 8) 1#32 (R 0x2040 9) ∧
    (fun (s : State) => s.pwr.bootWait = true ∧ fld s kPwrState 2 2 ≠ 1 ∧ 2 ≤ fld s kPwrBoot 6 2)
      (withRegs (pS (fun p => { p with bootWait := true })) [(kPwrBoot, 0x80)]) ∧
    (fun (s : State) => s.pwr.bootWait = true ∧ fld s kPwrState 2 2 ≠ 1 ∧ fld s kPwrBoot 6 2 < 2 ∧ Boots s)
      (withRegs (pS (fun p => { p with bootWait := true })) [(kPwrBoot, 0x40)]) ∧
    (fun (s : State) (ok : Bool) (micros : Nat) => s.pwr.training = 3 ∧ engineOn s 18 = true ∧ s.pwr.trained = false)
      (pS (fun p => { p with training := 3, trained := false })) true 55 ∧
    (fun (s : State) => s.pwr.supply = true ∧ s.pwr.refStopped = false)
      (withRegs (pS id) [(kPwrCtrl, 2)]) ∧
    (fun (s : State) => s.pwr.supply = true)
      (withRegs (pS id) [(kPwrFlags, 0xF)]) := by
  repeat' apply And.intro
  all_goals first | decide +kernel | rfl | (constructor <;> decide +kernel)

/-- The hypotheses of RecoveryLadder are met. -/
theorem witness_RecoveryLadder :
    (fun (s : State) (w : Writer) (v : Word) (d : DictRow) => StoreReaches s w 8261 1 v d ∧ d.acc = Access.wo)
      (pS id) (.proc 8) 0x115#32 (R 0x2045 1) ∧
    (fun (s : State) => domainOn s 3 = true)
      (pS id) ∧
    (fun (s : State) (e n : Nat) => e < 37 ∧ (ladderOf s e).last = none ∧ (n = 1 ∨ n = 3 ∨ n = 4))
      (pS id) 5 1 ∧
    (fun (s : State) (e n : Nat) => e < 37 ∧ (ladderOf s e).last = none ∧ n = 2 ∧ e ≠ 1 ∧ engineOn s e = true ∧ s.pwr.trans = none ∧ s.health.test = none)
      (withRegs (pS id) [(entryKey 0x2043 0, 0xFFFFFFFF)]) 0 2 ∧
    (fun (s : State) (e : Fin 37) => engineOffline s e.val = true ∧ s.ver.owed = false)
      (incident (pS id) 7 (.cmd 2)).1 7 := by
  repeat' apply And.intro
  all_goals first | decide +kernel | rfl | (constructor <;> decide +kernel)

end Sys2Proof.Tests.WPwr

/-! ### Witnesses for security and debug -/

namespace Sys2Proof.Tests.WSec
open Sys2Proof.Machine Sys2Proof.Claims

/-- A state or operand of the witnesses below. -/
def sS (f : Sec → Sec) : State := { gale with sec := f {} }
/-- A state or operand of the witnesses below. -/
abbrev R (a b : Nat) : DictRow := row a b
/-- A state or operand of the witnesses below. -/
def fu (n : Nat) : Fuses := { lifecycle := n }
/-- A state or operand of the witnesses below. -/
def val (n : Nat) : List Sys2Proof.Byte := BitVec.ofNat 8 n :: List.replicate 32 0x55#8
/-- A state or operand of the witnesses below. -/
def cw : Writer := .cop (.proc 8)
/-- A state or operand of the witnesses below. -/
def dS (f : Core → Core) : State := { (withCore 2 f) with sec := { dbg := 1 } }
/-- A state or operand of the witnesses below. -/
def hS : State := let s := withCore 2 id; { (setCore s 2 { coreOf s 2 with run := 3 }) with sec := { dbg := 1, halted := [2] } }
/-- A state or operand of the witnesses below. -/
def lS : State := let s := withCore 2 id; { (setCore s 2 { coreOf s 2 with run := 3, lockup := true }) with sec := { dbg := 1, halted := [2] } }
/-- A state or operand of the witnesses below. -/
abbrev PD (s : State) : State → Prop := fun r => r.sec = { s.sec with ir := 8, dr := 2 } ∧ SameBut [.security, .pins, .reports] s r
/-- A state or operand of the witnesses below. -/
def nS : State := { (withCore 2 id) with sec := { dbg := 1, fuses := fu 2 } }
/-- A state or operand of the witnesses below. -/
def rS : State := sS (fun x => { x with dbg := 1, nonce := some 2, response := some ⟨1, rKey, rSig, some 2⟩, fuses := { fu 2 with dbgHash := rHash } })
/-- A state or operand of the witnesses below. -/
def bS : State := sS (fun x => { x with dbg := 1, nonce := some 2, response := some ⟨2, rKey, rSig, none⟩, fuses := { fu 2 with dbgHash := rHash } })
/-- A state or operand of the witnesses below. -/
def calm : State := (withRegs { State.reset with pwr := { trained := true }, sec := { dbg := 2, grant := 0x20, fuses := fu 3 } } [(kPwrState, 2), (kDomainOn, 0), (entryKey 0x2040 6, 0x7F)])

/-- The hypotheses of LifecycleAndFuses are met. -/
theorem witness_LifecycleAndFuses :
    (fun (s : State) (w : Writer) (v : Word) (d : DictRow) => StoreReaches s w 10496 2 v d ∧ d.acc = Access.wo ∧ BitVec.toNat v ≤ s.sec.fuses.lifecycle)
      (sS (fun x => { x with fuses := fu 1 })) (.proc 8) 1#32 (R 0x2900 2) ∧
    (fun (s : State) (w : Writer) (v : Word) (d : DictRow) => StoreReaches s w 10496 2 v d ∧ d.acc = Access.wo ∧ s.sec.fuses.lifecycle < BitVec.toNat v ∧ lcAllowed s (BitVec.toNat v) false = false)
      (sS (fun x => { x with fuses := fu 1 })) (.proc 8) 3#32 (R 0x2900 2) ∧
    (fun (s : State) (w : Writer) (v : Word) (d : DictRow) => StoreReaches s w 10496 2 v d ∧ d.acc = Access.wo ∧ s.sec.fuses.lifecycle < BitVec.toNat v ∧ lcAllowed s (BitVec.toNat v) false = true ∧ s.sec.lcTarget = none)
      (sS (fun x => { x with fuses := fu 0 })) (.proc 8) 1#32 (R 0x2900 2) ∧
    (fun (s : State) (w : Writer) (v : Word) => s.sec.dbg ≠ 0 ∧ s.pwr.supply = true ∧ s.sec.fuses.lifecycle < BitVec.toNat v % 4 ∧ lcAllowed s (BitVec.toNat v % 4) true = true ∧ s.sec.lcTarget = none)
      (sS (fun x => { x with fuses := fu 1, dbg := 2, grant := 0x40 })) (.proc 8) 3#32 ∧
    (fun (s : State) (t : Nat) => s.sec.lcTarget = some t ∧ t ≤ 3 ∧ Boots s)
      (extWords (sS (fun x => { x with fuses := { fu 2 with appHash := List.replicate 32 3#8 }, lcTarget := some 3 })) 0 [1]) 3 ∧
    (fun (s : State) (w : Writer) (value : List Byte) (d : DictRow) (n : Nat) (rb : Option (List Byte)) => writerCop w = true ∧ dictRow? 10496 11 = some d ∧ reachStatus s 10496 11 true = 0 ∧ entryOffline s 10496 11 = false ∧ mayWrite s d 10496 11 w false = true ∧ value.length = 33 ∧ n = BitVec.toNat (value.headD (BitVec.ofNat 8 0)) ∧ n < 4 ∧ 2 ≤ s.sec.fuses.lifecycle)
      (sS (fun x => { x with fuses := fu 2 })) cw (val 2) (R 0x2900 0x0B) 2 none ∧
    (fun (s : State) (w : Writer) (value : List Byte) (d : DictRow) (n : Nat) => writerCop w = true ∧ dictRow? 10496 11 = some d ∧ reachStatus s 10496 11 true = 0 ∧ entryOffline s 10496 11 = false ∧ mayWrite s d 10496 11 w false = true ∧ value.length = 33 ∧ n = BitVec.toNat (value.headD (BitVec.ofNat 8 0)) ∧ n < 4 ∧ s.sec.fuses.lifecycle < 2 ∧ blankFuse (fuseField s n) = true)
      (sS (fun x => { x with fuses := fu 1 })) cw (val 2) (R 0x2900 0x0B) 2 ∧
    (fun (s : State) (w : Writer) (value : List Byte) (d : DictRow) (n : Nat) (b : List Byte) => writerCop w = true ∧ dictRow? 10496 11 = some d ∧ reachStatus s 10496 11 true = 0 ∧ entryOffline s 10496 11 = false ∧ mayWrite s d 10496 11 w false = true ∧ value.length = 33 ∧ n = BitVec.toNat (value.headD (BitVec.ofNat 8 0)) ∧ n < 4 ∧ s.sec.fuses.lifecycle < 2 ∧ blankFuse (fuseField s n) = true ∧ b.length = 32)
      (sS (fun x => { x with fuses := fu 1 })) cw (val 0) (R 0x2900 0x0B) 0 (List.replicate 32 0x45#8) := by
  repeat' apply And.intro
  all_goals first | decide +kernel | rfl | (constructor <;> decide +kernel)

/-- The hypotheses of TapInstructions are met. -/
theorem witness_TapInstructions :
    (fun (s : State) => s.pwr.supply = true)
      (sS (fun x => { x with ir := 3, scan := 0xFFFFFFFFFFFF })) ∧
    (fun (s : State) (v : BitVec 48) => s.pwr.supply = true ∧ capable s 3 = true)
      (sS (fun x => { x with dbg := 1 })) 0x123456789ABC#48 ∧
    (fun (s : State) (v : BitVec 48) => s.pwr.supply = true ∧ capable s 3 = false)
      (sS (fun x => { x with dbg := 1, fuses := fu 2 })) 0x123456789ABC#48 := by
  repeat' apply And.intro
  all_goals first | decide +kernel | rfl

/-- The hypotheses of DebugAccesses are met. -/
theorem witness_DebugAccesses :
    (fun (s : State) (t : Fin 64) (a : Word) => s.pwr.supply = true ∧ t.val < 8 ∧ dapAllowed s t.val = true ∧ coreOn s t.val = true ∧ BitVec.toNat a % 4 = 0 ∧ 65536 ≤ BitVec.toNat a ∧ BitVec.toNat a < 131072)
      (dS id) 2 0x1FFFC#32 ∧
    (fun (s : State) (t : Fin 64) (a w : Word) => s.pwr.supply = true ∧ t.val < 8 ∧ dapAllowed s t.val = true ∧ coreOn s t.val = true ∧ BitVec.toNat a % 4 = 0 ∧ 65536 ≤ BitVec.toNat a ∧ BitVec.toNat a < 131072)
      (dS id) 2 0x1FFFC#32 0xDEADBEEF#32 ∧
    (fun (s : State) (t : Fin 64) => s.pwr.supply = true ∧ t.val < 8 ∧ dapAllowed s t.val = true ∧ coreOn s t.val = true ∧ coreIssues s t.val = true)
      (dS id) 2 ∧
    (fun (s : State) (t : Fin 64) (stp : Bool) => s.pwr.supply = true ∧ t.val < 8 ∧ dapAllowed s t.val = true ∧ coreOn s t.val = true ∧ t.val ∈ s.sec.halted ∧ (coreOf s t.val).lockup = false)
      hS 2 true ∧
    (fun (s : State) (t : Fin 64) (stp : Bool) => s.pwr.supply = true ∧ t.val < 8 ∧ dapAllowed s t.val = true ∧ coreOn s t.val = true ∧ t.val ∈ s.sec.halted ∧ (coreOf s t.val).lockup = true)
      lS 2 false ∧
    (fun (s : State) (t : Fin 64) (P : State → Prop) (a : Word) =>   s.pwr.supply = true ∧     dapAllowed s t.val = false ∧       (P = fun (r : State) =>           (r.sec =               have __src := s.sec;               { fuses := __src.fuses, lcTarget := __src.lcTarget, dbg := __src.dbg, grant := __src.grant, nonce := __src.nonce, failedAt := __src.failedAt, response := __src.response, forced := __src.forced, halted := __src.halted, ir := 8, dr := 2, scan := __src.scan, late := __src.late }) ∧             SameBut [Part.security, Part.pins, Part.reports] s r) ∧         (t.val ≠ 10 ∨ BitVec.toNat a ≠ lifecycleAddr))
      nS 2 (PD nS) 0#32 ∧
    (fun (s : State) (t : Fin 64) (P : State → Prop) (a w : Word) =>   s.pwr.supply = true ∧     dapAllowed s t.val = false ∧       P = fun (r : State) =>         (r.sec =             have __src := s.sec;             { fuses := __src.fuses, lcTarget := __src.lcTarget, dbg := __src.dbg, grant := __src.grant, nonce := __src.nonce, failedAt := __src.failedAt, response := __src.response, forced := __src.forced, halted := __src.halted, ir := 8, dr := 2, scan := __src.scan, late := __src.late }) ∧           SameBut [Part.security, Part.pins, Part.reports] s r)
      nS 2 (PD nS) 0#32 5#32 ∧
    (fun (s : State) (t : Fin 64) (P : State → Prop) =>   s.pwr.supply = true ∧     dapAllowed s t.val = false ∧       P = fun (r : State) =>         (r.sec =             have __src := s.sec;             { fuses := __src.fuses, lcTarget := __src.lcTarget, dbg := __src.dbg, grant := __src.grant, nonce := __src.nonce, failedAt := __src.failedAt, response := __src.response, forced := __src.forced, halted := __src.halted, ir := 8, dr := 2, scan := __src.scan, late := __src.late }) ∧           SameBut [Part.security, Part.pins, Part.reports] s r)
      nS 2 (PD nS) ∧
    (fun (s : State) (t : Fin 64) (P : State → Prop) (stp : Bool) =>   s.pwr.supply = true ∧     dapAllowed s t.val = false ∧       P = fun (r : State) =>         (r.sec =             have __src := s.sec;             { fuses := __src.fuses, lcTarget := __src.lcTarget, dbg := __src.dbg, grant := __src.grant, nonce := __src.nonce, failedAt := __src.failedAt, response := __src.response, forced := __src.forced, halted := __src.halted, ir := 8, dr := 2, scan := __src.scan, late := __src.late }) ∧           SameBut [Part.security, Part.pins, Part.reports] s r)
      nS 2 (PD nS) true := by
  repeat' apply And.intro
  all_goals first | decide +kernel | rfl

/-- The hypotheses of DebugSession are met. -/
theorem witness_DebugSession :
    (fun (s : State) => s.sec.dbg = 0 ∧ s.pwr.supply = true)
      (sS id) ∧
    (fun (s : State) => s.sec.forced = false ∧ s.sec.dbg ≠ 0)
      (sS (fun x => { x with dbg := 2, grant := 3, ir := 3, halted := [5], response := none })) ∧
    (fun (s : State) => s.sec.forced = false)
      (sS (fun x => { x with dbg := 2, grant := 3, ir := 3 })) ∧
    (fun (s : State) => s.sec.dbg ≠ 0 ∧ s.pwr.supply = true ∧ domainOn s 8 = true ∧ challengeHeld s = false)
      (sS (fun x => { x with dbg := 2, grant := 3 })) ∧
    (fun (s : State) => s.sec.dbg ≠ 0 ∧ s.pwr.supply = true ∧ domainOn s 8 = true ∧ challengeHeld s = true)
      (sS (fun x => { x with dbg := 2, grant := 3, failedAt := some 0 })) ∧
    (fun (s : State) (perm : Word) (key sig : List Byte) => s.sec.dbg ≠ 0 ∧ s.pwr.supply = true ∧ domainOn s 8 = true ∧ key.length = 64 ∧ sig.length = 64)
      (sS (fun x => { x with dbg := 1, nonce := some 5 })) 1#32 tKey tSig ∧
    (fun (s : State) (x : DbgResponse) => s.sec.response = some x ∧ domainOn s 8 = true ∧ responseGood s x = true)
      rS ⟨1, rKey, rSig, some 2⟩ ∧
    (fun (s : State) (x : DbgResponse) => s.sec.response = some x ∧ domainOn s 8 = true ∧ responseGood s x = false)
      bS ⟨2, rKey, rSig, none⟩ ∧
    (fun (s : State) => s.pwr.supply = true ∧ capable s 5 = true ∧ flag s (entryKey 8256 6) 5 = true ∧ s.pwr.refStopped = false ∧ s.pwr.trans = none)
      calm ∧
    (fun (s : State) => s.pwr.supply = true ∧ capable s 5 = true ∧ flag s (entryKey 8256 6) 5 = false ∧ s.sec.ir ≠ 3)
      (setN calm (entryKey 0x2040 6) 0x1F) ∧
    (fun (s : State) => s.pwr.supply = true ∧ capable s 5 = false)
      (sS (fun x => { x with dbg := 0, fuses := fu 2 })) := by
  repeat' apply And.intro
  all_goals first | (with_reducible refine responseGood_of _ ?_); decide +kernel | decide +kernel | rfl

end Sys2Proof.Tests.WSec

/-! ### Witnesses for counters and health -/

namespace Sys2Proof.Tests.WHea
open Sys2Proof.Machine Sys2Proof.Claims

/-- A state or operand of the witnesses below. -/
abbrev R (a b : Nat) : DictRow := row a b
/-- A state or operand of the witnesses below. -/
def pf (l : List (Nat × Nat)) : State := withRegs gale ([(entryKey 0x2440 1, 1), (entryKey 0x2440 5, 4), (entryKey 0x2440 0x0A, 0xFFFFFFFF), (entryKey 0x2440 3, 0x10000000), (entryKey 0x2440 4, 0)] ++ l)
/-- A state or operand of the witnesses below. -/
def rc (n : Nat) : State := { (pf [(entryKey 0x2440 1, n)]) with health := { record := some ([7#8, 8#8]) } }
/-- A state or operand of the witnesses below. -/
def rcT (n : Nat) : State := (busWrite (rc n) (perfAddr (rc n)) ([7#8, 8#8])).getD (rc n)
/-- A state or operand of the witnesses below. -/
def tst (n : Nat) : State := { gale with health := { test := some ⟨n, false, 0x1000, 64⟩ }, net := { gale.net with lop := some ⟨5, 1, none, 0, []⟩ }, mem := { vsram := [(3, 5#8)], sram := [(1, 1#8)], ext := [(0x1000, 8#8)], flash := [(5, 5#8)] } }

/-- The hypotheses of PerformanceCounters are met. -/
theorem witness_PerformanceCounters :
    (fun (s : State) (manual : Bool) (w : Writer) (d : DictRow) (c : Instr) => (c = if manual = true then Instr.dumpNow w else Instr.perfCapture) ∧ engineOn s 17 = true ∧ engineOffline s 17 = false ∧ (manual = true → StoreReaches s w 9280 8 (BitVec.ofNat 32 1) d ∧ d.acc = Access.wo) ∧ (manual = false → flag s (entryKey 9280 1) 0 = true) ∧ captureDropped s = false)
      (pf []) false (.proc 8) (R 0x2440 8) .perfCapture ∧
    (fun (s : State) (manual : Bool) (w : Writer) (d : DictRow) (c : Instr) => (c = if manual = true then Instr.dumpNow w else Instr.perfCapture) ∧ engineOn s 17 = true ∧ engineOffline s 17 = false ∧ (manual = true → StoreReaches s w 9280 8 (BitVec.ofNat 32 1) d ∧ d.acc = Access.wo) ∧ (manual = false → flag s (entryKey 9280 1) 0 = true) ∧ captureDropped s = true)
      (pf [(entryKey 0x2440 7, 1)]) false (.proc 8) (R 0x2440 8) .perfCapture ∧
    (fun (s : State) (w : Writer) (d : DictRow) => StoreReaches s w 9280 8 (BitVec.ofNat 32 2) d ∧ d.acc = Access.wo)
      (pf [(entryKey 0x2442 7, 1), (entryKey 0x2443 1, 88)]) (.proc 8) (R 0x2440 8) ∧
    (fun (s t : State) (b : List Byte) => s.health.record = some b ∧ perfRefused s (perfAddr s) = none ∧ busWrite s (perfAddr s) b = some t ∧ 0 < regN s (entryKey 9280 5))
      (rc 1) (rcT 1) ([7#8, 8#8]) := by
  repeat' apply And.intro
  all_goals first | decide +kernel | rfl | (constructor <;> decide +kernel) | (intro h; first | nomatch h | (constructor <;> first | decide +kernel | (constructor <;> decide +kernel)))

/-- The hypotheses of SelfTestAndHealth are met. -/
theorem witness_SelfTestAndHealth :
    (fun (s : State) (w : Writer) (v : Word) (d : DictRow) (target : Nat) => StoreReaches s w 9284 1 v d ∧ d.acc = Access.wo ∧ target = bits (BitVec.toNat v) 0 3 ∧ bitAt (BitVec.toNat v) 3 = false ∧ stResult s target false = 0)
      gale (.proc 8) 1#32 (R 0x2444 1) 1 ∧
    (fun (s : State) (w : Writer) (v : Word) (d : DictRow) (target : Nat) => StoreReaches s w 9284 1 v d ∧ d.acc = Access.wo ∧ target = bits (BitVec.toNat v) 0 3 ∧ stResult s target (bitAt (BitVec.toNat v) 3) ≠ 0)
      { gale with variant := .yl6430 } (.proc 8) 4#32 (R 0x2444 1) 4 ∧
    (fun (s : State) (t : SelfTest) (l : LongOp) (fail : Option (Nat × Nat)) => s.health.test = some t ∧ s.net.lop = some l ∧ l.progress = none ∧ s.pwr.ladders = [])
      (tst 1) ⟨1, false, 0x1000, 64⟩ ⟨5, 1, none, 0, []⟩ none ∧
    (fun (s : State) => domainOn s 8 = true)
      { gale with health := { now := 5, ladderNow := 3 } } ∧
    (fun (s : State) (temp : Int) => domainOn s 8 = true ∧ -2 ^ 15 ≤ temp ∧ temp < 2 ^ 15)
      gale 100 ∧
    (fun (s : State) (w : Writer) (v : Word) (d : DictRow) (target : Nat) => StoreReaches s w 9284 1 v d ∧ d.acc = Access.wo ∧ target = bits (BitVec.toNat v) 0 3 ∧ bitAt (BitVec.toNat v) 3 = true ∧ stResult s target true = 0)
      gale (.proc 8) 9#32 (R 0x2444 1) 1 := by
  repeat' apply And.intro
  all_goals first | decide +kernel | rfl | (constructor <;> decide +kernel)

end Sys2Proof.Tests.WHea
end

section
/-! PROOFS. Bit fields after the writes of bit fields, and maps after runs of writes; then the parts of the obligation FieldAndPixelRules: the merge of an
update (R52, R53), the pixels of the blitter (R341), the entries of a commit (R74) and the bound of dithering (R151 to R153). -/
namespace Sys2Proof.Machine

/-! ### Bit fields -/

theorem bitAt_eq_testBit (v b : Nat) : bitAt v b = v.testBit b := by
  rw [Nat.testBit_eq_decide_div_mod_eq]; rfl

/-- A bit is a field of length 1. -/
theorem bitAt_eq_bits (v b : Nat) : bitAt v b = (bits v b 1 == 1) := rfl

theorem testBit_bits (v lo n i : Nat) : (bits v lo n).testBit i = (decide (i < n) && v.testBit (i + lo)) := by
  simp only [bits, Nat.testBit_mod_two_pow, Nat.testBit_div_two_pow]

theorem bits_lt (v lo n : Nat) : bits v lo n < 2 ^ n := Nat.mod_lt _ (Nat.two_pow_pos n)

/-- A replaced field reads the new bits in its place and the old ones elsewhere. -/
theorem testBit_putBits (v lo n x i : Nat) :
    (putBits v lo n x).testBit i = if i < lo then v.testBit i else if i < lo + n then x.testBit (i - lo) else v.testBit i := by
  have hput : putBits v lo n x = 2 ^ lo * (2 ^ n * (v / 2 ^ (lo + n)) + x % 2 ^ n) + v % 2 ^ lo := by
    rw [putBits, Nat.mul_add, ← Nat.mul_assoc, ← Nat.pow_add, Nat.mul_comm (2 ^ (lo + n)), Nat.mul_comm (2 ^ lo) (x % 2 ^ n)]
  rw [hput, Nat.testBit_two_pow_mul_add _ (Nat.mod_lt _ (Nat.two_pow_pos lo)),
    Nat.testBit_two_pow_mul_add _ (Nat.mod_lt _ (Nat.two_pow_pos n)), Nat.testBit_mod_two_pow, Nat.testBit_mod_two_pow,
    Nat.testBit_div_two_pow]
  by_cases hlow : i < lo
  · simp [hlow]
  by_cases hmid : i < lo + n
  · simp [hlow, hmid, show i - lo < n by omega]
  · simp [hlow, hmid, show ¬ i - lo < n by omega, show i - lo - n + (lo + n) = i by omega]

theorem bits_putBits_same (v lo n x : Nat) : bits (putBits v lo n x) lo n = x % 2 ^ n := by
  refine Nat.eq_of_testBit_eq fun i => ?_
  by_cases hi : i < n
  · rw [testBit_bits, testBit_putBits, if_neg (show ¬ i + lo < lo by omega), if_pos (show i + lo < lo + n by omega), Nat.add_sub_cancel,
      Nat.testBit_mod_two_pow]
  · simp [testBit_bits, hi]

theorem bits_putBits_other {v lo n x lo' n' : Nat} (h : lo' + n' ≤ lo ∨ lo + n ≤ lo') : bits (putBits v lo n x) lo' n' = bits v lo' n' := by
  refine Nat.eq_of_testBit_eq fun i => ?_
  simp only [testBit_bits, testBit_putBits]
  by_cases hi : i < n'
  · rcases h with h | h
    · simp [show i + lo' < lo by omega]
    · simp [show ¬ i + lo' < lo by omega, show ¬ i + lo' < lo + n by omega]
  · simp [hi]

theorem bits_mod_two_pow {v m lo n : Nat} (h : lo + n ≤ m) : bits (v % 2 ^ m) lo n = bits v lo n := by
  refine Nat.eq_of_testBit_eq fun i => ?_
  simp only [testBit_bits, Nat.testBit_mod_two_pow]
  by_cases hi : i < n
  · simp [show i + lo < m by omega]
  · simp [hi]

theorem bits_ite (c : Prop) [Decidable c] (v w lo n : Nat) : bits (if c then v else w) lo n = if c then bits v lo n else bits w lo n :=
  apply_ite (bits · lo n) c v w

theorem bits_of_lt_two_pow {v lo n : Nat} (h : v < 2 ^ lo) : bits v lo n = 0 := by
  rw [bits, Nat.div_eq_of_lt h, Nat.zero_mod]

/-- Bits gathered from position 0 up: a position below `n` holds its own bit. -/
theorem testBit_foldl_range_add_two_pow (f : Nat → Prop) [DecidablePred f] (n : Nat) :
    (List.range n).foldl (fun v b => if f b then v + 2 ^ b else v) 0 < 2 ^ n ∧
    ∀ b < n, ((List.range n).foldl (fun v b => if f b then v + 2 ^ b else v) 0).testBit b = decide (f b) := by
  induction n with
  | zero => simp
  | succ n ih =>
    obtain ⟨hlt, hbit⟩ := ih
    simp only [List.range_succ, List.foldl_append, List.foldl_cons, List.foldl_nil]
    generalize (List.range n).foldl (fun v b => if f b then v + 2 ^ b else v) 0 = w at hlt hbit ⊢
    have htop : w.testBit n = false := Nat.testBit_lt_two_pow hlt
    split
    next hf =>
      refine ⟨by rw [Nat.pow_succ]; omega, fun b hb => ?_⟩
      rw [Nat.add_comm w]
      rcases Nat.lt_succ_iff_lt_or_eq.1 hb with hb | rfl
      · rw [Nat.testBit_two_pow_add_gt hb, hbit b hb]
      · rw [Nat.testBit_two_pow_add_eq, htop]; simp [hf]
    next hf =>
      refine ⟨by rw [Nat.pow_succ]; omega, fun b hb => ?_⟩
      rcases Nat.lt_succ_iff_lt_or_eq.1 hb with hb | rfl
      · exact hbit b hb
      · rw [htop]; simp [hf]

/-! ### The merge of an update (R52, R53) -/

/-- A field of a staging word after an update that selects it by bit `b` of its control word. -/
def pickField (u : Update) (b lo n w : Nat) : Nat := if bitAt u.fields b then putBits w lo n (bits u.word lo n) else w

theorem mergeUpdate_eq_pickField (old : Nat) (u : Update) : mergeUpdate old u =
    pickField u 4 24 1 (pickField u 3 23 1 (pickField u 2 19 4 (pickField u 1 16 3 (pickField u 0 0 16 old)))) % 2 ^ 25 := rfl

theorem bits_pickField_same (u : Update) (b lo n w : Nat) :
    bits (pickField u b lo n w) lo n = if bitAt u.fields b then bits u.word lo n else bits w lo n := by
  unfold pickField
  split
  · rw [bits_putBits_same, Nat.mod_eq_of_lt (bits_lt _ _ _)]
  · rfl

theorem bits_pickField_other {u : Update} {b lo n w lo' n' : Nat} (h : lo' + n' ≤ lo ∨ lo + n ≤ lo') :
    bits (pickField u b lo n w) lo' n' = bits w lo' n' := by
  unfold pickField
  split
  · exact bits_putBits_other h
  · rfl

theorem bits_mergeUpdate_below_age (old : Nat) (u : Update) {lo n : Nat} (h : lo + n ≤ 25) : bits (mergeUpdate old u) lo n =
    bits (pickField u 4 24 1 (pickField u 3 23 1 (pickField u 2 19 4 (pickField u 1 16 3 (pickField u 0 0 16 old))))) lo n := by
  rw [mergeUpdate_eq_pickField, bits_mod_two_pow h]

/-- What each field of a merged word is: one of the five picks touches it, the others pass over it. -/
theorem bits_mergeUpdate (old : Nat) (u : Update) :
    bits (mergeUpdate old u) 0 16 = bits (if bitAt u.fields 0 then u.word else old) 0 16 ∧
    bits (mergeUpdate old u) 16 3 = bits (if bitAt u.fields 1 then u.word else old) 16 3 ∧
    bits (mergeUpdate old u) 19 4 = bits (if bitAt u.fields 2 then u.word else old) 19 4 ∧
    bits (mergeUpdate old u) 23 1 = bits (if bitAt u.fields 3 then u.word else old) 23 1 ∧
    bits (mergeUpdate old u) 24 1 = bits (if bitAt u.fields 4 then u.word else old) 24 1 := by
  simp [bits_mergeUpdate_below_age, bits_pickField_other, bits_pickField_same, bits_ite]

theorem updateMergesSelectedFields : Claims.UpdateMergesSelectedFields := by
  intro old u
  obtain ⟨hvalue, hquality, halarm, hunack, hshelved⟩ := bits_mergeUpdate old u
  refine ⟨hvalue, hquality, halarm, ?_, ?_, ?_⟩
  · simp only [sigUnack, bitAt_eq_bits, hunack]
  · simp only [sigShelved, bitAt_eq_bits, hshelved]
  · exact bits_of_lt_two_pow (Nat.mod_lt _ (by decide))

/-! ### The pixels of the blitter (R341) -/

theorem bltPixel_copy {s : State} {x r v : Nat} (hread : readPixel s 4 (bltSrcFmt s) x r = .ok v) (hop : bltOp s = 1) :
    bltPixel s x r = .ok (some v) := by
  simp [bltPixel, readsSrc, hop, hread, bind, Except.bind]

theorem bltPixel_fill (s : State) (x r : Nat) (hop : bltOp s = 2) :
    bltPixel s x r = .ok (some (bits (bltWord s 8) 0 (fmtBits (bltDstFmt s)))) := by
  simp [bltPixel, readsSrc, hop, bind, Except.bind]

theorem bltPixel_ckey {s : State} {x r v : Nat} (hread : readPixel s 4 (bltSrcFmt s) x r = .ok v) (hop : bltOp s = 3)
    (hkey : maskAnd v (bltWord s 9) = maskAnd (bits (bltWord s 8) 0 (fmtBits (bltDstFmt s))) (bltWord s 9)) : bltPixel s x r = .ok none := by
  simp [bltPixel, readsSrc, hop, hread, hkey, bind, Except.bind]

theorem bitAt_ropPixel {s : State} {b : Nat} (m sv dv : Nat) (hb : b < fmtBits (bltDstFmt s)) :
    bitAt (ropPixel s m sv dv) b = bitAt (bltWord s 9) (8 * m + 4 * bits (bltWord s 8) b 1 + 2 * bits sv b 1 + bits dv b 1) := by
  rw [bitAt_eq_testBit, ropPixel, (testBit_foldl_range_add_two_pow _ _).2 b hb, Bool.decide_eq_true]

/-- With the constant alpha 255 the destination has no part in a blend. -/
theorem blend_opaque (x y : Nat) : (255 * x + (255 - 255) * y + 127) / 255 = x := by omega

theorem ofArgb_8888 (a r g b : Nat) : ofArgb 3 [a, r, g, b] = a * 2 ^ 24 + r * 65536 + g * 256 + b := rfl

/-- The colours of an ARGB8888 pixel are its low 24 bits. -/
theorem bits_bytes (v : Nat) : bits v 16 8 * 65536 + bits v 8 8 * 256 + bits v 0 8 = bits v 0 24 := by
  unfold bits
  omega

theorem blendPixel_opaque {s : State} (v d : Nat) (hconst : bitAt (bltWord s 0) 12 = false) (halpha : bits (bltWord s 9) 0 8 = 255)
    (hfmt : bltDstFmt s = 3) : blendPixel s v d = 255 * 2 ^ 24 + bits v 0 24 := by
  have hblend : blendPixel s v d = ofArgb 3 [255, bits v 16 8, bits v 8 8, bits v 0 8] := by
    simp only [blendPixel, hconst, halpha, hfmt, argb, List.zip_cons_cons, List.map_cons, List.zip_nil_right, List.map_nil, blend_opaque,
      Bool.false_eq_true, if_false, show ¬ (3 = 2) by decide]
  rw [hblend, ofArgb_8888, ← bits_bytes v]
  ac_rfl

theorem blitterPixels : Claims.BlitterPixels :=
  ⟨fun s x r _ hread => ⟨bltPixel_copy hread, bltPixel_fill s x r, bltPixel_ckey hread⟩,
    fun _ m sv dv _ hb => bitAt_ropPixel m sv dv hb, fun _ v d => blendPixel_opaque v d⟩

/-! ### Maps after runs of writes -/

section Writes
variable {α ι : Type} [DecidableEq α] (d : Nat → α) (key : ι → Nat) (val : ι → α)

theorem mapGet_foldl_set_other (l : List ι) (m : SMap α) {k : Nat} (h : ∀ q ∈ l, key q ≠ k) :
    mapGet d (l.foldl (fun m q => mapSet d m (key q) (val q)) m) k = mapGet d m k := by
  induction l generalizing m with
  | nil => rfl
  | cons q l ih =>
    obtain ⟨hq, hl⟩ := List.forall_mem_cons.1 h
    rw [List.foldl_cons, ih _ hl, mapGet_set_other d m _ _ _ hq.symm]

/-- The last write of a key is the one that counts; here all of them agree. -/
theorem mapGet_foldl_set_mem (l : List ι) (m : SMap α) {p : ι} (hp : p ∈ l) (h : ∀ q ∈ l, key q = key p → q = p) :
    mapGet d (l.foldl (fun m q => mapSet d m (key q) (val q)) m) (key p) = val p := by
  induction l generalizing m with
  | nil => cases hp
  | cons x l ih =>
    have hl : ∀ q ∈ l, key q = key p → q = p := fun q hq => h q (List.mem_cons_of_mem x hq)
    rw [List.foldl_cons]
    by_cases hpl : p ∈ l
    · exact ih _ hpl hl
    · have hpx : p = x := (List.mem_cons.1 hp).resolve_right hpl
      have hother : ∀ q ∈ l, key q ≠ key p := fun q hq hkey => hpl (hl q hq hkey ▸ hq)
      rw [mapGet_foldl_set_other d key val l _ hother, ← hpx, mapGet_set_same]

end Writes

/-- A run of register writes is a run of writes of the dictionary's map, and leaves the other fields alone. -/
theorem foldl_regSet {ι : Type} (key : ι → Nat) (val : ι → Word) (l : List ι) (s : State) :
    l.foldl (fun t q => regSet t (key q) (val q)) s =
      { s with dict := l.foldl (fun m q => mapSet dictReset m (key q) (val q)) s.dict } := by
  induction l generalizing s with
  | nil => rfl
  | cons q l ih => rw [List.foldl_cons, ih]; rfl

/-! ### The entries of a commit (R74) -/

theorem mem_stagedPairs {p : Nat × Nat} : p ∈ stagedPairs ↔ ∃ r ∈ stagedRuns, ∃ i < r.2.2, p = (r.1 + i, r.2.1 + i) := by
  simp [stagedPairs, List.mem_flatMap, List.mem_map, eq_comm]

/-- No run of staged entries meets a run of current ones. -/
theorem stagedRuns_staged_current_disjoint : ∀ r ∈ stagedRuns, ∀ q ∈ stagedRuns, r.1 + r.2.2 ≤ q.2.1 ∨ q.2.1 + q.2.2 ≤ r.1 := by
  decide +kernel

/-- Different runs of current entries do not meet. -/
theorem stagedRuns_current_disjoint : ∀ r ∈ stagedRuns, ∀ q ∈ stagedRuns, r = q ∨ r.2.1 + r.2.2 ≤ q.2.1 ∨ q.2.1 + q.2.2 ≤ r.2.1 := by
  decide +kernel

theorem staged_ne_current {p q : Nat × Nat} (hp : p ∈ stagedPairs) (hq : q ∈ stagedPairs) : q.2 ≠ p.1 := by
  obtain ⟨r, hr, i, hi, rfl⟩ := mem_stagedPairs.1 hp
  obtain ⟨r', hr', j, hj, rfl⟩ := mem_stagedPairs.1 hq
  have := stagedRuns_staged_current_disjoint r hr r' hr'
  dsimp only
  omega

theorem stagedPairs_eq_of_current_eq {p q : Nat × Nat} (hp : p ∈ stagedPairs) (hq : q ∈ stagedPairs) (h : q.2 = p.2) : q = p := by
  obtain ⟨r, hr, i, hi, rfl⟩ := mem_stagedPairs.1 hp
  obtain ⟨r', hr', j, hj, rfl⟩ := mem_stagedPairs.1 hq
  dsimp only at h
  rcases stagedRuns_current_disjoint r hr r' hr' with rfl | hdisj
  · rw [show j = i by omega]
  · omega

/-- The value that a commit gives a current entry. -/
def commitValue (s : State) (applied : Bool) (p : Nat × Nat) : Word :=
  if applied then regGet s p.1 else mapGet dictReset s.gfx.committed p.2

/-- A commit writes the current entries, and an applied one records what it wrote; nothing else changes. -/
theorem commitEntries_eq (s : State) (applied : Bool) : commitEntries s applied =
    { s with
      dict := stagedPairs.foldl (fun m p => mapSet dictReset m p.2 (commitValue s applied p)) s.dict,
      gfx := if applied then { s.gfx with
        committed := stagedPairs.foldl (fun m p => mapSet dictReset m p.2 (regGet s p.1)) s.gfx.committed } else s.gfx } := by
  unfold commitEntries
  generalize stagedPairs = pairs
  have hfold := foldl_regSet Prod.snd (commitValue s applied) pairs s
  simp only [commitValue] at hfold
  rw [hfold]
  cases applied <;> rfl

theorem regGet_commitEntries_current (s : State) (applied : Bool) {p : Nat × Nat} (hp : p ∈ stagedPairs) :
    regGet (commitEntries s applied) p.2 = commitValue s applied p := by
  simp only [regGet, commitEntries_eq]
  exact mapGet_foldl_set_mem dictReset Prod.snd (commitValue s applied) stagedPairs s.dict hp fun _ hq => stagedPairs_eq_of_current_eq hp hq

theorem regGet_commitEntries_staged (s : State) (applied : Bool) {p : Nat × Nat} (hp : p ∈ stagedPairs) :
    regGet (commitEntries s applied) p.1 = regGet s p.1 := by
  simp only [regGet, commitEntries_eq]
  exact mapGet_foldl_set_other dictReset Prod.snd (commitValue s applied) stagedPairs s.dict fun _ hq => staged_ne_current hp hq

theorem committed_commitEntries_applied (s : State) {p : Nat × Nat} (hp : p ∈ stagedPairs) :
    mapGet dictReset (commitEntries s true).gfx.committed p.2 = regGet s p.1 := by
  simp only [commitEntries_eq, if_true]
  exact mapGet_foldl_set_mem dictReset Prod.snd (fun q => regGet s q.1) stagedPairs s.gfx.committed hp fun _ hq => stagedPairs_eq_of_current_eq hp hq

theorem currentEntriesOfACommit : Claims.CurrentEntriesOfACommit := fun s _ hp =>
  ⟨regGet_commitEntries_current s true hp, regGet_commitEntries_staged s true hp, regGet_commitEntries_current s false hp,
    regGet_commitEntries_staged s false hp, committed_commitEntries_applied s hp⟩

/-! ### The bound of dithering (R151 to R153) -/

theorem ditherIndex_lt (mode x y frame : Nat) : ditherIndex mode x y frame < 16 := by
  have hmatrix : ∀ v ∈ ditherMatrix, v < 16 := by decide
  have hentry : ∀ o : Option Nat, o = ditherMatrix[y % 4 * 4 + x % 4]? → (match o with | some v => v | none => 0) < 16
    | some v, h => hmatrix v (List.mem_of_getElem? h.symm)
    | none, _ => by decide
  unfold ditherIndex
  dsimp only
  split
  · exact Nat.mod_lt _ (by decide)
  · exact hentry _ rfl

/-- The threshold of an index where `k` bits are dropped (R151). -/
def ditherThreshold (k i : Nat) : Nat := if 4 ≤ k then i * 2 ^ (k - 4) else i / 2 ^ (4 - k)

theorem ditherColour_of_mode_ne_zero {mode : Nat} (d x y frame c : Nat) (h : mode ≠ 0) : ditherColour d mode x y frame c =
    min (2 ^ d - 1) ((c + ditherThreshold (12 - d) (ditherIndex mode x y frame)) / 2 ^ (12 - d)) := if_neg h

theorem ditherColour_mode_zero (d x y frame c : Nat) : ditherColour d 0 x y frame c = c / 2 ^ (12 - d) := rfl

/-- A threshold stays below one step of the output. -/
theorem ditherThreshold_lt {k i : Nat} (hi : i < 16) : ditherThreshold k i < 2 ^ k := by
  unfold ditherThreshold
  split
  next hk =>
    calc i * 2 ^ (k - 4) < 2 ^ 4 * 2 ^ (k - 4) := Nat.mul_lt_mul_of_pos_right hi (Nat.two_pow_pos _)
      _ = 2 ^ k := by rw [← Nat.pow_add, Nat.add_sub_cancel' hk]
  next hk =>
    refine Nat.div_lt_of_lt_mul ?_
    rwa [← Nat.pow_add, show 4 - k + k = 4 by omega]

/-- An output lies between the truncated colour and one step above it. -/
def WithinStep (d c o : Nat) : Prop := c / 2 ^ (12 - d) ≤ o ∧ o ≤ min (2 ^ d - 1) (c / 2 ^ (12 - d) + 1)

theorem div_two_pow_add_le_succ {c t k : Nat} (ht : t < 2 ^ k) : (c + t) / 2 ^ k ≤ c / 2 ^ k + 1 :=
  calc (c + t) / 2 ^ k ≤ (c + 2 ^ k) / 2 ^ k := Nat.div_le_div_right (by omega)
    _ = c / 2 ^ k + 1 := Nat.add_div_right c (Nat.two_pow_pos k)

theorem ditherColour_withinStep {d c : Nat} (hd : d ≤ 12) (hc : c < 4096) (mode x y frame : Nat) :
    WithinStep d c (ditherColour d mode x y frame c) := by
  have hsplit : 2 ^ (12 - d) * 2 ^ d = 4096 := by rw [← Nat.pow_add, Nat.sub_add_cancel hd]
  have htop : c / 2 ^ (12 - d) ≤ 2 ^ d - 1 := Nat.le_sub_one_of_lt (Nat.div_lt_of_lt_mul (hsplit ▸ hc))
  by_cases hmode : mode = 0
  · subst hmode
    rw [ditherColour_mode_zero]
    exact ⟨Nat.le_refl _, Nat.le_min.2 ⟨htop, Nat.le_succ _⟩⟩
  · rw [ditherColour_of_mode_ne_zero _ _ _ _ _ hmode]
    have hstep := div_two_pow_add_le_succ (c := c) (ditherThreshold_lt (k := 12 - d) (ditherIndex_lt mode x y frame))
    exact ⟨Nat.le_min.2 ⟨htop, Nat.div_le_div_right (Nat.le_add_right _ _)⟩,
      Nat.le_min.2 ⟨Nat.min_le_left _ _, Nat.le_trans (Nat.min_le_right _ _) hstep⟩⟩

theorem toNat_clampInt_lt (x : Int) : (clampInt 0 4095 x).toNat < 4096 := by
  unfold clampInt
  split
  · decide
  · split <;> omega

/-- Colour processing of a 12-bit colour gives a 12-bit colour (R150). -/
theorem colourProcess_lt (s : State) (base : Nat) {p : Nat × Nat × Nat} (hr : p.1 < 4096) (hg : p.2.1 < 4096) (hb : p.2.2 < 4096) :
    (colourProcess s base p).1 < 4096 ∧ (colourProcess s base p).2.1 < 4096 ∧ (colourProcess s base p).2.2 < 4096 := by
  unfold colourProcess
  dsimp only
  split
  · exact ⟨toNat_clampInt_lt _, toNat_clampInt_lt _, toNat_clampInt_lt _⟩
  · exact ⟨hr, hg, hb⟩

/-- The DITHER setting that a head applies to a pixel: none for a legal one (R152). -/
def pixelMode (s : State) (base : Nat) (p : Mpx) : Nat := if p.legal.isSome then 0 else fld s (compKey base) 2 2

/-- The colour that a head dithers: a legal pixel bypasses colour processing (R152). -/
def pixelColour (s : State) (base : Nat) (p : Mpx) : Nat × Nat × Nat :=
  if p.legal.isSome then (p.r, p.g, p.b) else colourProcess s base (p.r, p.g, p.b)

/-- Whether the bound of R153 is exact for a pixel. -/
def pixelExact (s : State) (base : Nat) (p : Mpx) : Bool := p.legal.isSome || fld s (compKey base) 2 2 == 0

/-- One output of a head for one 12-bit colour of a pixel. -/
def pixelOutput (s : State) (base d x y : Nat) (p : Mpx) (c : Nat) : Nat := ditherColour d (pixelMode s base p) x y (frameNow s) c

theorem headPixel_eq (s : State) (base d x y : Nat) (p : Mpx) : headPixel s base d x y p =
    ((pixelOutput s base d x y p (pixelColour s base p).1, pixelOutput s base d x y p (pixelColour s base p).2.1,
      pixelOutput s base d x y p (pixelColour s base p).2.2), pixelColour s base p) := rfl

theorem boundOk_eq (s : State) (base d : Nat) (p : Mpx) (o c : Nat × Nat × Nat) : boundOk s base d p (o, c) =
    (ditherBound d (pixelExact s base p) c.1 o.1 && ditherBound d (pixelExact s base p) c.2.1 o.2.1 &&
      ditherBound d (pixelExact s base p) c.2.2 o.2.2) := rfl

theorem pixelExact_iff {s : State} {base : Nat} {p : Mpx} :
    pixelExact s base p = true ↔ p.legal.isSome = true ∨ fld s (compKey base) 2 2 = 0 := by
  simp [pixelExact]

theorem pixelColour_lt (s : State) (base : Nat) {p : Mpx} (hr : p.r < 4096) (hg : p.g < 4096) (hb : p.b < 4096) :
    (pixelColour s base p).1 < 4096 ∧ (pixelColour s base p).2.1 < 4096 ∧ (pixelColour s base p).2.2 < 4096 := by
  unfold pixelColour
  split
  · exact ⟨hr, hg, hb⟩
  · exact colourProcess_lt s base hr hg hb

theorem pixelOutput_of_exact {s : State} {base : Nat} {p : Mpx} (d x y c : Nat) (h : pixelExact s base p = true) :
    pixelOutput s base d x y p c = c / 2 ^ (12 - d) := by
  have hmode : pixelMode s base p = 0 := by
    unfold pixelMode
    split
    · rfl
    next hlegal => exact (pixelExact_iff.1 h).resolve_left hlegal
  rw [pixelOutput, hmode, ditherColour_mode_zero]

theorem ditherBound_of_withinStep {d c o : Nat} {exact : Bool} (hstep : WithinStep d c o) (hexact : exact = true → o = c / 2 ^ (12 - d)) :
    ditherBound d exact c o = true := by
  unfold ditherBound
  split
  next h => exact beq_iff_eq.2 (hexact h)
  next => exact Bool.and_eq_true_iff.2 ⟨decide_eq_true hstep.1, decide_eq_true hstep.2⟩

theorem ditherKeepsBound : Claims.DitherKeepsBound := by
  rintro s base d x y k p hd rfl hr hg hb
  obtain ⟨hcr, hcg, hcb⟩ := pixelColour_lt s base hr hg hb
  have hstep : ∀ c < 4096, WithinStep d c (pixelOutput s base d x y p c) :=
    fun c hc => ditherColour_withinStep (by omega) hc _ x y _
  have hexact : ∀ c, pixelExact s base p = true → pixelOutput s base d x y p c = c / 2 ^ (12 - d) := fun c => pixelOutput_of_exact d x y c
  have hbound : ∀ c < 4096, ditherBound d (pixelExact s base p) c (pixelOutput s base d x y p c) = true :=
    fun c hc => ditherBound_of_withinStep (hstep c hc) (hexact c)
  have hcolour : ∀ c < 4096, c / 2 ^ (12 - d) ≤ pixelOutput s base d x y p c ∧
      pixelOutput s base d x y p c ≤ min (2 ^ d - 1) (c / 2 ^ (12 - d) + 1) ∧
      (p.legal.isSome = true ∨ fld s (compKey base) 2 2 = 0 → pixelOutput s base d x y p c = c / 2 ^ (12 - d)) :=
    fun c hc => ⟨(hstep c hc).1, (hstep c hc).2, fun h => hexact c (pixelExact_iff.2 h)⟩
  rw [headPixel_eq]
  refine ⟨?_, fun hlegal => if_pos hlegal, ?_⟩
  · rw [boundOk_eq, hbound _ hcr, hbound _ hcg, hbound _ hcb]; rfl
  · rintro f (rfl | rfl | rfl)
    · exact hcolour _ hcr
    · exact hcolour _ hcg
    · exact hcolour _ hcb

/-- Settles O46: the four claims, each from the lemmas of its part above. -/
theorem fieldAndPixelRules : Obligations.FieldAndPixelRules :=
  ⟨updateMergesSelectedFields, blitterPixels, currentEntriesOfACommit, ditherKeepsBound⟩

end Sys2Proof.Machine
end

section
/-! PROOFS. The parts of the obligation ParcelsDecodeAsEncoded: signed fields as bit vectors, the halfwords that a fetch reads, and what a parcel and a group
decode to (R260, R261, R274). -/
namespace Sys2Proof.Machine
open Sys2Proof.Claims

/-! ### Signed fields as bit vectors -/

/-- Wrapping an integer into a word is the library's conversion. -/
theorem intWord_eq_ofInt (i : Int) : intWord i = BitVec.ofInt 32 i := by
  refine BitVec.eq_of_toNat_eq ?_
  rw [intWord, ofSigned, BitVec.toNat_ofNat, BitVec.toNat_ofInt]
  exact Nat.mod_eq_of_lt (by omega)

theorem intWord_toInt (w : Word) : intWord w.toInt = w := by rw [intWord_eq_ofInt, BitVec.ofInt_toInt]

/-- Reading `n` bits as two's complement is the library's signed value. -/
theorem toSigned_eq_toInt {n : Nat} (hn : 0 < n) (v : Nat) : toSigned n v = (BitVec.ofNat n v).toInt := by
  obtain ⟨k, rfl⟩ := Nat.exists_eq_succ_of_ne_zero (Nat.ne_of_gt hn)
  rw [toSigned, BitVec.toInt_eq_toNat_cond, BitVec.toNat_ofNat, Nat.succ_sub_one, Nat.pow_succ]
  exact ite_congr (propext (by omega)) (fun _ => rfl) (fun _ => rfl)

/-- A signed field of a parcel is its sign extension. -/
theorem intWord_toSigned {n : Nat} (hn : 0 < n) (v : BitVec n) : intWord (toSigned n v.toNat) = v.signExtend 32 := by
  rw [intWord_eq_ofInt, toSigned_eq_toInt hn, BitVec.ofNat_toNat, BitVec.setWidth_eq]
  rfl

/-! ### Short parcels -/

/-- Bit 15 of a short parcel is 0. -/
theorem short_word_lt (a : Short) : a.word < 2 ^ 15 := by
  cases a with
  | port d r => simp only [Short.word]; omega
  | imm d v => simp only [Short.word]; omega

@[simp] theorem bitAt_short_word (a : Short) : bitAt a.word 15 = false := by
  rw [bitAt_eq_testBit, Nat.testBit_lt_two_pow (short_word_lt a)]

/-- R261: a short parcel decodes to its move. -/
@[simp] theorem shortMove_word (a : Short) : shortMove a.word = a.move := by
  cases a with
  | port d r =>
    have hdst : bits (d.val * 256 + r.val) 8 7 = d.val := by simp only [bits]; omega
    have himm : bitAt (d.val * 256 + r.val) 7 = false := by simp only [bitAt_eq_bits, bits, beq_eq_false_iff_ne]; omega
    have hsrc : bits (d.val * 256 + r.val) 0 7 = r.val := by simp only [bits]; omega
    simp [shortMove, plainMove, Short.word, Short.move, hdst, himm, hsrc]
  | imm d v =>
    have hdst : bits (d.val * 256 + 128 + v.toNat) 8 7 = d.val := by simp only [bits]; omega
    have himm : bitAt (d.val * 256 + 128 + v.toNat) 7 = true := by simp only [bitAt_eq_bits, bits, beq_iff_eq]; omega
    have hval : bits (d.val * 256 + 128 + v.toNat) 0 7 = v.toNat := by simp only [bits]; omega
    simp [shortMove, plainMove, Short.word, Short.move, hdst, himm, hval, intWord_toSigned]

/-! ### Long parcels -/

/-- The word of a long parcel of form A. -/
def longAWord (d : Fin 512) (v : BitVec 21) : Nat := 2 ^ 31 + d.val * 2 ^ 21 + v.toNat

/-- The word of a long parcel of form B. -/
def longBWord (g : Fin 8) (i : Bool) (d r : Fin 512) (e : BitVec 8) : Nat :=
  3 * 2 ^ 30 + g.val * 2 ^ 27 + (if i then 2 ^ 26 else 0) + d.val * 2 ^ 17 + r.val * 2 ^ 8 + e.toNat

/-- The fields of form A in R261's table. -/
theorem bits_longAWord (d : Fin 512) (v : BitVec 21) :
    bits (longAWord d v) 31 1 = 1 ∧ bits (longAWord d v) 30 1 = 0 ∧ bits (longAWord d v) 21 9 = d.val ∧ bits (longAWord d v) 0 21 = v.toNat := by
  simp only [longAWord, bits]
  omega

/-- The fields of form B in R261's table. -/
theorem bits_longBWord (g : Fin 8) (i : Bool) (d r : Fin 512) (e : BitVec 8) :
    bits (longBWord g i d r e) 31 1 = 1 ∧ bits (longBWord g i d r e) 30 1 = 1 ∧ bits (longBWord g i d r e) 27 3 = g.val ∧
    bits (longBWord g i d r e) 26 1 = i.toNat ∧ bits (longBWord g i d r e) 17 9 = d.val ∧ bits (longBWord g i d r e) 8 9 = r.val ∧
    bits (longBWord g i d r e) 0 8 = e.toNat := by
  cases i <;> simp only [longBWord, bits, Bool.toNat_true, Bool.toNat_false, if_true, Bool.false_eq_true, if_false] <;> omega

/-- R261, R274: a long parcel of form A decodes to its move. -/
theorem longMove_longAWord (d : Fin 512) (v : BitVec 21) (latch : Option Nat) :
    ([longMove (longAWord d v) latch], 4) = (Group.longA d v).moves latch := by
  obtain ⟨-, hform, hdst, himm⟩ := bits_longAWord d v
  have h30 : bitAt (longAWord d v) 30 = false := by rw [bitAt_eq_bits, hform]; rfl
  cases latch with
  | none => simp [longMove, Group.moves, h30, hdst, himm, intWord_toSigned]
  | some h => simp [longMove, Group.moves, h30, hdst, himm, natWord]

/-- R261: a long parcel of form B decodes to its move. -/
theorem longMove_longBWord (g : Fin 8) (i : Bool) (d r : Fin 512) (e : BitVec 8) (latch : Option Nat) :
    ([longMove (longBWord g i d r e) latch], 4) = (Group.longB g i d r e).moves latch := by
  obtain ⟨-, hform, hguard, hinv, hdst, hsrc, hext⟩ := bits_longBWord g i d r e
  have h30 : bitAt (longBWord g i d r e) 30 = true := by rw [bitAt_eq_bits, hform]; rfl
  have h26 : bitAt (longBWord g i d r e) 26 = i := by rw [bitAt_eq_bits, hinv]; cases i <;> rfl
  simp [longMove, Group.moves, h30, h26, hguard, hdst, hsrc, hext]

/-! ### Groups -/

/-- A first halfword with bit 15 set begins a long parcel, high half first. -/
theorem groupOf_long {w : Nat} (latch : Option Nat) (h : bits w 31 1 = 1) : groupOf (w / 65536) (w % 65536) latch = ([longMove w latch], 4) := by
  have h15 : bitAt (w / 65536) 15 = true := by
    rw [bitAt_eq_bits, beq_iff_eq]
    simp only [bits] at h ⊢
    omega
  rw [groupOf, if_pos h15, Nat.div_add_mod']

/-- R260, R261: the halfwords of a group decode to the group. -/
theorem groupOf_words (g : Group) (latch : Option Nat) : groupOf g.words.1 g.words.2 latch = g.moves latch := by
  cases g with
  | longA d v =>
    obtain ⟨hlong, -⟩ := bits_longAWord d v
    exact (groupOf_long latch hlong).trans (longMove_longAWord d v latch)
  | longB g i d r e =>
    obtain ⟨hlong, -⟩ := bits_longBWord g i d r e
    exact (groupOf_long latch hlong).trans (longMove_longBWord g i d r e latch)
  | pair a b => simp [groupOf, Group.words, Group.moves]
  | single a n =>
    have hnext : bitAt (32768 + n.val) 15 = true := by
      rw [bitAt_eq_bits, beq_iff_eq]
      simp only [bits]
      omega
    simp [groupOf, Group.words, Group.moves, hnext]

/-! ### The fetch -/

/-- With no byte stored over the code, a fetch reads the instruction RAM whatever the group's length (R297). -/
theorem fetchHalf_of_stale_nil {x : Core} (h : x.stale = []) (addr len a : Nat) :
    fetchHalf x addr len a = ofBytes [byteAt x.iram a, byteAt x.iram (a + 1)] := by
  simp only [fetchHalf, fetchByte, h, List.find?_nil]

theorem fetchGroup_of_stale_nil {x : Core} (h : x.stale = []) (a : Nat) : fetchGroup x a =
    groupOf (ofBytes [byteAt x.iram a, byteAt x.iram (a + 1)]) (ofBytes [byteAt x.iram (a + 2), byteAt x.iram (a + 3)]) (x.immHi.map Prod.fst) := by
  simp only [fetchGroup, fetchHalf_of_stale_nil h, ite_self]

/-- Settles O36: without stale bytes a fetch decodes the halfwords in the instruction RAM, and those of each form of group decode to it. -/
theorem parcelsDecodeAsEncoded : Obligations.ParcelsDecodeAsEncoded := by
  refine ⟨fun g x a hstale hfirst hsecond => ?_, by decide⟩
  rw [fetchGroup_of_stale_nil hstale, hfirst, hsecond, groupOf_words]

end Sys2Proof.Machine
end

section
/-! PROOFS. The parts of the obligation ArithmeticRules: the integers that the ALU, the divider and the multiplier compute (R266, R268, R269, R299). -/
namespace Sys2Proof.Machine

theorem toInt_intWord {i : Int} (hlo : -(2 ^ 31) ≤ i) (hhi : i < 2 ^ 31) : (intWord i).toInt = i := by
  rw [intWord_eq_ofInt, BitVec.toInt_ofInt_eq_self (by decide) hlo hhi]

theorem toNat_natWord {n : Nat} (h : n < 2 ^ 32) : (natWord n).toNat = n := Nat.mod_eq_of_lt h

/-! ### The ALU (R266, R299) -/

/-- R299: `t[7:0]` of 32 and above leaves only copies of the sign, as the quotient by the power of two rounded down does. -/
theorem toInt_aluRes_sra (o t : Word) : (aluRes .sra o t).toInt = o.toInt / 2 ^ (t.toNat % 256) := by
  rw [aluRes, BitVec.toInt_sshiftRight, Int.shiftRight_eq_div_pow]
  rfl

theorem toNat_aluRes_shl (o t : Word) : (aluRes .shl o t).toNat = o.toNat * 2 ^ (t.toNat % 256) % 2 ^ 32 := by
  rw [aluRes, BitVec.toNat_shiftLeft, Nat.shiftLeft_eq]

theorem toNat_aluRes_shr (o t : Word) : (aluRes .shr o t).toNat = o.toNat / 2 ^ (t.toNat % 256) := by
  rw [aluRes, BitVec.toNat_ushiftRight, Nat.shiftRight_eq_div_pow]

/-- R299: a rotation by `t[4:0]` moves bit `i` to bit `i + t` modulo 32. -/
theorem getLsbD_aluRes_rotl (o t : Word) {i : Nat} (hi : i < 32) : (aluRes .rotl o t).getLsbD ((i + t.toNat) % 32) = o.getLsbD i := by
  rw [aluRes, BitVec.getLsbD_rotateLeft, Nat.mod_mod]
  by_cases hwrap : (i + t.toNat) % 32 < t.toNat % 32
  · rw [decide_eq_true hwrap, cond_true, show 32 - t.toNat % 32 + (i + t.toNat) % 32 = i by omega]
  · rw [decide_eq_false hwrap, cond_false, show (i + t.toNat) % 32 - t.toNat % 32 = i by omega,
      decide_eq_true (Nat.mod_lt _ (by decide)), Bool.true_and]

theorem toInt_aluRes_min (o t : Word) : (aluRes .min o t).toInt = min o.toInt t.toInt := by
  simp only [aluRes, BitVec.slt_iff_toInt_lt]
  split <;> omega

theorem toInt_aluRes_max (o t : Word) : (aluRes .max o t).toInt = max o.toInt t.toInt := by
  simp only [aluRes, BitVec.slt_iff_toInt_lt]
  split <;> omega

theorem toNat_aluRes_minu (o t : Word) : (aluRes .minu o t).toNat = min o.toNat t.toNat := by
  simp only [aluRes, BitVec.ult_iff_toNat_lt]
  split <;> omega

theorem toNat_aluRes_maxu (o t : Word) : (aluRes .maxu o t).toNat = max o.toNat t.toNat := by
  simp only [aluRes, BitVec.ult_iff_toNat_lt]
  split <;> omega

theorem getLsbD_aluRes_xor (o t : Word) (i : Nat) : (aluRes .xor o t).getLsbD i = (o.getLsbD i != t.getLsbD i) := BitVec.getLsbD_xor

theorem getLsbD_aluRes_not (o t : Word) {i : Nat} (hi : i < 32) : (aluRes .not o t).getLsbD i = !t.getLsbD i := by
  rw [aluRes, BitVec.getLsbD_not, decide_eq_true hi, Bool.true_and]

theorem getLsbD_aluRes_andn (o t : Word) (i : Nat) : (aluRes .andn o t).getLsbD i = (o.getLsbD i && !t.getLsbD i) := by
  by_cases hi : i < 32
  · rw [aluRes, BitVec.getLsbD_and, BitVec.getLsbD_not, decide_eq_true hi, Bool.true_and]
  · simp [BitVec.getLsbD_of_ge _ i (Nat.not_lt.1 hi)]

/-- The signed value of a word's low bits is its residue around 0. -/
theorem toInt_signExtend_truncate {n : Nat} (hn : n ≤ 32) (t : Word) : ((t.truncate n).signExtend 32).toInt = t.toInt.bmod (2 ^ n) := by
  rw [BitVec.toInt_signExtend_of_le hn, BitVec.truncate_eq_setWidth, BitVec.toInt_setWidth, BitVec.toInt_eq_toNat_bmod,
    Int.bmod_bmod_of_dvd (Nat.pow_dvd_pow 2 hn)]

/-- Signed overflow is an exact result outside the signed words. -/
theorem aluOvf_eq_true_iff {op : AluOp} {o t : Word} {x : Int} (hexact : aluExact op o t = some x) (hres : (aluRes op o t).toInt = x.bmod (2 ^ 32)) :
    aluOvf op o t = true ↔ ¬ (-(2 ^ 31) ≤ x ∧ x < 2 ^ 31) := by
  simp only [aluOvf, hexact, Bool.not_eq_true', beq_eq_false_iff_ne, hres, Int.bmod]
  omega

theorem aluOvf_neg_iff (o t : Word) : aluOvf .neg o t = true ↔ t.toInt = -(2 ^ 31) := by
  rw [aluOvf_eq_true_iff rfl BitVec.toInt_neg]
  have hlt := t.toInt_lt
  have hle := t.le_toInt
  omega

theorem aluOperations : Claims.AluOperations := fun o t =>
  ⟨BitVec.toNat_add o t, BitVec.toNat_sub' o t, BitVec.toNat_sub' t o, fun _ => BitVec.getLsbD_and, fun _ => BitVec.getLsbD_or,
    getLsbD_aluRes_xor o t, getLsbD_aluRes_andn o t, toNat_aluRes_shl o t, toNat_aluRes_shr o t, toInt_aluRes_sra o t,
    fun _ => getLsbD_aluRes_rotl o t, toInt_aluRes_min o t, toInt_aluRes_max o t, toNat_aluRes_minu o t, toNat_aluRes_maxu o t,
    BitVec.toNat_neg t, fun _ => getLsbD_aluRes_not o t,
    (toInt_signExtend_truncate (by decide) t).trans (by rw [Int.bmod]; omega),
    (toInt_signExtend_truncate (by decide) t).trans (by rw [Int.bmod]; omega),
    aluOvf_eq_true_iff rfl (BitVec.toInt_add o t), aluOvf_eq_true_iff rfl BitVec.toInt_sub, aluOvf_eq_true_iff rfl BitVec.toInt_sub,
    aluOvf_neg_iff o t⟩

/-! ### The divider (R269, R299) -/

theorem divRes_zero (signed : Bool) (o : Word) : divRes signed o 0#32 = (0xFFFFFFFF#32, o) := if_pos rfl

theorem divRes_unsigned {o t : Word} (ht : t ≠ 0#32) : divRes false o t = (natWord (o.toNat / t.toNat), natWord (o.toNat % t.toNat)) := if_neg ht

theorem intWord_tdiv (o t : Word) : intWord (o.toInt.tdiv t.toInt) = o.sdiv t :=
  BitVec.eq_of_toInt_eq (by rw [intWord_eq_ofInt, BitVec.toInt_ofInt, BitVec.toInt_sdiv])

theorem intWord_tmod (o t : Word) : intWord (o.toInt.tmod t.toInt) = o.srem t := by
  rw [← BitVec.toInt_srem, intWord_toInt]

/-- The signed division rounds towards zero, and its remainder has the sign of the dividend. -/
theorem divRes_signed {o t : Word} (ht : t ≠ 0#32) : divRes true o t = (o.sdiv t, o.srem t) := by
  rw [divRes, if_neg ht, if_pos rfl, intWord_tdiv, intWord_tmod]

/-- Also where the quotient overflows, since words wrap. -/
theorem sdiv_mul_add_srem (o t : Word) : o.sdiv t * t + o.srem t = o := calc
  o.sdiv t * t + o.srem t
    = BitVec.ofInt 32 (o.toInt.tdiv t.toInt) * BitVec.ofInt 32 t.toInt + BitVec.ofInt 32 (o.toInt.tmod t.toInt) := by
      rw [BitVec.ofInt_toInt, ← intWord_eq_ofInt, ← intWord_eq_ofInt, intWord_tdiv, intWord_tmod]
  _ = BitVec.ofInt 32 (o.toInt.tdiv t.toInt * t.toInt + o.toInt.tmod t.toInt) := by rw [BitVec.ofInt_add, BitVec.ofInt_mul]
  _ = o := by rw [Int.tdiv_mul_add_tmod, BitVec.ofInt_toInt]

theorem divisionRounding : Claims.DivisionRounding := by
  intro o t
  refine ⟨?_, fun ht => ?_⟩
  · rintro rfl
    exact ⟨divRes_zero true o, divRes_zero false o⟩
  · rw [divRes_unsigned ht, divRes_signed ht]
    refine ⟨toNat_natWord (Nat.lt_of_le_of_lt (Nat.div_le_self _ _) o.isLt),
      toNat_natWord (Nat.lt_of_le_of_lt (Nat.mod_le _ _) o.isLt),
      sdiv_mul_add_srem o t, fun h => ⟨?_, BitVec.toInt_srem o t⟩, ?_⟩
    · exact BitVec.toInt_sdiv_of_ne_or_ne o t (Decidable.not_and_iff_or_not.1 h)
    · rintro rfl rfl
      decide

/-! ### The multiplier (R268) -/

theorem toSigned_low (v : Word) : toSigned 16 v.toNat = (v.extractLsb' 0 16).toInt := by
  rw [toSigned_eq_toInt (by decide)]
  rfl

theorem toInt_mulRes_hs (small : Bool) (o t : Word) : (mulRes small .hs o t).toInt = o.toInt * t.toInt / 2 ^ 32 := by
  have hle := BitVec.toInt_mul_toInt_le (x := o) (y := t)
  have hge := BitVec.le_toInt_mul_toInt (x := o) (y := t)
  exact toInt_intWord (by omega) (by omega)

theorem toInt_mulRes_low_signed (o t : Word) :
    (mulRes true .ls o t).toInt = (o.extractLsb' 0 16).toInt * (t.extractLsb' 0 16).toInt := by
  have hle := BitVec.toInt_mul_toInt_le (x := o.extractLsb' 0 16) (y := t.extractLsb' 0 16)
  have hge := BitVec.le_toInt_mul_toInt (x := o.extractLsb' 0 16) (y := t.extractLsb' 0 16)
  rw [mulRes, if_pos rfl, toSigned_low, toSigned_low]
  exact toInt_intWord (by omega) (by omega)

theorem toNat_mulRes_hu (small : Bool) (o t : Word) : (mulRes small .hu o t).toNat = o.toNat * t.toNat / 2 ^ 32 := by
  have hprod : o.toNat * t.toNat < 2 ^ 32 * 2 ^ 32 := Nat.mul_lt_mul'' o.isLt t.isLt
  exact toNat_natWord (by omega)

theorem toNat_mulRes_low_unsigned (o t : Word) : (mulRes true .lu o t).toNat = o.toNat % 65536 * (t.toNat % 65536) := by
  have hprod : o.toNat % 65536 * (t.toNat % 65536) < 65536 * 65536 := Nat.mul_lt_mul'' (Nat.mod_lt _ (by decide)) (Nat.mod_lt _ (by decide))
  exact toNat_natWord (by omega)

theorem portWrites_high_product (c : Nat) {p : Nat} (hp : p = 107 ∨ p = 108) : portWrites c p = true ↔ c < 8 := by
  rcases hp with rfl | rfl <;> simp [portWrites, coreSmall]

theorem portReads_high_product (c : Nat) {p : Nat} (hp : p = 107 ∨ p = 108) : portReads c p = false := by
  rcases hp with rfl | rfl <;> rfl

theorem products : Claims.Products :=
  ⟨fun o t => ⟨BitVec.toNat_mul o t, rfl, toInt_mulRes_hs false o t, toNat_mulRes_hu false o t, toInt_mulRes_low_signed o t,
    toNat_mulRes_low_unsigned o t⟩, fun c _ hp => ⟨portWrites_high_product c hp, portReads_high_product c hp⟩⟩

/-- Settles O38: the three claims, each from the lemmas of its unit above. -/
theorem arithmeticRules : Obligations.ArithmeticRules := ⟨aluOperations, divisionRounding, products⟩

end Sys2Proof.Machine
end
